-- ==== Sys2Proof/Word.lean ====
section
/-!
DEFINITION. The plain value types of the LB256: bytes, clock values, chip serials, and the numbers of its
subjects (00_scope.md section 4.2). Bit vectors stand where the manual treats a value as bits; every subject
number is a `Fin` of the range the manual gives it.
-/

namespace Sys2Proof

/-- One byte, as on the host link and in the band store. -/
abbrev Byte := BitVec 8

/-- A value of the site clock in seconds, 0 to 4,294,967,295 (R110); it wraps. -/
abbrev Stamp := BitVec 32

/-- The 32-bit chip serial of a band (R1). -/
abbrev Serial := BitVec 32

/-- A band number, 0 to 2047. -/
abbrev BandNo := Fin 2048

/-- A locker number, 0 to 255. -/
abbrev LockerNo := Fin 256

/-- A changing cabin number, 0 to 23. -/
abbrev CabinNo := Fin 24

/-- A gate lane number, 0 to 3. -/
abbrev LaneNo := Fin 4

/-- A reader head number, 0 to 283. -/
abbrev HeadNo := Fin 284

/-- A latch string number: 0 to 7 serve lockers, 8 serves cabins. -/
abbrev StringNo := Fin 9

/-- A position on a latch string. -/
abbrev Position := Fin 32

/-- A band cache entry, 0 to 31. -/
abbrev EntryNo := Fin 32

/-- A journal slot, 0 to 511. -/
abbrev SlotNo := Fin 512

/-- A tariff class, 0 to 7. -/
abbrev ClassNo := Fin 8

/-- Every number below `n`, in rising order. -/
abbrev allFin (n : Nat) : List (Fin n) := List.finRange n

end Sys2Proof
end

