-- ==== Sys2Proof/Config.lean ====
section
/-!
DEFINITION. The values the manual leaves open, as constants without a body: nothing can be proved of them, so
whatever is proved holds for every value. Each is applied to the number of the use (`State.free`), so that two
uses need not agree.
-/

namespace Sys2Proof

/-- The byte the memory holds at an address of a record whose write a reset cut off: 'in whatever condition the
memory holds them' (R4). First argument: the number of the use; second: the address. DESIGN CHOICE, log 13;
safe. -/
opaque Config.cutOffByte : Nat → Nat → Byte

/-- The expiry stamp of an arm whose clock plus arm window lies above 4,294,967,295: R126 gives the sum and not
what is held when it does not fit the clock. DESIGN CHOICE, log 15; safe. -/
opaque Config.armStampPastTop : Nat → Stamp

end Sys2Proof
end

