-- ==== Sys2Proof/Syntax.lean ====
section
/-!
DEFINITION. The commands the block takes: one constructor for each row of spec/opcode_table.json, with the row's
operands. A host request is the arrival of a frame whose check is good (R160), with the tag and the body bytes of
that frame, so that the tests of R161 and the argument ranges are the model's own. An event carries what the
outside contributes to it and nothing the part already holds.
-/

namespace Sys2Proof

/-- Reader line A or B. -/
inductive Line where
  | a
  | b
  deriving DecidableEq, Repr

/-- The two beams of a gate lane: outer (foyer side) and inner (hall side). -/
inductive Beam where
  | outer
  | inner
  deriving DecidableEq, Repr

/-- The two pulse outputs of a lane's band slot (R134). -/
inductive SlotLine where
  | swallow
  | eject
  deriving DecidableEq, Repr

/-- The kind of an answer, with what a PRESENT carries (R154). The band number is a `Nat`: an answer may carry one
above 2047. -/
inductive AnswerKind where
  | idle
  | present (band : Nat) (serial : Serial)
  deriving DecidableEq, Repr

/-- What a reader head answers to a poll (R154), beside the head number: its kind and its check as received. -/
structure Answer where
  kind : AnswerKind
  check : Byte
  deriving DecidableEq, Repr

/-- The commands of the LB256, in the table's order. -/
inductive Instr where
  /-- POWER_ON (R171). -/
  | powerOn
  /-- RESET_PIN (R171). -/
  | resetPin
  /-- ENTER_STARTING (R171). -/
  | enterStarting
  /-- HEADER_READ_COMPLETE (R172). `seen`: the bytes the memory answered, where they are not those the model's store holds (log 11). -/
  | headerReadComplete (seen : Option (List Byte))
  /-- MIRROR_READ_COMPLETE (R173). `seen`: as for the header read (log 11). -/
  | mirrorReadComplete (seen : Option (List Byte))
  /-- FRAME_GAP_EXPIRY (R160). `bytes`: the bytes received since the last command of the receive side (log 8). -/
  | frameGapExpiry (bytes : List Byte)
  /-- FRAME_DISCARD (R160). `bytes`: as for the gap (log 8). -/
  | frameDiscard (bytes : List Byte)
  /-- UNKNOWN_REQUEST (R161). -/
  | unknownRequest (kind tag : Byte) (body : List Byte)
  /-- TRANSMIT_END (R164). -/
  | transmitEnd
  /-- STATUS (R169). -/
  | status (tag : Byte) (body : List Byte)
  /-- SET_FLOOR (R168). -/
  | setFloor (tag : Byte) (body : List Byte)
  /-- RESTART (R170). -/
  | restart (tag : Byte) (body : List Byte)
  /-- BAND_ISSUE (R20). -/
  | bandIssue (tag : Byte) (body : List Byte)
  /-- BAND_AMEND (R21). -/
  | bandAmend (tag : Byte) (body : List Byte)
  /-- BAND_TOPUP (R22). -/
  | bandTopup (tag : Byte) (body : List Byte)
  /-- BAND_SETTLE (R22). -/
  | bandSettle (tag : Byte) (body : List Byte)
  /-- BAND_BAR (R23). -/
  | bandBar (tag : Byte) (body : List Byte)
  /-- BAND_UNBAR (R23). -/
  | bandUnbar (tag : Byte) (body : List Byte)
  /-- BAND_RETURN (R24). -/
  | bandReturn (tag : Byte) (body : List Byte)
  /-- BAND_READ (R19). -/
  | bandRead (tag : Byte) (body : List Byte)
  /-- LOCKER_ASSIGN (R66). -/
  | lockerAssign (tag : Byte) (body : List Byte)
  /-- LOCKER_SHARE (R67). -/
  | lockerShare (tag : Byte) (body : List Byte)
  /-- LOCKER_UNSHARE (R67). -/
  | lockerUnshare (tag : Byte) (body : List Byte)
  /-- LOCKER_OPEN (R68). -/
  | lockerOpen (tag : Byte) (body : List Byte)
  /-- LOCKER_RELEASE (R69). -/
  | lockerRelease (tag : Byte) (body : List Byte)
  /-- LOCKER_RESET (R70). -/
  | lockerReset (tag : Byte) (body : List Byte)
  /-- LOCKER_SUSPEND (R71). -/
  | lockerSuspend (tag : Byte) (body : List Byte)
  /-- LOCKER_RESUME (R71). -/
  | lockerResume (tag : Byte) (body : List Byte)
  /-- LOCKER_WATCH (R72). -/
  | lockerWatch (tag : Byte) (body : List Byte)
  /-- STRING_CLOSE (R73). -/
  | stringClose (tag : Byte) (body : List Byte)
  /-- STRING_OPEN (R73). -/
  | stringOpen (tag : Byte) (body : List Byte)
  /-- LOCKER_READ (R74). -/
  | lockerRead (tag : Byte) (body : List Byte)
  /-- STRINGS_FITTED (R76). -/
  | stringsFitted (tag : Byte) (body : List Byte)
  /-- STRING_SETTINGS (R77). -/
  | stringSettings (tag : Byte) (body : List Byte)
  /-- STRING_READ (R89). -/
  | stringRead (tag : Byte) (body : List Byte)
  /-- CABIN_RELEASE (R107). -/
  | cabinRelease (tag : Byte) (body : List Byte)
  /-- CABIN_SUSPEND (R107). -/
  | cabinSuspend (tag : Byte) (body : List Byte)
  /-- CABIN_RESUME (R107). -/
  | cabinResume (tag : Byte) (body : List Byte)
  /-- CABIN_SETTINGS (R108). -/
  | cabinSettings (tag : Byte) (body : List Byte)
  /-- CABIN_READ (R109). -/
  | cabinRead (tag : Byte) (body : List Byte)
  /-- CLOCK_SET (R112). -/
  | clockSet (tag : Byte) (body : List Byte)
  /-- CLOCK_READ (R113). -/
  | clockRead (tag : Byte) (body : List Byte)
  /-- TARIFF_STAGE (R116). -/
  | tariffStage (tag : Byte) (body : List Byte)
  /-- TARIFF_SWITCH (R117). -/
  | tariffSwitch (tag : Byte) (body : List Byte)
  /-- TARIFF_DISCARD (R119). -/
  | tariffDiscard (tag : Byte) (body : List Byte)
  /-- TARIFF_READ (R119). -/
  | tariffRead (tag : Byte) (body : List Byte)
  /-- STAY_QUERY (R124). -/
  | stayQuery (tag : Byte) (body : List Byte)
  /-- LANE_SETTINGS (R138). -/
  | laneSettings (tag : Byte) (body : List Byte)
  /-- LANE_SERVICE (R137). -/
  | laneService (tag : Byte) (body : List Byte)
  /-- CAPACITY_SET (R139). -/
  | capacitySet (tag : Byte) (body : List Byte)
  /-- OCCUPANCY_SET (R139). -/
  | occupancySet (tag : Byte) (body : List Byte)
  /-- LANE_READ (R140). -/
  | laneRead (tag : Byte) (body : List Byte)
  /-- JOURNAL_READ (R148). -/
  | journalRead (tag : Byte) (body : List Byte)
  /-- JOURNAL_OPTIONS (R149). -/
  | journalOptions (tag : Byte) (body : List Byte)
  /-- READER_SETTINGS (R159). -/
  | readerSettings (tag : Byte) (body : List Byte)
  /-- HEAD_READ (R159). -/
  | headRead (tag : Byte) (body : List Byte)
  /-- STORE_FORMAT (R177). -/
  | storeFormat (tag : Byte) (body : List Byte)
  /-- FORMAT_WRITE_COMPLETE (R177). -/
  | formatWriteComplete
  /-- STORE_RESTART (R178). -/
  | storeRestart (tag : Byte) (body : List Byte)
  /-- FETCH_COMPLETE (R7). `seen`: as for the header read (log 11). -/
  | fetchComplete (seen : Option (List Byte))
  /-- WRITE_COMPLETE (R10). -/
  | writeComplete
  /-- HEADER_WRITE_COMPLETE (R11). -/
  | headerWriteComplete
  /-- MIRROR_WRITE_COMPLETE (R13). -/
  | mirrorWriteComplete
  /-- TRANSFER_TIMEOUT (R14). -/
  | transferTimeout
  /-- POLL_ANSWER (R155). The answer names its head. -/
  | pollAnswer (line : Line) (head : Nat) (answer : Answer)
  /-- POLL_WINDOW_EXPIRY (R157). -/
  | pollWindowExpiry (line : Line)
  /-- ANSWER_DISCARD (R154). -/
  | answerDiscard (line : Line)
  /-- PROBE_TIMER_EXPIRY (R158). -/
  | probeTimerExpiry
  /-- PROBE_ANSWER (R158). The answer names its head. -/
  | probeAnswer (line : Line) (head : Nat) (answer : Answer)
  /-- PROBE_WINDOW_EXPIRY (R158). -/
  | probeWindowExpiry (line : Line)
  /-- PULSE_START (R81). -/
  | pulseStart (string : StringNo)
  /-- PULSE_END (R82). -/
  | pulseEnd (string : StringNo)
  /-- REST_EXPIRY (R82). -/
  | restExpiry (string : StringNo)
  /-- LOCKER_CONFIRM_EXPIRY (R58). -/
  | lockerConfirmExpiry (locker : LockerNo)
  /-- STRING_SCAN (R86). The samples of one scan: bit p of `doors` is set where the door of position p reads open, of `bolts` where its bolt reads thrown. -/
  | stringScan (string : StringNo) (doors bolts : BitVec 32)
  /-- CABIN_CONFIRM_EXPIRY (R99). -/
  | cabinConfirmExpiry (cabin : CabinNo)
  /-- BLINK_EXPIRY (R94). -/
  | blinkExpiry
  /-- SECOND_TIMER_EXPIRY (R110). -/
  | secondTimerExpiry
  /-- MINUTE_PULSE (R114). -/
  | minutePulse
  /-- BEAM_EDGE (R127). The beam input takes the level `broken`. -/
  | beamEdge (lane : LaneNo) (beam : Beam) (broken : Bool)
  /-- COMMIT_RETRY_EXPIRY (R131). -/
  | commitRetryExpiry (lane : LaneNo)
  /-- LINE_PULSE_EXPIRY (R134). -/
  | linePulseExpiry (lane : LaneNo) (line : SlotLine)
  /-- ARM_TIMER_EXPIRY (R135). -/
  | armTimerExpiry (lane : LaneNo)
  deriving DecidableEq, Repr

end Sys2Proof
end

