-- ==== Sys2Proof/Decode.lean ====
section
/-!
DEFINITION. The command a word spells by the table's bits. spec/opcode_table.json gives no row any bits: every
command comes from outside as a frame or an event, so no word spells one.
-/

namespace Sys2Proof

/-- The command of a word of `nbits` bits, numbered as the table numbers them: none, for the table gives no row any
bits. -/
def decodeTableWord (_nbits _w : Nat) : Option Instr := none

end Sys2Proof
end

