-- ==== Sys2Proof/Machine/State.lean ====
section
/-!
DEFINITION. The state of the LB256 as plain data: one block of State for each block of the part (00_scope.md
section 2.1), the stored settings, the band store memory behind the store port, and the queue of commands.
INVENTORY.md lists every piece with the rule that names it. The updates of State's blocks and the machine right
after reset stand at the end.
-/

namespace Sys2Proof.Machine

/-! ### Bands (chapter 1) -/

/-- The life of a band (R1). -/
inductive BandState where
  | free
  | issued
  | inside
  | returned
  | barred
  deriving DecidableEq, Repr

/-- The state UNBAR restores (R1). -/
inductive BeforeBar where
  | issued
  | inside
  deriving DecidableEq, Repr

/-- A band record (R1). Its check is computed afresh each time the record is written, so it is no field. -/
structure BandRecord where
  state : BandState
  beforeBar : Option BeforeBar
  serial : Serial
  cls : ClassNo
  paid : Nat
  entry : Option Stamp
  credit : Nat
  settled : Nat
  mask : BitVec 8
  cabinRight : Bool
  master : Bool
  deriving DecidableEq, Repr

/-- The FREE record, every field zero: what 32 bytes of 00h spell (R1, R8). -/
def BandRecord.free : BandRecord where
  state := .free
  beforeBar := none
  serial := 0
  cls := 0
  paid := 0
  entry := none
  credit := 0
  settled := 0
  mask := 0
  cabinRight := false
  master := false

/-- A presentation record (R25). `decided` tells DECIDED from AWAITING_RECORD; `superseded` is clear on every
record a head holds and travels with the lookup once the presentation has left the head's slot (R27). -/
structure Presentation where
  band : BandNo
  serial : Serial
  arrival : Stamp
  decided : Bool
  superseded : Bool
  deriving DecidableEq, Repr

/-- A host request that is a band operation, with its arguments as sent: they are checked at service (R18). -/
inductive BandRequest where
  | issue (serial : Serial) (cls paid credit : Nat) (mask rights : Byte)
  | amend (cls paid : Nat) (mask rights : Byte)
  | topup (amount : Nat)
  | settle (amount : Nat)
  | bar
  | unbar
  | ret
  | read
  | assign (locker : LockerNo)
  | share (locker : LockerNo)
  | stayQuery
  deriving DecidableEq, Repr

/-- A band operation (R5): a presentation's lookup, a host request, the admission commit of a lane (R131), or an
ownership check of the start-up sequence (R174). -/
inductive Waiter where
  | lookup (head : HeadNo) (p : Presentation)
  | request (r : BandRequest)
  | commit (lane : LaneNo) (stamp : Stamp)
  | ownerCheck (locker : LockerNo)
  | companionCheck (locker : LockerNo)
  deriving DecidableEq, Repr

/-- What a cache entry holds (R4): EMPTY, FILLING a band number, or VALID with a band's record. -/
inductive EntryContent where
  | empty
  | filling (band : BandNo)
  | valid (band : BandNo) (rec : BandRecord)
  deriving DecidableEq, Repr

/-- A band cache entry (R4). Its place in the last-use order stands in `BandUnit.lastUse`. -/
structure CacheEntry where
  content : EntryContent
  waiters : List Waiter
  writePending : Bool
  deriving DecidableEq, Repr

/-- A request in the store queue (R11). -/
inductive PortRequest where
  | fetch (entry : EntryNo)
  | write (entry : EntryNo)
  | headerWrite
  deriving DecidableEq, Repr

/-- The state of the store port (R12). -/
inductive PortState where
  | ready
  | transfer
  | fault
  deriving DecidableEq, Repr

/-- A transfer of the store port with what it captured at its start (R3, R9, R11, R13, R172, R173, R177). -/
inductive Transfer where
  | fetch (entry : EntryNo) (band : BandNo)
  | write (entry : EntryNo) (band : BandNo) (bytes : List Byte)
  | headerWrite (bytes : List Byte)
  | mirrorWrite (locker : LockerNo) (addr : Nat) (bytes : List Byte)
  | headerRead
  | mirrorRead (locker : LockerNo)
  | formatWrite (addr : Nat) (bytes : List Byte)
  deriving DecidableEq, Repr

/-- The transfer in flight; `retried` is its first-failure record (R14, R17). -/
structure InFlight where
  transfer : Transfer
  retried : Bool
  deriving DecidableEq, Repr

/-- A tariff class record (R115). -/
structure TariffClass where
  grace : Nat
  block : Nat
  price : Nat
  cap : Nat
  deriving DecidableEq, Repr

/-- A tariff table: eight class records (R115). -/
abbrev TariffTable := Vector TariffClass 8

/-- The pulse settings of one string (R75), in ms. -/
structure StringSettings where
  pulse : Nat
  rest : Nat
  window : Nat
  deriving DecidableEq, Repr

/-- The role of a gate lane (R125). -/
inductive LaneRole where
  | entry
  | exit
  deriving DecidableEq, Repr

/-- The stored settings as held, with the active tariff table: what a HEADER WRITE captures (R11, R172). The band
table length is 256 times `tableUnits` plus one (R3). -/
structure Settings where
  tableUnits : Fin 8
  fittedStrings : Nat
  strings : Vector StringSettings 9
  fittedLanes : Nat
  roles : Vector LaneRole 4
  armWindow : Nat
  capacity : Nat
  margin : Nat
  cabinLimit : Nat
  cabinGrace : Nat
  halfPeriod : Nat
  pollWindow : Nat
  missLimit : Nat
  refusals : Bool
  tariff : TariffTable
  deriving DecidableEq, Repr

/-- The band table length: 256 to 2048 in steps of 256 (R3). -/
def Settings.tableLength (x : Settings) : Nat := 256 * (x.tableUnits.val + 1)

/-- The defaults of every stored setting (R3, R75, R92, R115, R125, R129, R149, R151). -/
def Settings.default : Settings where
  tableUnits := 7
  fittedStrings := 8
  strings := Vector.replicate 9 ⟨120, 200, 800⟩
  fittedLanes := 2
  roles := #v[.entry, .exit, .entry, .exit]
  armWindow := 8
  capacity := 400
  margin := 10
  cabinLimit := 900
  cabinGrace := 300
  halfPeriod := 250
  pollWindow := 5
  missLimit := 3
  refusals := false
  tariff := Vector.replicate 8 ⟨0, 15, 0, 0⟩

/-! ### Lockers (chapter 3) and cabins (chapter 5) -/

/-- The nine locker states (R46). -/
inductive LockerState where
  | vacant
  | locking
  | locked
  | unlocking
  | opened
  | abandoned
  | forced
  | jammed
  | suspended
  deriving DecidableEq, Repr

/-- The locker actions (R45). -/
inductive LockerAction where
  | claim
  | lock
  | unlock
  | masterOpen
  | deskOpen
  | release
  | reset
  deriving DecidableEq, Repr

/-- The capacity in which an action is taken (00_scope.md section 3.1). -/
inductive Party where
  | owner
  | companion
  | master
  | desk
  deriving DecidableEq, Repr

/-- The stage of a locker or cabin action's pulse (R45, R92). -/
inductive SubPhase where
  | queued
  | inFlight
  | confirming
  deriving DecidableEq, Repr

/-- The slot and lap of a subject's open journal entry (R143). -/
structure JournalLink where
  slot : SlotNo
  lap : BitVec 16
  deriving DecidableEq, Repr

/-- The action under way at a locker: present exactly while it is LOCKING or UNLOCKING (R45). -/
structure LockerWork where
  action : LockerAction
  band : Option BandNo
  party : Party
  prior : LockerState
  sub : SubPhase
  deriving DecidableEq, Repr

/-- A locker record (R45). `window` is the length of the confirm window that runs (R56, R84), in ms. -/
structure Locker where
  state : LockerState
  owner : Option BandNo
  companions : List BandNo
  work : Option LockerWork
  retryUsed : Bool
  doorOpened : Bool
  window : Option Nat
  link : Option JournalLink
  watch : Bool
  dirty : Bool
  deriving DecidableEq, Repr

/-- A locker at its reset values (R45). -/
def Locker.atReset : Locker where
  state := .vacant
  owner := none
  companions := []
  work := none
  retryUsed := false
  doorOpened := false
  window := none
  link := none
  watch := false
  dirty := false

/-- The locker engine: the 256 records and the closed flags of strings 0 to 7 (R45, R73). The owner map and the
companion index are read off the records (log 17). -/
structure LockerEngine where
  table : Vector Locker 256
  closed : Vector Bool 8
  deriving DecidableEq, Repr

/-- The six cabin states (R93). -/
inductive CabinState where
  | free
  | closing
  | held
  | overdue
  | opening
  | suspended
  deriving DecidableEq, Repr

/-- The cabin actions (R92). -/
inductive CabinAction where
  | claim
  | opn
  | release
  | undo
  | forcedOpen
  | restore
  deriving DecidableEq, Repr

/-- The action under way at a cabin: present exactly while it is CLOSING or OPENING (R92). -/
structure CabinWork where
  action : CabinAction
  band : Option BandNo
  party : Party
  stamp : Stamp
  prior : CabinState
  sub : SubPhase
  deriving DecidableEq, Repr

/-- A cabin record (R92). `window` is the length of the confirm window that runs (R99), in ms. -/
structure Cabin where
  state : CabinState
  holder : Option BandNo
  work : Option CabinWork
  retryUsed : Bool
  due1 : Option Stamp
  due2 : Option Stamp
  expiryMark : Bool
  releaseMark : Bool
  window : Option Nat
  link : Option JournalLink
  deriving DecidableEq, Repr

/-- A cabin at its reset values (R92). -/
def Cabin.atReset : Cabin where
  state := .free
  holder := none
  work := none
  retryUsed := false
  due1 := none
  due2 := none
  expiryMark := false
  releaseMark := false
  window := none
  link := none

/-- The blink generator (R94); `interval` is the length in ms of the interval that runs. -/
structure Blink where
  count : Fin 4
  fast : Bool
  slow : Bool
  interval : Nat
  deriving DecidableEq, Repr

/-- The cabin unit (R92, R94). -/
structure CabinUnit where
  table : Vector Cabin 24
  blink : Blink
  deriving DecidableEq, Repr

/-! ### Latch strings and contacts (chapter 4) -/

/-- The two pulse directions. -/
inductive Direction where
  | throw
  | withdraw
  deriving DecidableEq, Repr

/-- Whether a string is in service (R75). -/
inductive Fitting where
  | notFitted
  | establishing
  | fitted
  deriving DecidableEq, Repr

/-- A pulse entry (R78). -/
structure Pulse where
  position : Position
  direction : Direction
  deriving DecidableEq, Repr

/-- The coil driver (R75): while PULSING it holds the current pulse; `timer` is the length in ms of the pulse or
rest timer that runs (R81, R82). -/
inductive Driver where
  | idle
  | pulsing (current : Pulse) (timer : Nat)
  | resting (timer : Nat)
  deriving DecidableEq, Repr

/-- A string driver's record (R75); its pulse settings stand in `Settings.strings`. -/
structure StringRecord where
  fitting : Fitting
  queue : List Pulse
  driver : Driver
  deriving DecidableEq, Repr

/-- A string at its reset values (R75). -/
def StringRecord.atReset : StringRecord := ⟨.notFitted, [], .idle⟩

/-- What the scanner keeps for one contact (R85). A level is `true` for a door that is open and for a bolt that is
thrown; `none` is 'unknown' for the accepted level and 'none' for the previous sample. -/
structure Contact where
  accepted : Option Bool
  previous : Option Bool
  count : Nat
  deriving DecidableEq, Repr

/-- A contact at its reset values (R85). -/
def Contact.atReset : Contact := ⟨none, none, 0⟩

/-- The contacts of one string. String 8 uses positions 0 to 23. -/
structure StringContacts where
  doors : Vector Contact 32
  bolts : Vector Contact 32
  deriving DecidableEq, Repr

/-- The contacts of one string at their reset values (R85). -/
def StringContacts.atReset : StringContacts :=
  ⟨Vector.replicate 32 Contact.atReset, Vector.replicate 32 Contact.atReset⟩

/-! ### Gate lanes (chapter 7) -/

/-- The arm of an ARMED lane (R126): the armed band, or none for a master arm; `inbound` is the direction;
`timer` is the length in s of the arm timer that runs. -/
structure Arm where
  band : Option BandNo
  expiry : Stamp
  inbound : Bool
  timer : Nat
  deriving DecidableEq, Repr

/-- An admission commit not yet served (R131); `retrying` is set while its one-second retry timer runs. -/
structure Commit where
  band : BandNo
  stamp : Stamp
  retrying : Bool
  deriving DecidableEq, Repr

/-- The levels of a lane's two beams; `true` is broken (R125). -/
structure Beams where
  outer : Bool
  inner : Bool
  deriving DecidableEq, Repr

/-- A lane record (R125). Its role stands in `Settings.roles`; whether it is fitted follows from the fitted-lane
count (log 18). -/
structure Lane where
  service : Bool
  beams : Beams
  phase : Int
  arm : Option Arm
  commit : Option Commit
  link : Option JournalLink
  turnstile : Bool
  swallow : Bool
  eject : Bool
  deriving DecidableEq, Repr

/-- A lane at its reset values, both beam levels clear (R125). -/
def Lane.atReset : Lane where
  service := false
  beams := ⟨false, false⟩
  phase := 0
  arm := none
  commit := none
  link := none
  turnstile := false
  swallow := false
  eject := false

/-- The lane unit (R125, R128, R129), with the beam input pins of each lane. -/
structure LaneUnit where
  table : Vector Lane 4
  occupancy : Nat
  full : Bool
  pins : Vector Beams 4
  deriving DecidableEq, Repr

/-! ### Clock and accounting (chapter 6) -/

/-- The clock and accounting unit (R110, R116); the active tariff table stands in `Settings.tariff`. -/
structure ClockUnit where
  value : Stamp
  isSet : Bool
  pendingTable : Option TariffTable
  switchStamp : Option Stamp
  deriving DecidableEq, Repr

/-! ### Journal (chapter 8) -/

/-- What a journal entry is about (R141). -/
inductive JournalSubject where
  | locker (n : LockerNo)
  | cabin (n : CabinNo)
  | lane (n : LaneNo)
  deriving DecidableEq, Repr

/-- The refusal reasons in the order of their numbers 1 to 25 (R37). -/
inductive Reason where
  | range
  | void
  | barred
  | tag
  | zone
  | store
  | busy
  | notAdmitted
  | holdsLocker
  | holdsCabin
  | notYours
  | doorOpen
  | lockerSuspended
  | cabinSuspended
  | stringClosed
  | outOfOrder
  | hallFull
  | laneClosed
  | laneBusy
  | alreadyInside
  | notInside
  | lockerLocked
  | cabinHeld
  | owed
  | clockUnset
  deriving DecidableEq, Repr

/-- A verdict (R37). -/
inductive Verdict where
  | grant
  | cancelled
  | refuse (reason : Reason)
  deriving DecidableEq, Repr

/-- The journal's actions (R141); ADMIT is `admission`. The reason of a refusal stands with its action. -/
inductive JournalAction where
  | claim
  | lock
  | unlock
  | masterOpen
  | deskOpen
  | release
  | reset
  | forced
  | cabinClaim
  | cabinRelease
  | cabinExpire
  | admission
  | exit
  | refused (reason : Reason)
  deriving DecidableEq, Repr

/-- How a journalled action ended (R141). -/
inductive EntryOutcome where
  | done
  | cancelled
  | doorOpen
  | jammed
  | expired
  | passed
  | handle
  | forced
  | overtaken
  deriving DecidableEq, Repr

/-- A journal entry (R141). End stamp and outcome are present or absent together; an entry without them is open. -/
structure JournalEntry where
  lap : BitVec 16
  subject : JournalSubject
  band : Option BandNo
  party : Party
  action : JournalAction
  start : Stamp
  finish : Option (Stamp × EntryOutcome)
  deriving DecidableEq, Repr

/-- The journal unit (R142). -/
structure Journal where
  ring : Vector (Option JournalEntry) 512
  pos : SlotNo
  lap : BitVec 16
  overtaken : Option (SlotNo × JournalEntry)
  deriving DecidableEq, Repr

/-! ### Reader lines (chapter 9) -/

/-- The line a head is polled on, or none (R151). -/
inductive HeadState where
  | on (line : Line)
  | offline
  deriving DecidableEq, Repr

/-- Whether a recovery probe is waiting or in flight (R151). -/
inductive ProbeStatus where
  | none
  | due
  | inFlight
  deriving DecidableEq, Repr

/-- A roster record (R151). -/
structure HeadRecord where
  state : HeadState
  miss : Nat
  tried : Bool
  verdict : Option Verdict
  probeLine : Line
  probe : ProbeStatus
  deriving DecidableEq, Repr

/-- A roster record at its reset values (R151). -/
def HeadRecord.atReset : HeadRecord := ⟨.on .a, 0, false, none, .a, .none⟩

/-- A poll or probe in flight (R154). `clears` is set while the verdict it carries is still the head's pending
verdict (R155, R156); `stale` is set once its head has left service (R152); `window` is the length in ms of its
response window. -/
structure Poll where
  head : HeadNo
  probe : Bool
  carried : Option Verdict
  clears : Bool
  stale : Bool
  window : Nat
  deriving DecidableEq, Repr

/-- A line engine (R153): the last-polled head, whether its last exchange was a roster poll, and the poll in
flight. -/
structure Engine where
  last : Option HeadNo
  lastWasRoster : Bool
  poll : Option Poll
  deriving DecidableEq, Repr

/-- The reader line controller (R151). -/
structure Reader where
  roster : Vector HeadRecord 284
  engineA : Engine
  engineB : Engine
  deriving DecidableEq, Repr

/-! ### Host link (chapter 10) -/

/-- The result codes in the order of their numbers 00h to 09h (10.1.2, R162). -/
inductive Result where
  | ok
  | busy
  | unknown
  | malformed
  | range
  | state
  | full
  | store
  | starting
  | clockUnset
  deriving DecidableEq, Repr

/-- The part states (R171). -/
inductive PartState where
  | starting
  | running
  | noStore
  deriving DecidableEq, Repr

/-- The notice kinds in the order of their codes 01h to 17h (R167). -/
inductive NoticeKind where
  | storeFault
  | lockerForced
  | lockerJammed
  | cabinJammed
  | cabinForced
  | lockerAbandoned
  | headOffline
  | cabinExpired
  | tailgate
  | wrongWay
  | hallFull
  | cabinOverdue
  | armExpired
  | recordDamaged
  | hallResumed
  | journalHalf
  | journalWrap
  | tariffSwitched
  | watch
  | startComplete
  | lineSwitched
  | headRestored
  | clockAdjusted
  deriving DecidableEq, Repr

/-- The subject of a notice (10.1.3). -/
inductive NoticeSubject where
  | none
  | band (n : BandNo)
  | locker (n : LockerNo)
  | cabin (n : CabinNo)
  | lane (n : LaneNo)
  | head (n : HeadNo)
  | lap (n : BitVec 16)
  deriving DecidableEq, Repr

/-- A notice (R165); its level follows from its kind (R167). -/
structure Notice where
  kind : NoticeKind
  subject : NoticeSubject
  stamp : Stamp
  deriving DecidableEq, Repr

/-- The data of the STATUS reply (R169). -/
structure StatusData where
  part : PartState
  clock : Stamp
  clockSet : Bool
  overflow : Bool
  held : Nat
  floor : Fin 8
  port : PortState
  queueLength : Nat
  entriesInUse : Nat
  tableLength : Nat
  stringsFitted : Nat
  lanesFitted : Nat
  occupancy : Nat
  full : Bool
  deriving DecidableEq, Repr

/-- The data of the LOCKER READ reply (R74). -/
structure LockerData where
  number : LockerNo
  state : LockerState
  owner : Option BandNo
  companions : List BandNo
  work : Option LockerWork
  retryUsed : Bool
  doorOpened : Bool
  doorOpen : Option Bool
  boltThrown : Option Bool
  closed : Bool
  watch : Bool
  dirty : Bool
  link : Option JournalLink
  deriving DecidableEq, Repr

/-- The driver states STRING READ shows (R89). -/
inductive DriverState where
  | idle
  | pulsing
  | resting
  deriving DecidableEq, Repr

/-- The data of the STRING READ reply (R89). `levels` holds the accepted door and bolt level of each position. -/
structure StringData where
  number : StringNo
  fitting : Fitting
  closed : Option Bool
  settings : StringSettings
  driver : DriverState
  current : Option Pulse
  queue : List Pulse
  levels : List (Option Bool × Option Bool)
  deriving DecidableEq, Repr

/-- The lamp modes (R93). -/
inductive LampMode where
  | off
  | steady
  | slow
  | fast
  deriving DecidableEq, Repr

/-- The data of the CABIN READ reply (R109). -/
structure CabinData where
  number : CabinNo
  state : CabinState
  lampMode : LampMode
  lamp : Bool
  holder : Option BandNo
  work : Option CabinWork
  retryUsed : Bool
  expiryMark : Bool
  releaseMark : Bool
  due1 : Option Stamp
  due2 : Option Stamp
  doorOpen : Option Bool
  boltThrown : Option Bool
  link : Option JournalLink
  limit : Nat
  grace : Nat
  halfPeriod : Nat
  deriving DecidableEq, Repr

/-- The figures of the stay arithmetic (R120 to R122, R124). -/
structure StayFigures where
  now : Stamp
  elapsed : Nat
  allowance : Nat
  excess : Nat
  blocks : Nat
  charge : Nat
  settled : Nat
  owed : Nat
  credit : Nat
  deriving DecidableEq, Repr

/-- An arm as LANE READ shows it (R140): the armed band, or none for a master arm, the expiry stamp and the
direction. -/
structure ArmShown where
  band : Option BandNo
  expiry : Stamp
  inbound : Bool
  deriving DecidableEq, Repr

/-- The data of the LANE READ reply (R140). -/
structure LaneData where
  number : LaneNo
  fitted : Bool
  role : LaneRole
  service : Bool
  beams : Beams
  phase : Int
  arm : Option ArmShown
  commit : Option (BandNo × Stamp)
  link : Option JournalLink
  turnstile : Bool
  swallow : Bool
  eject : Bool
  armWindow : Nat
  occupancy : Nat
  capacity : Nat
  margin : Nat
  full : Bool
  deriving DecidableEq, Repr

/-- The data of the HEAD READ reply (R159). `poll` is the line of a poll in flight and whether it is a probe. -/
structure HeadData where
  number : HeadNo
  inService : Bool
  state : HeadState
  miss : Nat
  tried : Bool
  verdict : Option Verdict
  poll : Option (Line × Bool)
  probeLine : Line
  probe : ProbeStatus
  presentation : Option Presentation
  pollWindow : Nat
  missLimit : Nat
  deriving DecidableEq, Repr

/-- The data a reply carries after its result and flags (R162), one form for each rule that gives data. -/
inductive ReplyData where
  | none
  | status (d : StatusData)
  | noticesHeld (n : Nat)
  | money (applied value : Nat)
  | bandRecord (band : BandNo) (bytes : List Byte)
  | locker (d : LockerData)
  | string (d : StringData)
  | cabin (d : CabinData)
  | clock (value : Stamp) (isSet : Bool)
  | tariff (active : TariffTable) (pending : Option TariffTable) (switchStamp : Option Stamp)
  | stay (band : BandNo) (d : StayFigures)
  | occupancy (n : Nat)
  | lane (d : LaneData)
  | journal (bytes : List Byte)
  | head (d : HeadData)
  deriving DecidableEq, Repr

/-- A reply ready to be sent. `own` tells the reply of the outstanding request from a BUSY reply of R163; after
the end of a reply with `restarts` set the part winds down (R170, R177). -/
structure Reply where
  tag : Byte
  result : Result
  data : ReplyData
  own : Bool
  restarts : Bool
  deriving DecidableEq, Repr

/-- A frame the transmit side sends. -/
inductive Frame where
  | reply (r : Reply)
  | notice (n : Notice)
  deriving DecidableEq, Repr

/-- A frame being sent, with the flags byte taken when its transmission started (R164). -/
structure Sending where
  frame : Frame
  flags : Byte
  deriving DecidableEq, Repr

/-- The outstanding request: its kind and tag (R161). -/
structure Outstanding where
  kind : Byte
  tag : Byte
  deriving DecidableEq, Repr

/-- The link controller (R160, R161, R163 to R165). -/
structure Link where
  kept : List Byte
  outstanding : Option Outstanding
  replies : List Reply
  sending : Option Sending
  notices : List Notice
  floor : Fin 8
  overflow : Bool
  deriving DecidableEq, Repr

/-- The link controller with nothing being sent, at its reset values (R160, R161, R163 to R165). -/
def Link.atReset : Link := ⟨[], none, [], none, [], 0, false⟩

/-! ### Start-up (chapter 11) and the band unit's own state -/

/-- The stage of the start-up sequence (R172 to R175). `left` is the number of operations of the ownership check
of this locker that have not ended. -/
inductive Startup where
  | headerRead
  | mirrorRead (locker : LockerNo) (held : Settings)
  | ownership (locker : LockerNo) (left : Nat) (held : Settings)
  | establishing
  | done
  deriving DecidableEq, Repr

/-- The part state, the winding-down interval and the start-up sequence (R171). -/
structure Part where
  part : PartState
  winding : Bool
  startup : Startup
  deriving DecidableEq, Repr

/-- The stage of a STORE FORMAT (R177): waiting for the transfer in flight, at write `n` of the sequence, or ended
and replied. -/
inductive Format where
  | draining
  | writing (n : Nat)
  | ended
  deriving DecidableEq, Repr

/-- What a reply waits on (R10, R11). -/
inductive WaitTarget where
  | entry (e : EntryNo)
  | header
  deriving DecidableEq, Repr

/-- A reply fixed at its service that waits on a write: the first one of its target that starts after the
service; `started` is set at that start (R10). -/
structure ReplyWait where
  target : WaitTarget
  data : ReplyData
  started : Bool
  deriving DecidableEq, Repr

/-- The band unit (R4, R11, R12, R177). -/
structure BandUnit where
  cache : Vector CacheEntry 32
  lastUse : List EntryNo
  queue : List PortRequest
  port : PortState
  inFlight : Option InFlight
  fairness : Nat
  replyWait : Option ReplyWait
  format : Option Format
  deriving DecidableEq, Repr

/-- An EMPTY cache entry (R4). -/
def CacheEntry.atReset : CacheEntry := ⟨.empty, [], false⟩

/-- The band unit at its reset values (R4, R11, R12). -/
def BandUnit.atReset : BandUnit :=
  ⟨Vector.replicate 32 CacheEntry.atReset, [], [], .ready, none, 0, none, none⟩

/-- The band store memory (R3): its bytes in canonical form, and the bytes of records whose write a reset cut off,
each as (address, number of the free value) (R4, log 13). -/
structure Store where
  cells : List Host.Cell
  unsettled : List (Nat × Nat)
  deriving DecidableEq, Repr

/-! ### The state -/

/-- The state of the LB256. `free` is the number of the next free value (log 16); `pending` holds the commands
that wait, first in, first out. -/
structure State where
  part : Part
  link : Link
  settings : Settings
  store : Store
  band : BandUnit
  pres : Vector (Option Presentation) 284
  lockers : LockerEngine
  strings : Vector StringRecord 9
  scanner : Vector StringContacts 9
  cabins : CabinUnit
  clock : ClockUnit
  lanes : LaneUnit
  journal : Journal
  reader : Reader
  free : Nat
  pending : List Instr
  deriving DecidableEq, Repr

/-- The part answers by replies and verdicts and by its store port's FAULT state, and the manual names no
event that stops it: the machine has no fault. Safe: a run never ends in one. -/
inductive Fault where
  deriving DecidableEq, Repr

/-- Why a command has no meaning. -/
inductive Refusal where
  /-- Raised by `exec`'s arm of a command that has no meaning yet; no arm raises it in this model. Safe. -/
  | notModelled (mnemonic : String)
  deriving DecidableEq, Repr

/-! ### Updates of the blocks -/

/-- Replace the block `part`. -/
def State.setPart (s : State) (x : Part) : State := { s with part := x }

/-- Replace the block `link`. -/
def State.setLink (s : State) (x : Link) : State := { s with link := x }

/-- Replace the block `settings`. -/
def State.setSettings (s : State) (x : Settings) : State := { s with settings := x }

/-- Replace the block `store`. -/
def State.setStore (s : State) (x : Store) : State := { s with store := x }

/-- Replace the block `band`. -/
def State.setBand (s : State) (x : BandUnit) : State := { s with band := x }

/-- Replace the block `pres`. -/
def State.setPres (s : State) (x : Vector (Option Presentation) 284) : State := { s with pres := x }

/-- Replace the block `lockers`. -/
def State.setLockers (s : State) (x : LockerEngine) : State := { s with lockers := x }

/-- Replace the block `strings`. -/
def State.setStrings (s : State) (x : Vector StringRecord 9) : State := { s with strings := x }

/-- Replace the block `scanner`. -/
def State.setScanner (s : State) (x : Vector StringContacts 9) : State := { s with scanner := x }

/-- Replace the block `cabins`. -/
def State.setCabins (s : State) (x : CabinUnit) : State := { s with cabins := x }

/-- Replace the block `clock`. -/
def State.setClock (s : State) (x : ClockUnit) : State := { s with clock := x }

/-- Replace the block `lanes`. -/
def State.setLanes (s : State) (x : LaneUnit) : State := { s with lanes := x }

/-- Replace the block `journal`. -/
def State.setJournal (s : State) (x : Journal) : State := { s with journal := x }

/-- Replace the block `reader`. -/
def State.setReader (s : State) (x : Reader) : State := { s with reader := x }

/-- Replace the block `free`. -/
def State.setFree (s : State) (x : Nat) : State := { s with free := x }

/-- Replace the block `pending`. -/
def State.setPending (s : State) (x : List Instr) : State := { s with pending := x }

/-! ### Reset -/

/-- Every block at its reset values before the reset event has started anything: the clock at 0 with the set flag
clear, string 8 ESTABLISHING (R171). -/
def State.cold : State where
  part := ⟨.starting, false, .headerRead⟩
  link := Link.atReset
  settings := Settings.default
  store := ⟨[], []⟩
  band := BandUnit.atReset
  pres := Vector.replicate 284 none
  lockers := ⟨Vector.replicate 256 Locker.atReset, Vector.replicate 8 false⟩
  strings := (Vector.replicate 9 StringRecord.atReset).set 8 ⟨.establishing, [], .idle⟩
  scanner := Vector.replicate 9 StringContacts.atReset
  cabins := ⟨Vector.replicate 24 Cabin.atReset, ⟨0, false, false, 250⟩⟩
  clock := ⟨0, false, none, none⟩
  lanes := ⟨Vector.replicate 4 Lane.atReset, 0, false, Vector.replicate 4 ⟨false, false⟩⟩
  journal := ⟨Vector.replicate 512 none, 0, 0, none⟩
  reader := ⟨Vector.replicate 284 HeadRecord.atReset, ⟨none, false, none⟩, ⟨none, false, none⟩⟩
  free := 0
  pending := []

/-- The machine right after reset: the reset values, with what the reset event itself starts in STARTING, the
header read of the start-up sequence (R171, R172) and engine A's first roster poll, to head 280, whose lane is
fitted by the default count (R153, R125). Log 5. -/
def State.reset : State :=
  { State.cold with
    band := { BandUnit.atReset with port := .transfer, inFlight := some ⟨.headerRead, false⟩ }
    reader := { State.cold.reader with
      engineA := ⟨some 280, true, some ⟨280, false, none, false, false, 5⟩⟩ } }

end Sys2Proof.Machine
end

