-- ==== Sys2Proof/Machine/Bytes.lean ====
section
/-!
DEFINITION. Bytes: multi-byte fields MSB first (10.1.1, 1.1.1), the CRC-8 of the band record (1.1.1) and the
CRC-16 of the host frame (10.1.1).
-/

namespace Sys2Proof.Machine

/-- The value of two bytes, MSB first. -/
def be16 (hi lo : Byte) : Nat := hi.toNat * 256 + lo.toNat

/-- The value of four bytes, MSB first. -/
def be32 (a b c d : Byte) : BitVec 32 := a ++ b ++ c ++ d

/-- A value as two bytes, MSB first. -/
def toBe16 (n : Nat) : List Byte := [BitVec.ofNat 8 (n / 256), BitVec.ofNat 8 n]

/-- A 32-bit value as four bytes, MSB first. -/
def toBe32 (x : BitVec 32) : List Byte :=
  [x.extractLsb' 24 8, x.extractLsb' 16 8, x.extractLsb' 8 8, x.extractLsb' 0 8]

/-- Byte `i` of a list of bytes, 00h past its end. -/
def byteAt (bs : List Byte) (i : Nat) : Byte := bs.getD i 0

/-- One bit of the CRC-8 with polynomial 07h. -/
def crc8Bit (c : Byte) : Byte := if c.msb then (c <<< 1) ^^^ 0x07#8 else c <<< 1

/-- `n` bits of the CRC-8. -/
def crc8Bits : Nat → Byte → Byte
  | 0, c => c
  | n + 1, c => crc8Bits n (crc8Bit c)

/-- The CRC-8 of bytes taken in order, each MSB first: polynomial 07h, initial value 00h, no final inversion
(1.1.1). -/
def crc8 (bs : List Byte) : Byte := bs.foldl (fun c b => crc8Bits 8 (c ^^^ b)) 0

/-- One bit of the CRC-16 with polynomial 1021h. -/
def crc16Bit (c : BitVec 16) : BitVec 16 := if c.msb then (c <<< 1) ^^^ 0x1021#16 else c <<< 1

/-- `n` bits of the CRC-16. -/
def crc16Bits : Nat → BitVec 16 → BitVec 16
  | 0, c => c
  | n + 1, c => crc16Bits n (crc16Bit c)

/-- The CRC-16 of bytes taken in order, each MSB first: polynomial 1021h, initial value FFFFh, no final inversion
(10.1.1). -/
def crc16 (bs : List Byte) : BitVec 16 :=
  bs.foldl (fun c b => crc16Bits 8 (c ^^^ (b ++ 0#8))) 0xFFFF#16

/-- A 16-bit check as two bytes, MSB first. -/
def crc16Bytes (bs : List Byte) : List Byte :=
  [(crc16 bs).extractLsb' 8 8, (crc16 bs).extractLsb' 0 8]

end Sys2Proof.Machine
end

