-- ==== Sys2Proof/Machine/Flags.lean ====
section
/-!
DEFINITION. Codes, levels and the flags byte of the host link (10.1, R167), and the bytes of the frames whose
layout the manual gives; and the messages of the reader lines with their checks (R154).
-/

namespace Sys2Proof.Machine

/-- The part state as shown to the host: STARTING throughout the winding-down interval (R170, R171; log 24). -/
def State.shownPart (s : State) : PartState := if s.part.winding then .starting else s.part.part

/-- Bits 0 to 1 of the flags byte (10.1.2). -/
def PartState.code : PartState → Byte
  | .starting => 0
  | .running => 1
  | .noStore => 2

/-- The flags byte: part state, clock-set flag in bit 2, overflow mark in bit 3 (10.1.2). -/
def State.flagsByte (s : State) : Byte :=
  s.shownPart.code + (if s.clock.isSet then 4 else 0) + (if s.link.overflow then 8 else 0)

/-- The result code (10.1.2). -/
def Result.code : Result → Byte
  | .ok => 0
  | .busy => 1
  | .unknown => 2
  | .malformed => 3
  | .range => 4
  | .state => 5
  | .full => 6
  | .store => 7
  | .starting => 8
  | .clockUnset => 9

/-- The code of a notice kind (R167). -/
def NoticeKind.code : NoticeKind → Byte
  | .storeFault => 0x01
  | .lockerForced => 0x02
  | .lockerJammed => 0x03
  | .cabinJammed => 0x04
  | .cabinForced => 0x05
  | .lockerAbandoned => 0x06
  | .headOffline => 0x07
  | .cabinExpired => 0x08
  | .tailgate => 0x09
  | .wrongWay => 0x0A
  | .hallFull => 0x0B
  | .cabinOverdue => 0x0C
  | .armExpired => 0x0D
  | .recordDamaged => 0x0E
  | .hallResumed => 0x0F
  | .journalHalf => 0x10
  | .journalWrap => 0x11
  | .tariffSwitched => 0x12
  | .watch => 0x13
  | .startComplete => 0x14
  | .lineSwitched => 0x15
  | .headRestored => 0x16
  | .clockAdjusted => 0x17

/-- The level of a notice kind (R167). -/
def NoticeKind.level : NoticeKind → Nat
  | .storeFault => 7
  | .lockerForced => 7
  | .lockerJammed => 6
  | .cabinJammed => 6
  | .cabinForced => 6
  | .lockerAbandoned => 6
  | .headOffline => 6
  | .cabinExpired => 5
  | .tailgate => 5
  | .wrongWay => 5
  | .hallFull => 5
  | .cabinOverdue => 4
  | .armExpired => 4
  | .recordDamaged => 4
  | .hallResumed => 4
  | .journalHalf => 3
  | .journalWrap => 3
  | .tariffSwitched => 3
  | .watch => 3
  | .startComplete => 3
  | .lineSwitched => 2
  | .headRestored => 2
  | .clockAdjusted => 1

/-- The subject kind byte of a notice (10.1.3). -/
def NoticeSubject.kindCode : NoticeSubject → Byte
  | .none => 0
  | .band _ => 1
  | .locker _ => 2
  | .cabin _ => 3
  | .lane _ => 4
  | .head _ => 5
  | .lap _ => 6

/-- The subject number of a notice; 0 when there is no subject (10.1.3). -/
def NoticeSubject.number : NoticeSubject → Nat
  | .none => 0
  | .band n => n.val
  | .locker n => n.val
  | .cabin n => n.val
  | .lane n => n.val
  | .head n => n.val
  | .lap n => n.toNat

/-- The body of a notice frame (10.1.3). -/
def Notice.body (n : Notice) (flags : Byte) : List Byte :=
  [n.kind.code, BitVec.ofNat 8 n.kind.level, flags, n.subject.kindCode] ++ toBe16 n.subject.number ++ toBe32 n.stamp

/-- A frame on the line: start byte, length, kind, tag, body and CRC-16 (10.1.1). -/
def frameBytes (kind tag : Byte) (body : List Byte) : List Byte :=
  let covered := [BitVec.ofNat 8 (body.length + 2), kind, tag] ++ body
  [0x5C] ++ covered ++ crc16Bytes covered

/-- The bytes of a notice's frame: kind 81h, tag 00h (10.1.1, 10.1.3). -/
def Notice.frame (n : Notice) (flags : Byte) : List Byte := frameBytes 0x81 0 (n.body flags)

/-- The bytes of a reply's frame where its data's layout is given: no data, a band record behind its number
(1.1.1), or the journal slots (8.5.1). None where the manual gives the data by items only (log 9). -/
def Reply.frame (r : Reply) (flags : Byte) : Option (List Byte) :=
  match r.data with
  | .none => some (frameBytes 0x80 r.tag [r.result.code, flags])
  | .bandRecord b bs => some (frameBytes 0x80 r.tag ([r.result.code, flags] ++ toBe16 b.val ++ bs))
  | .journal bs => some (frameBytes 0x80 r.tag ([r.result.code, flags] ++ bs))
  | _ => none

/-- The number of a refusal reason, 1 to 25 (R37). -/
def Reason.number : Reason → Nat
  | .range => 1
  | .void => 2
  | .barred => 3
  | .tag => 4
  | .zone => 5
  | .store => 6
  | .busy => 7
  | .notAdmitted => 8
  | .holdsLocker => 9
  | .holdsCabin => 10
  | .notYours => 11
  | .doorOpen => 12
  | .lockerSuspended => 13
  | .cabinSuspended => 14
  | .stringClosed => 15
  | .outOfOrder => 16
  | .hallFull => 17
  | .laneClosed => 18
  | .laneBusy => 19
  | .alreadyInside => 20
  | .notInside => 21
  | .lockerLocked => 22
  | .cabinHeld => 23
  | .owed => 24
  | .clockUnset => 25

/-! ### Messages of the reader lines (R154) -/

/-- A pending verdict, or none, as a poll carries it, in the model's layout (R154; DESIGN CHOICE, log 37). -/
def verdictBytes : Option Verdict → List Byte
  | none => [0, 0]
  | some .grant => [1, 0]
  | some .cancelled => [2, 0]
  | some (.refuse r) => [3, BitVec.ofNat 8 r.number]

/-- The message of a poll or probe (R154): the head number, the verdict it carries or none, and the CRC-8 check, in the
model's layout (log 37). The check is computed from what the poll in flight holds, so it is no field. -/
def Poll.message (p : Poll) : List Byte :=
  let covered := toBe16 p.head.val ++ verdictBytes p.carried
  covered ++ [crc8 covered]

/-- What the check of an answer covers (R154): the head number, the kind, and for PRESENT the band number and the tag
serial, in the model's layout (log 37). -/
def answerCovered (head : Nat) : AnswerKind → List Byte
  | .idle => toBe16 head ++ [0]
  | .present band serial => toBe16 head ++ [1] ++ toBe16 band ++ toBe32 serial

/-- The CRC-8 check a good answer carries (R154). -/
def answerCheck (head : Nat) (a : AnswerKind) : Byte := crc8 (answerCovered head a)

end Sys2Proof.Machine
end

