-- ==== Sys2Proof/Machine/Store.lean ====
section
/-!
DEFINITION. The band store memory (R3): 131,072 bytes held as a list of (address, byte) in one canonical form,
addresses strictly rising and no byte 00h listed. An address that is not listed reads as 00h (DESIGN CHOICE,
log 10). The memory takes a write when its transfer completes.
-/

namespace Sys2Proof.Machine

/-- The size of the band store in bytes: 128 KiB (R3). -/
def storeSize : Nat := 131072

/-- What a byte nothing has written reads as (DESIGN CHOICE, log 10; unsafe). -/
def blankByte : Byte := 0

/-- The byte the cells hold at an address. -/
def readCell : List Host.Cell → Nat → Byte
  | [], _ => blankByte
  | (a, b) :: m, x => if x = a then b else if x < a then blankByte else readCell m x

/-- Put a byte at an address, keeping the canonical form: a byte equal to the blank is not listed. -/
def writeCell : List Host.Cell → Nat → Byte → List Host.Cell
  | [], x, v => if v = blankByte then [] else [(x, v)]
  | (a, b) :: m, x, v =>
    if x = a then (if v = blankByte then m else (x, v) :: m)
    else if x < a then (if v = blankByte then (a, b) :: m else (x, v) :: (a, b) :: m)
    else (a, b) :: writeCell m x v

/-- The canonical form: addresses strictly rising, no listed byte blank. -/
abbrev Memory.wf (m : List Host.Cell) : Prop :=
  m.Pairwise (fun c d => c.1 < d.1) ∧ ∀ c ∈ m, c.2 ≠ blankByte

/-- Put bytes at consecutive addresses. -/
def writeCells (m : List Host.Cell) (a : Nat) : List Byte → List Host.Cell
  | [] => m
  | b :: bs => writeCells (writeCell m a b) (a + 1) bs

/-- The byte of the store at an address: a free value where a reset cut its write off (R4, log 13). -/
def Store.byte (st : Store) (a : Nat) : Byte :=
  match st.unsettled.find? (fun u => u.1 = a) with
  | some u => Config.cutOffByte u.2 a
  | none => readCell st.cells a

/-- The `n` bytes of the store from an address. -/
def Store.bytes (st : Store) (a : Nat) : Nat → List Byte
  | 0 => []
  | n + 1 => st.byte a :: st.bytes (a + 1) n

/-- Bytes written to the store. -/
def Store.write (st : Store) (a : Nat) (bs : List Byte) : Store :=
  { cells := writeCells st.cells a bs
    unsettled := st.unsettled.filter (fun u => u.1 < a || a + bs.length ≤ u.1) }

/-- A write of `len` bytes cut off by a reset: the bytes are in whatever condition the memory holds them (R4). -/
def Store.cutOff (st : Store) (a len n : Nat) : Store :=
  { st with
    unsettled := (List.range len).map (fun i => (a + i, n)) ++
      st.unsettled.filter (fun u => u.1 < a || a + len ≤ u.1) }

/-- The position of band record `n`: 256 + 32 × n (R3). -/
def bandAddress (n : BandNo) : Nat := 256 + 32 * n.val

/-- The position of mirror record `k` behind a band table of the given length (R3). -/
def mirrorAddress (tableLength : Nat) (k : LockerNo) : Nat := 256 + 32 * tableLength + 16 * k.val

/-- What the memory answers at a read of `n` bytes: the bytes it holds, or other bytes the environment says it
holds, which the store then holds (log 11). -/
def Store.seen (st : Store) (a n : Nat) : Option (List Byte) → Store
  | none => st
  | some bs => st.write a (bs.take n)

end Sys2Proof.Machine
end

