-- ==== Sys2Proof/Machine/Records.lean ====
section
/-!
DEFINITION. The records of the band store: the band record with its check and the judgement of R2, the header
(R3, R172) and the mirror record (R3, R48, R173). The byte layout of the header behind its signature and of the
mirror record is internal to the part and not given: it is fixed here (DESIGN CHOICE, log 12).
-/

namespace Sys2Proof.Machine

/-! ### The band record -/

/-- The state byte (1.1.1). -/
def BandState.code : BandState → Byte
  | .free => 0
  | .issued => 1
  | .inside => 2
  | .returned => 3
  | .barred => 4

/-- The state before bar byte (1.1.1). -/
def beforeBarCode : Option BeforeBar → Byte
  | none => 0
  | some .issued => 1
  | some .inside => 2

/-- The flags byte of a band record: bit 0 cabin right, bit 1 master, bit 2 entry stamp present (1.1.1). -/
def BandRecord.flags (r : BandRecord) : Byte :=
  (if r.cabinRight then 1 else 0) + (if r.master then 2 else 0) + (if r.entry.isSome then 4 else 0)

/-- Bytes 0 to 30 of a band record (1.1.1). -/
def BandRecord.body (r : BandRecord) : List Byte :=
  [r.state.code, beforeBarCode r.beforeBar] ++ toBe32 r.serial ++
    [BitVec.ofNat 8 r.cls.val, r.flags, r.mask] ++ toBe16 r.paid ++
    toBe32 (r.entry.getD 0) ++ toBe16 r.credit ++ toBe16 r.settled ++ List.replicate 12 0

/-- The 32 bytes of a band record, its check computed afresh (R1, R9). -/
def BandRecord.encode (r : BandRecord) : List Byte := r.body ++ [crc8 r.body]

/-- Whether the record with this state byte and state before bar byte carries an entry stamp (R1, R2). -/
def stampExpected (state before : Byte) : Bool := state = 2 || (state = 4 && before = 2)

/-- Whether 32 fetched bytes are DAMAGED: the nine tests of R2, in its order. -/
def recordDamaged (bs : List Byte) : Bool :=
  (byteAt bs 31 != crc8 (bs.take 31))
  || decide (4 < (byteAt bs 0).toNat)
  || (byteAt bs 0 != 4 && byteAt bs 1 != 0)
  || (byteAt bs 0 == 4 && byteAt bs 1 != 1 && byteAt bs 1 != 2)
  || (decide (7 < (byteAt bs 6).toNat) || decide (1440 < be16 (byteAt bs 9) (byteAt bs 10))
      || decide (8 ≤ (byteAt bs 7).toNat))
  || ((byteAt bs 7).getLsbD 2 != stampExpected (byteAt bs 0) (byteAt bs 1))
  || (byteAt bs 0 == 0 && ((bs.take 31).drop 1).any (· != 0))
  || (byteAt bs 0 != 0 && be32 (byteAt bs 2) (byteAt bs 3) (byteAt bs 4) (byteAt bs 5) == 0)
  || ((bs.take 31).drop 19).any (· != 0)

/-- The state a state byte names. -/
def bandStateOf (b : Byte) : BandState :=
  if b = 1 then .issued else if b = 2 then .inside else if b = 3 then .returned
  else if b = 4 then .barred else .free

/-- The state before bar a byte names. -/
def beforeBarOf (b : Byte) : Option BeforeBar :=
  if b = 1 then some .issued else if b = 2 then some .inside else none

/-- The record of 32 bytes that are good (1.1.1). -/
def recordOf (bs : List Byte) : BandRecord where
  state := bandStateOf (byteAt bs 0)
  beforeBar := beforeBarOf (byteAt bs 1)
  serial := be32 (byteAt bs 2) (byteAt bs 3) (byteAt bs 4) (byteAt bs 5)
  cls := Fin.ofNat 8 (byteAt bs 6).toNat
  paid := be16 (byteAt bs 9) (byteAt bs 10)
  entry := if (byteAt bs 7).getLsbD 2
    then some (be32 (byteAt bs 11) (byteAt bs 12) (byteAt bs 13) (byteAt bs 14)) else none
  credit := be16 (byteAt bs 15) (byteAt bs 16)
  settled := be16 (byteAt bs 17) (byteAt bs 18)
  mask := byteAt bs 8
  cabinRight := (byteAt bs 7).getLsbD 0
  master := (byteAt bs 7).getLsbD 1

/-- The judgement of a fetched record: none where it is DAMAGED (R2). -/
def judgeRecord (bs : List Byte) : Option BandRecord :=
  if recordDamaged bs then none else some (recordOf bs)

/-! ### The header -/

/-- The signature STORE FORMAT writes: 55h 5Ah 4Ch 42h (R3). -/
def signature : List Byte := [0x55, 0x5A, 0x4C, 0x42]

/-- Whether a value lies in a range and on a step of ten. -/
def onTens (lo hi n : Nat) : Bool := decide (lo ≤ n) && decide (n ≤ hi) && n % 10 == 0

/-- Whether a value lies in a range. -/
def within (lo hi n : Nat) : Bool := decide (lo ≤ n) && decide (n ≤ hi)

/-- The ranges of one string's pulse settings (R75). -/
def StringSettings.inRange (x : StringSettings) : Bool :=
  onTens 20 500 x.pulse && onTens 0 1000 x.rest && onTens 100 3000 x.window

/-- The ranges of one tariff class record (R115). -/
def TariffClass.inRange (x : TariffClass) : Bool :=
  within 0 900 x.grace && within 1 120 x.block && within 0 5000 x.price && within 0 65535 x.cap

/-- Whether every stored setting lies in the range its chapter gives (R172). -/
def Settings.inRange (x : Settings) : Bool :=
  within 1 8 x.fittedStrings && x.strings.toList.all StringSettings.inRange && within 0 4 x.fittedLanes
  && within 2 30 x.armWindow && within 1 999 x.capacity && within 0 50 x.margin
  && within 60 3600 x.cabinLimit && within 0 1800 x.cabinGrace && onTens 100 1000 x.halfPeriod
  && within 2 20 x.pollWindow && within 1 7 x.missLimit && x.tariff.toList.all TariffClass.inRange

/-- The byte of a lane role (10.5). -/
def LaneRole.code : LaneRole → Byte
  | .entry => 0
  | .exit => 1

/-- The role a byte names, if it names one (10.5). -/
def laneRoleOf (b : Byte) : Option LaneRole :=
  if b = 0 then some .entry else if b = 1 then some .exit else none

/-- An on or off value as a byte (10.1.1). -/
def onOffByte (b : Bool) : Byte := if b then 1 else 0

/-- The header's bytes before its filler, in the model's layout (log 12). -/
def Settings.headerFields (x : Settings) : List Byte :=
  signature ++ toBe16 x.tableLength ++ [BitVec.ofNat 8 x.fittedStrings] ++
    x.strings.toList.flatMap (fun g => toBe16 g.pulse ++ toBe16 g.rest ++ toBe16 g.window) ++
    [BitVec.ofNat 8 x.fittedLanes] ++ x.roles.toList.map LaneRole.code ++
    [BitVec.ofNat 8 x.armWindow] ++ toBe16 x.capacity ++ [BitVec.ofNat 8 x.margin] ++
    toBe16 x.cabinLimit ++ toBe16 x.cabinGrace ++ toBe16 x.halfPeriod ++
    [BitVec.ofNat 8 x.pollWindow, BitVec.ofNat 8 x.missLimit, onOffByte x.refusals] ++
    x.tariff.toList.flatMap (fun t => toBe16 t.grace ++ [BitVec.ofNat 8 t.block] ++ toBe16 t.price ++ toBe16 t.cap)

/-- The 255 bytes of the header its check covers. -/
def Settings.headerBody (x : Settings) : List Byte := x.headerFields ++ List.replicate 120 0

/-- The 256 bytes of the header (R3). -/
def Settings.encodeHeader (x : Settings) : List Byte := x.headerBody ++ [crc8 x.headerBody]

/-- Two header bytes from an offset. -/
def headerWord (bs : List Byte) (i : Nat) : Nat := be16 (byteAt bs i) (byteAt bs (i + 1))

/-- The pulse settings of string `i` in a header. -/
def headerString (bs : List Byte) (i : Nat) : StringSettings :=
  ⟨headerWord bs (7 + 6 * i), headerWord bs (9 + 6 * i), headerWord bs (11 + 6 * i)⟩

/-- The tariff class record `i` in a header. -/
def headerClass (bs : List Byte) (i : Nat) : TariffClass :=
  ⟨headerWord bs (79 + 7 * i), (byteAt bs (81 + 7 * i)).toNat, headerWord bs (82 + 7 * i), headerWord bs (84 + 7 * i)⟩

/-- The role of lane `i` in a header; ENTRY where the byte names none, which `judgeHeader` refuses. -/
def headerRole (bs : List Byte) (i : Nat) : LaneRole := (laneRoleOf (byteAt bs (62 + i))).getD .entry

/-- The values of a header. -/
def headerSettings (bs : List Byte) : Settings where
  tableUnits := Fin.ofNat 8 (headerWord bs 4 / 256 - 1)
  fittedStrings := (byteAt bs 6).toNat
  strings := #v[headerString bs 0, headerString bs 1, headerString bs 2, headerString bs 3, headerString bs 4,
    headerString bs 5, headerString bs 6, headerString bs 7, headerString bs 8]
  fittedLanes := (byteAt bs 61).toNat
  roles := #v[headerRole bs 0, headerRole bs 1, headerRole bs 2, headerRole bs 3]
  armWindow := (byteAt bs 66).toNat
  capacity := headerWord bs 67
  margin := (byteAt bs 69).toNat
  cabinLimit := headerWord bs 70
  cabinGrace := headerWord bs 72
  halfPeriod := headerWord bs 74
  pollWindow := (byteAt bs 76).toNat
  missLimit := (byteAt bs 77).toNat
  refusals := byteAt bs 78 == 1
  tariff := #v[headerClass bs 0, headerClass bs 1, headerClass bs 2, headerClass bs 3, headerClass bs 4,
    headerClass bs 5, headerClass bs 6, headerClass bs 7]

/-- The judgement of a header: its values where it is good, none where it is not (R172). -/
def judgeHeader (bs : List Byte) : Option Settings :=
  if bs.take 4 == signature && byteAt bs 255 == crc8 (bs.take 255)
      && within 256 2048 (headerWord bs 4) && headerWord bs 4 % 256 == 0
      && (List.range 4).all (fun i => (laneRoleOf (byteAt bs (62 + i))).isSome)
      && (byteAt bs 78 == 0 || byteAt bs 78 == 1)
      && (headerSettings bs).inRange
  then some (headerSettings bs) else none

/-! ### The mirror record -/

/-- What a MIRROR WRITE stores for a locker (R48): a resting state, an owner and a companion list. -/
structure MirrorImage where
  state : LockerState
  owner : Option BandNo
  companions : List BandNo
  deriving DecidableEq, Repr

/-- The mirror image of a locker (R48): the prior resting state while an action is under way, but OPENED for a
claim, whose prior resting state is VACANT. -/
def Locker.mirrorImage (l : Locker) : MirrorImage where
  state := match l.work with
    | none => l.state
    | some w => if w.action = .claim then .opened else w.prior
  owner := l.owner
  companions := l.companions

/-- The code of a resting state in a mirror record (log 12); 7 stands for no resting state. -/
def restingCode : LockerState → Byte
  | .vacant => 0
  | .locked => 1
  | .opened => 2
  | .abandoned => 3
  | .forced => 4
  | .jammed => 5
  | .suspended => 6
  | .locking => 7
  | .unlocking => 7

/-- The resting state a code names, if it names one (R173). -/
def restingOf (b : Byte) : Option LockerState :=
  if b = 0 then some .vacant else if b = 1 then some .locked else if b = 2 then some .opened
  else if b = 3 then some .abandoned else if b = 4 then some .forced else if b = 5 then some .jammed
  else if b = 6 then some .suspended else none

/-- The two bytes of the companion at a place of the list, 0 past its end. -/
def companionBytes (l : List BandNo) (i : Nat) : List Byte :=
  toBe16 ((l[i]?.map Fin.val).getD 0)

/-- The 15 bytes of a mirror record its check covers, in the model's layout (log 12). -/
def MirrorImage.body (m : MirrorImage) : List Byte :=
  [restingCode m.state, onOffByte m.owner.isSome] ++ toBe16 ((m.owner.map Fin.val).getD 0) ++
    [BitVec.ofNat 8 m.companions.length] ++ companionBytes m.companions 0 ++ companionBytes m.companions 1 ++
    companionBytes m.companions 2 ++ List.replicate 4 0

/-- The 16 bytes of a mirror record (R3). -/
def MirrorImage.encode (m : MirrorImage) : List Byte := m.body ++ [crc8 m.body]

/-- The band numbers of the companion list in a mirror record, as stored. -/
def mirrorCompanions (bs : List Byte) : List Nat :=
  (List.range (byteAt bs 4).toNat).map (fun i => be16 (byteAt bs (5 + 2 * i)) (byteAt bs (6 + 2 * i)))

/-- The owner in a mirror record, as stored. -/
def mirrorOwner (bs : List Byte) : Option Nat :=
  if byteAt bs 1 = 1 then some (be16 (byteAt bs 2) (byteAt bs 3)) else none

/-- A stored band number as a band number. -/
def bandNoOf (n : Nat) : BandNo := Fin.ofNat 2048 n

/-- The judgement of a mirror record: its image where it is good, none where it is not (R173). `owners` and
`companions` are the bands already taken from lower-numbered lockers in this read. -/
def judgeMirror (bs : List Byte) (tableLength : Nat) (owners companions : List BandNo) : Option MirrorImage :=
  match restingOf (byteAt bs 0) with
  | none => none
  | some st =>
    let own := mirrorOwner bs
    let comp := mirrorCompanions bs
    if byteAt bs 15 == crc8 (bs.take 15)
        && decide ((byteAt bs 1).toNat ≤ 1) && decide ((byteAt bs 4).toNat ≤ 3)
        && (if st = .locked ∨ st = .opened then own.isSome else true)
        && (if st = .vacant ∨ st = .abandoned ∨ st = .suspended then own.isNone else true)
        && (own.isSome || comp.isEmpty) && decide comp.Nodup
        && (match own with | none => true | some n => !comp.contains n)
        && (own.toList ++ comp).all (fun n => decide (n < tableLength))
        && (own.toList.map bandNoOf).all (fun b => !owners.contains b)
        && (comp.map bandNoOf).all (fun b => !companions.contains b)
    then some ⟨st, own.map bandNoOf, comp.map bandNoOf⟩ else none

end Sys2Proof.Machine
end

