-- ==== Sys2Proof/Machine/Operands.lean ====
section
/-!
DEFINITION. The host requests of section 10.5: their codes and body lengths, and the forms their arguments take
(10.1.1). The argument ranges are tested by the request's own meaning.
-/

namespace Sys2Proof.Machine

/-- The requests of section 10.5. -/
inductive Request where
  | status
  | setFloor
  | restart
  | bandIssue
  | bandAmend
  | bandTopup
  | bandSettle
  | bandBar
  | bandUnbar
  | bandReturn
  | bandRead
  | lockerAssign
  | lockerShare
  | lockerUnshare
  | lockerOpen
  | lockerRelease
  | lockerReset
  | lockerSuspend
  | lockerResume
  | lockerWatch
  | stringClose
  | stringOpen
  | lockerRead
  | stringsFitted
  | stringSettings
  | stringRead
  | cabinRelease
  | cabinSuspend
  | cabinResume
  | cabinSettings
  | cabinRead
  | clockSet
  | clockRead
  | tariffStage
  | tariffSwitch
  | tariffDiscard
  | tariffRead
  | stayQuery
  | laneSettings
  | laneService
  | capacitySet
  | occupancySet
  | laneRead
  | journalRead
  | journalOptions
  | readerSettings
  | headRead
  | storeFormat
  | storeRestart
  deriving DecidableEq, Repr

/-- The request code and the exact body length of each request (10.5). -/
def Request.form : Request → Byte × Nat
  | .status => (0x01, 0)
  | .setFloor => (0x02, 1)
  | .restart => (0x03, 0)
  | .bandIssue => (0x10, 13)
  | .bandAmend => (0x11, 7)
  | .bandTopup => (0x12, 4)
  | .bandSettle => (0x13, 4)
  | .bandBar => (0x14, 2)
  | .bandUnbar => (0x15, 2)
  | .bandReturn => (0x16, 2)
  | .bandRead => (0x17, 2)
  | .lockerAssign => (0x20, 4)
  | .lockerShare => (0x21, 4)
  | .lockerUnshare => (0x22, 4)
  | .lockerOpen => (0x23, 2)
  | .lockerRelease => (0x24, 2)
  | .lockerReset => (0x25, 2)
  | .lockerSuspend => (0x26, 2)
  | .lockerResume => (0x27, 2)
  | .lockerWatch => (0x28, 3)
  | .stringClose => (0x29, 1)
  | .stringOpen => (0x2A, 1)
  | .lockerRead => (0x2B, 2)
  | .stringsFitted => (0x30, 1)
  | .stringSettings => (0x31, 7)
  | .stringRead => (0x32, 1)
  | .cabinRelease => (0x38, 1)
  | .cabinSuspend => (0x39, 1)
  | .cabinResume => (0x3A, 1)
  | .cabinSettings => (0x3B, 6)
  | .cabinRead => (0x3C, 1)
  | .clockSet => (0x40, 4)
  | .clockRead => (0x41, 0)
  | .tariffStage => (0x42, 8)
  | .tariffSwitch => (0x43, 5)
  | .tariffDiscard => (0x44, 0)
  | .tariffRead => (0x45, 0)
  | .stayQuery => (0x46, 2)
  | .laneSettings => (0x50, 6)
  | .laneService => (0x51, 2)
  | .capacitySet => (0x52, 3)
  | .occupancySet => (0x53, 2)
  | .laneRead => (0x54, 1)
  | .journalRead => (0x58, 3)
  | .journalOptions => (0x59, 1)
  | .readerSettings => (0x60, 2)
  | .headRead => (0x61, 2)
  | .storeFormat => (0x70, 2)
  | .storeRestart => (0x71, 0)

/-- The code of a request (10.5). -/
def Request.code (r : Request) : Byte := r.form.1

/-- The body length test 3 of R161 requires (10.5). -/
def Request.bodyLength (r : Request) : Nat := r.form.2

/-- Every request. -/
def allRequests : List Request :=
  [.status, .setFloor, .restart, .bandIssue, .bandAmend, .bandTopup, .bandSettle, .bandBar, .bandUnbar,
    .bandReturn, .bandRead, .lockerAssign, .lockerShare, .lockerUnshare, .lockerOpen, .lockerRelease, .lockerReset,
    .lockerSuspend, .lockerResume, .lockerWatch, .stringClose, .stringOpen, .lockerRead, .stringsFitted,
    .stringSettings, .stringRead, .cabinRelease, .cabinSuspend, .cabinResume, .cabinSettings, .cabinRead, .clockSet,
    .clockRead, .tariffStage, .tariffSwitch, .tariffDiscard, .tariffRead, .stayQuery, .laneSettings, .laneService,
    .capacitySet, .occupancySet, .laneRead, .journalRead, .journalOptions, .readerSettings, .headRead, .storeFormat,
    .storeRestart]

/-- The request a kind byte names, if it is a request code (R161, test 2). -/
def requestOf (kind : Byte) : Option Request := allRequests.find? (fun r => r.code == kind)

/-- An on or off argument: 00h or 01h, none for any other value (10.1.1). -/
def onOffOf (b : Byte) : Option Bool := if b = 0 then some false else if b = 1 then some true else none

/-- A number as a member of a range, none where it lies outside. -/
def inRangeOf (n : Nat) (v : Nat) : Option (Fin n) := if h : v < n then some ⟨v, h⟩ else none

/-- The bits of a rights byte: bit 0 cabin right, bit 1 master; none where another bit is set (10.5). -/
def rightsOf (b : Byte) : Option (Bool × Bool) :=
  if b.toNat < 4 then some (b.getLsbD 0, b.getLsbD 1) else none

end Sys2Proof.Machine
end

