-- ==== Sys2Proof/Machine/Ops.lean ====
section
/-!
DEFINITION. The named operations the commands share: reading and replacing one record of a block, posting a
notice (R165), giving a reply (R162 to R164), the journal's writes and closes (R143 to R147), the pulse queues
(R79, R80), the accepted contact levels (R90), and asking for a HEADER WRITE (R11).
-/

namespace Sys2Proof.Machine

/-! ### One record of a block -/

/-- The site clock now (R111). -/
def State.now (s : State) : Stamp := s.clock.value

/-- The record of a locker. -/
def State.locker (s : State) (k : LockerNo) : Locker := s.lockers.table[k.val]

/-- Replace the record of a locker. -/
def State.setLocker (s : State) (k : LockerNo) (l : Locker) : State :=
  s.setLockers { s.lockers with table := s.lockers.table.set k.val l }

/-- The record of a cabin. -/
def State.cabin (s : State) (c : CabinNo) : Cabin := s.cabins.table[c.val]

/-- Replace the record of a cabin. -/
def State.setCabin (s : State) (c : CabinNo) (x : Cabin) : State :=
  s.setCabins { s.cabins with table := s.cabins.table.set c.val x }

/-- The record of a lane. -/
def State.lane (s : State) (l : LaneNo) : Lane := s.lanes.table[l.val]

/-- Replace the record of a lane. -/
def State.setLane (s : State) (l : LaneNo) (x : Lane) : State :=
  s.setLanes { s.lanes with table := s.lanes.table.set l.val x }

/-- The record of a string driver. -/
def State.string (s : State) (i : StringNo) : StringRecord := s.strings[i.val]

/-- Replace the record of a string driver. -/
def State.setString (s : State) (i : StringNo) (x : StringRecord) : State :=
  s.setStrings (s.strings.set i.val x)

/-- The contacts of a string. -/
def State.contacts (s : State) (i : StringNo) : StringContacts := s.scanner[i.val]

/-- Replace the contacts of a string. -/
def State.setContacts (s : State) (i : StringNo) (x : StringContacts) : State :=
  s.setScanner (s.scanner.set i.val x)

/-- The presentation record a head holds, if any (R25). -/
def State.slot (s : State) (h : HeadNo) : Option Presentation := s.pres[h.val]

/-- Replace the presentation record of a head. -/
def State.setSlot (s : State) (h : HeadNo) (x : Option Presentation) : State := s.setPres (s.pres.set h.val x)

/-- The roster record of a head. -/
def State.head (s : State) (h : HeadNo) : HeadRecord := s.reader.roster[h.val]

/-- Replace the roster record of a head. -/
def State.setHead (s : State) (h : HeadNo) (x : HeadRecord) : State :=
  s.setReader { s.reader with roster := s.reader.roster.set h.val x }

/-- A line engine. -/
def State.engine (s : State) : Line → Engine
  | .a => s.reader.engineA
  | .b => s.reader.engineB

/-- Replace a line engine. -/
def State.setEngine (s : State) (l : Line) (x : Engine) : State :=
  match l with
  | .a => s.setReader { s.reader with engineA := x }
  | .b => s.setReader { s.reader with engineB := x }

/-- A band cache entry. -/
def State.entry (s : State) (e : EntryNo) : CacheEntry := s.band.cache[e.val]

/-- Replace a band cache entry. -/
def State.setEntry (s : State) (e : EntryNo) (x : CacheEntry) : State :=
  s.setBand { s.band with cache := s.band.cache.set e.val x }

/-- The other reader line. -/
def otherLine : Line → Line
  | .a => .b
  | .b => .a

/-- The string of a locker: k ÷ 32 (R75). -/
def lockerString (k : LockerNo) : StringNo := ⟨k.val / 32, by omega⟩

/-- The position of a locker on its string: k mod 32 (R75). -/
def lockerPosition (k : LockerNo) : Position := ⟨k.val % 32, by omega⟩

/-- The position of a cabin on string 8 (R92). -/
def cabinPosition (c : CabinNo) : Position := ⟨c.val, by omega⟩

/-- The locker at a position of a locker string. -/
def lockerAt (i : Fin 8) (p : Position) : LockerNo := ⟨32 * i.val + p.val, by omega⟩

/-- Whether a string counts as fitted for the other blocks (R75, R90). -/
def State.stringFitted (s : State) (i : StringNo) : Bool := (s.string i).fitting == .fitted

/-- Whether a lane is fitted: lanes 0 up to the fitted-lane count less 1 (R125). -/
def State.laneFitted (s : State) (l : LaneNo) : Bool := decide (l.val < s.settings.fittedLanes)

/-- The role of a lane (R125). -/
def State.laneRole (s : State) (l : LaneNo) : LaneRole := s.settings.roles[l.val]

/-- The pulse settings of a string (R75). -/
def State.stringSettings (s : State) (i : StringNo) : StringSettings := s.settings.strings[i.val]

/-- The closed flag of a locker string (R73). -/
def State.stringClosed (s : State) (i : Fin 8) : Bool := s.lockers.closed[i.val]

/-- The closed flag of a locker's string. -/
def State.lockerStringClosed (s : State) (k : LockerNo) : Bool := s.stringClosed ⟨k.val / 32, by omega⟩

/-- The band table length in force (R3). -/
def State.tableLength (s : State) : Nat := s.settings.tableLength

/-- The accepted door level of a position: `some true` is open, none is unknown (R85, R90). -/
def State.doorOpen (s : State) (i : StringNo) (p : Position) : Option Bool := (s.contacts i).doors[p.val].accepted

/-- The accepted bolt level of a position: `some true` is thrown, none is unknown (R85, R90). -/
def State.boltThrown (s : State) (i : StringNo) (p : Position) : Option Bool := (s.contacts i).bolts[p.val].accepted

/-- The level of the bolt a pulse drives for (R56). -/
def Direction.target : Direction → Bool
  | .throw => true
  | .withdraw => false

/-- The coil of a string that is driven, with its direction; none while no coil is on (section 4.3). -/
def StringRecord.coil (x : StringRecord) : Option Pulse :=
  match x.driver with
  | .pulsing p _ => some p
  | .idle => none
  | .resting _ => none

/-! ### Notices (R165) -/

/-- The lowest level in a list of notices, 8 in an empty one. -/
def lowestLevel (q : List Notice) : Nat := q.foldr (fun n m => min n.kind.level m) 8

/-- The posting of a notice at a queue of up to 32, and whether the overflow mark is set by it (R165). -/
def enqueueNotice (q : List Notice) (n : Notice) : List Notice × Bool :=
  if q.length < 32 then (q ++ [n], false)
  else if lowestLevel q < n.kind.level
    then (q.eraseP (fun m => m.kind.level == lowestLevel q) ++ [n], true)
    else (q, true)

/-- A block posts a notice: the stamp is the site clock at that moment (R165). Where several blocks post in one event,
R165 leaves their order open, and they join in the order of the calls in the model (DESIGN CHOICE, log 45; unsafe). -/
def State.post (s : State) (kind : NoticeKind) (subject : NoticeSubject) : State :=
  let r := enqueueNotice s.link.notices ⟨kind, subject, s.now⟩
  s.setLink { s.link with notices := r.1, overflow := s.link.overflow || r.2 }

/-! ### Replies (R162 to R164) -/

/-- The owning block gives the reply of the outstanding request; `restarts` marks the reply after whose end the
part winds down. -/
def State.giveReply (s : State) (res : Result) (data : ReplyData) (restarts : Bool) : State :=
  match s.link.outstanding with
  | none => s
  | some o => s.setLink { s.link with replies := s.link.replies ++ [⟨o.tag, res, data, true, restarts⟩] }

/-- A reply with data and no restart behind it. -/
def State.reply (s : State) (res : Result) (data : ReplyData) : State := s.giveReply res data false

/-- A reply without data. -/
def State.answer (s : State) (res : Result) : State := s.giveReply res .none false

/-! ### The visit journal (R143 to R147) -/

/-- Whether the journal's WATCH applies: the subject is a locker whose watch flag is on (R147). -/
def State.watched (s : State) : JournalSubject → Bool
  | .locker k => (s.locker k).watch
  | .cabin _ => false
  | .lane _ => false

/-- WATCH for an entry of this subject, if its locker's flag is on (R147). -/
def State.postWatch (s : State) (sub : JournalSubject) : State :=
  match sub with
  | .locker k => if s.watched sub then s.post .watch (.locker k) else s
  | .cabin _ => s
  | .lane _ => s

/-- The overtake test on the slot at the write position: an open entry there is closed OVERTAKEN and copied
(R146). The entry itself is about to be written over. -/
def State.overtake (s : State) : State :=
  match s.journal.ring[s.journal.pos.val] with
  | none => s
  | some e =>
    match e.finish with
    | some _ => s
    | none =>
      (s.setJournal { s.journal with
        overtaken := some (s.journal.pos, { e with finish := some (s.now, .overtaken) }) }).postWatch e.subject

/-- The advance of the write position after a write, with JOURNAL_HALF and JOURNAL_WRAP (R144). -/
def State.advanceJournal (s : State) : State :=
  let p := s.journal.pos
  if p.val = 511 then
    let s := s.setJournal { s.journal with pos := 0, lap := s.journal.lap + 1 }
    s.post .journalWrap (.lap s.journal.lap)
  else
    let s := s.setJournal { s.journal with pos := p + 1 }
    if p.val = 255 then s.post .journalHalf (.lap s.journal.lap) else s

/-- Put an entry into the slot at the write position, with the present lap (R143, R144). -/
def State.writeSlot (s : State) (sub : JournalSubject) (band : Option BandNo) (party : Party)
    (action : JournalAction) (start : Stamp) (finish : Option (Stamp × EntryOutcome)) : State :=
  s.setJournal { s.journal with
    ring := s.journal.ring.set s.journal.pos.val
      (some ⟨s.journal.lap, sub, band, party, action, start, finish⟩) }

/-- A subject opens an entry (R143): answers the link, slot and lap, and the state. The journal unit takes no
request in the winding-down interval (R142). -/
def State.journalOpen (s : State) (sub : JournalSubject) (band : Option BandNo) (party : Party)
    (action : JournalAction) (start : Stamp) : Option JournalLink × State :=
  if s.part.winding then (none, s)
  else
    let s := s.overtake
    (some ⟨s.journal.pos, s.journal.lap⟩, (s.writeSlot sub band party action start none).advanceJournal)

/-- A subject writes a closed entry with end stamp now (R144, R147). -/
def State.journalClosed (s : State) (sub : JournalSubject) (band : Option BandNo) (party : Party)
    (action : JournalAction) (start : Stamp) (outcome : EntryOutcome) : State :=
  if s.part.winding then s
  else (((s.overtake).writeSlot sub band party action start (some (s.now, outcome))).postWatch sub).advanceJournal

/-- A subject closes the entry its link names, which writes nothing where the slot no longer holds that open entry
(R145, R147). The subject clears its link itself. -/
def State.journalClose (s : State) (link : Option JournalLink) (sub : JournalSubject)
    (outcome : EntryOutcome) : State :=
  match link with
  | none => s
  | some l =>
    match s.journal.ring[l.slot.val] with
    | none => s
    | some e =>
      if !s.part.winding && e.lap == l.lap && e.subject == sub && e.finish.isNone then
        (s.setJournal { s.journal with
          ring := s.journal.ring.set l.slot.val (some { e with finish := some (s.now, outcome) }) }).postWatch sub
      else s

/-! ### Pulse queues (R79, R80) -/

/-- An owner places a pulse at the tail of a string's queue (R79). In the winding-down interval the queue stays as it
is (R83). -/
def State.placePulse (s : State) (i : StringNo) (p : Position) (d : Direction) : State :=
  if s.part.winding then s
  else s.setString i { s.string i with queue := (s.string i).queue ++ [⟨p, d⟩] }

/-- An owner removes the queued pulse of a position, if the queue holds one (R80). In the winding-down interval the
queue stays as it is (R83). -/
def State.removePulse (s : State) (i : StringNo) (p : Position) : State :=
  if s.part.winding then s
  else s.setString i { s.string i with queue := (s.string i).queue.eraseP (fun q => q.position == p) }

/-! ### Stored settings (R11, R16) -/

/-- Ask for a HEADER WRITE: it joins the tail of the store queue unless one is waiting (R11). -/
def State.askHeaderWrite (s : State) : State :=
  if PortRequest.headerWrite ∈ s.band.queue then s
  else s.setBand { s.band with queue := s.band.queue ++ [.headerWrite] }

/-- The reply of a settings request: when the HEADER WRITE that starts after it completes (R11), or STORE at once
while the store port is in FAULT (R16). -/
def State.replyAfterHeader (s : State) : State :=
  if s.band.port = .fault then s.answer .store
  else s.setBand { s.band with replyWait := some ⟨.header, .none, false⟩ }

/-- A settings request is taken: one that leaves every stored setting as it was is replied OK at its service and
asks for no HEADER WRITE (R11). -/
def State.applySettings (s : State) (x : Settings) : State :=
  if x = s.settings then s.answer .ok else ((s.setSettings x).askHeaderWrite).replyAfterHeader

end Sys2Proof.Machine
end

