-- ==== Sys2Proof/Machine/Cabins.lean ====
section
/-!
DEFINITION. The cabin unit (chapter 5): lamps and the blink generator, the target rules at a cabin head, pulses,
confirmation and jams, the due tests, contact reports and bands that leave. The requests of section 5.6 stand in
Requests.lean.
-/

namespace Sys2Proof.Machine

/-! ### Lamps (R93, R94) -/

/-- The lamp mode of a cabin state (R93). -/
def CabinState.lampMode : CabinState → LampMode
  | .free => .off
  | .closing => .steady
  | .held => .steady
  | .overdue => .slow
  | .opening => .off
  | .suspended => .fast

/-- The lamp output of a cabin (R94). -/
def State.lampOutput (s : State) (c : CabinNo) : Bool :=
  match (s.cabin c).state.lampMode with
  | .off => false
  | .steady => true
  | .slow => s.cabins.blink.slow
  | .fast => s.cabins.blink.fast

/-- An expiry of the blink interval (R94); the next interval takes the half-period as held. -/
def State.blinkExpiry (s : State) : State :=
  let b := s.cabins.blink
  s.setCabins { s.cabins with
    blink := ⟨b.count + 1, !b.fast, if b.count + 1 = 0 then !b.slow else b.slow, s.settings.halfPeriod⟩ }

/-! ### Levels, holders and the ends of a hold -/

/-- The string of the cabins. -/
def cabinString : StringNo := 8

/-- Whether the accepted bolt level of a cabin is thrown. -/
def State.cabinThrown (s : State) (c : CabinNo) : Bool := s.boltThrown cabinString (cabinPosition c) == some true

/-- Whether the accepted door level of a cabin is open. -/
def State.cabinDoorOpen (s : State) (c : CabinNo) : Bool := s.doorOpen cabinString (cabinPosition c) == some true

/-- The cabin a band holds (R93). -/
def State.heldCabin (s : State) (b : BandNo) : Option CabinNo :=
  (allFin 24).find? (fun c => (s.cabin c).holder == some b)

/-- The pulse direction of a transitional cabin (R93). -/
def CabinState.direction : CabinState → Direction
  | .closing => .throw
  | _ => .withdraw

/-- A cabin enters FREE or SUSPENDED: the holder, the action fields, the due stamps and the marks go, retry used
no, the window stopped and the journal link cleared; the hold entry, if linked, is closed with an outcome (R96,
R101, R102, R104, R105, R106). -/
def State.restCabin (s : State) (c : CabinNo) (st : CabinState) (outcome : EntryOutcome) : State :=
  let x := s.cabin c
  let s := s.setCabin c { Cabin.atReset with state := st }
  s.journalClose x.link (.cabin c) outcome

/-- A cabin enters OPENING with a new action of no band and party DESK, and a WITHDRAW at the tail of the queue
(R100, R103, R104, R106, R107). -/
def State.openCabin (s : State) (c : CabinNo) (action : CabinAction) (prior : CabinState) (expiry : Bool) : State :=
  let s := s.setCabin c { s.cabin c with
    state := .opening
    work := some ⟨action, none, .desk, s.now, prior, .queued⟩
    retryUsed := false
    expiryMark := expiry
    releaseMark := false
    window := none }
  s.placePulse cabinString (cabinPosition c) .withdraw

/-- The hold entry is closed while the cabin goes on: the journal link is cleared (R100, R104, R105). -/
def State.closeHold (s : State) (c : CabinNo) (outcome : EntryOutcome) : State :=
  let x := s.cabin c
  (s.setCabin c { x with link := none }).journalClose x.link (.cabin c) outcome

/-! ### The due tests (R103) -/

/-- Whether a stamp is present and reached: the clock is equal to it or above it (R103). -/
def reached (stamp : Option Stamp) (now : Stamp) : Bool :=
  match stamp with
  | none => false
  | some x => decide (x.toNat ≤ now.toNat)

/-- The expiry opening of an OVERDUE cabin whose due2 is reached (R103, step 2). -/
def State.expireCabin (s : State) (c : CabinNo) : State :=
  let holder := (s.cabin c).holder
  (s.openCabin c .release .overdue true).journalClosed (.cabin c) holder .desk .cabinExpire s.now .done

/-- The first due test: a HELD cabin with due1 reached becomes OVERDUE (R103, step 1). -/
def State.dueOverdue (s : State) (c : CabinNo) : State :=
  let x := s.cabin c
  if x.state = .held ∧ reached x.due1 s.now = true then
    (s.setCabin c { x with state := .overdue }).post .cabinOverdue (.cabin c)
  else s

/-- The second due test (R103, step 2). -/
def State.dueExpiry (s : State) (c : CabinNo) : State :=
  if (s.cabin c).state = .overdue ∧ reached (s.cabin c).due2 s.now = true then s.expireCabin c else s

/-- The due tests of one cabin, in their order (R103). -/
def State.dueTests (s : State) (c : CabinNo) : State := (s.dueOverdue c).dueExpiry c

/-- The due tests of every cabin, at a step of the clock (R103, R111). -/
def State.allDueTests (s : State) : State := (allFin 24).foldl State.dueTests s

/-! ### Pulses, confirmation and jams (R99 to R102) -/

/-- The largest clock value. -/
def lastStamp : Nat := 4294967295

/-- A stamp some seconds after another, held at the largest clock value (R100). -/
def stampAfter (x : Stamp) (seconds : Nat) : Stamp := BitVec.ofNat 32 (min lastStamp (x.toNat + seconds))

/-- The confirmation of a THROW (R100). -/
def State.confirmCabinThrow (s : State) (c : CabinNo) : State :=
  let x := s.cabin c
  if s.cabinDoorOpen c then (s.closeHold c .doorOpen).openCabin c .undo .free false
  else if x.releaseMark then s.openCabin c .release .free false
  else
    let due1 := stampAfter s.now s.settings.cabinLimit
    (s.setCabin c { x with
      state := .held
      work := none
      retryUsed := false
      window := none
      due1 := some due1
      due2 := some (stampAfter due1 s.settings.cabinGrace) }).dueTests c

/-- The closed CABIN_RELEASE entry (R101). -/
def State.writeCabinRelease (s : State) (c : CabinNo) (band : Option BandNo) (party : Party) (start : Stamp) : State :=
  s.journalClosed (.cabin c) band party .cabinRelease start .done

/-- The confirmation of a WITHDRAW (R101): the cabin enters FREE, and the journal is closed before it is
written. -/
def State.confirmCabinWithdraw (s : State) (c : CabinNo) (w : CabinWork) : State :=
  let x := s.cabin c
  match w.action with
  | .opn =>
    let s := s.restCabin c .free .done
    if w.party = .master then s.writeCabinRelease c w.band .master w.stamp else s
  | .release =>
    if x.expiryMark then (s.restCabin c .free .expired).post .cabinExpired (.cabin c)
    else (s.restCabin c .free .done).writeCabinRelease c x.holder .desk w.stamp
  | _ => s.restCabin c .free .done

/-- The confirmation of a cabin's action (R99). -/
def State.confirmCabin (s : State) (c : CabinNo) : State :=
  let x := s.cabin c
  match x.work with
  | none => s
  | some w => if x.state = .closing then s.confirmCabinThrow c else s.confirmCabinWithdraw c w

/-- The jam of a cabin (R102). -/
def State.jamCabin (s : State) (c : CabinNo) : State :=
  (s.restCabin c .suspended .jammed).post .cabinJammed (.cabin c)

/-- The expiry of a cabin's confirm window (R99), taken in the winding-down interval too (DESIGN CHOICE, log 22;
unsafe). -/
def State.cabinWindowExpiry (s : State) (c : CabinNo) : State :=
  let x := s.cabin c
  match x.work, x.window with
  | some w, some _ =>
    if w.sub = .confirming then
      if x.retryUsed then s.jamCabin c
      else
        let s := s.setCabin c { x with
          work := some { w with sub := .queued }, retryUsed := true, window := none }
        s.placePulse cabinString (cabinPosition c) x.state.direction
    else s
  | _, _ => s

/-- The start of a cabin's pulse (R99). -/
def State.cabinPulseStart (s : State) (c : CabinNo) : State :=
  let x := s.cabin c
  match x.work with
  | none => s
  | some w => s.setCabin c { x with work := some { w with sub := .inFlight } }

/-- The end of a cabin's pulse (R99). -/
def State.cabinPulseEnd (s : State) (c : CabinNo) (d : Direction) (window : Nat) : State :=
  let x := s.cabin c
  match x.work with
  | none => s
  | some w =>
    let s := s.setCabin c { x with work := some { w with sub := .confirming }, window := some window }
    if s.boltThrown cabinString (cabinPosition c) = some d.target then s.confirmCabin c else s

/-! ### Contacts (R104, R105) -/

/-- The wearer has used the inside handle: the cabin enters FREE at once (R104, R105). -/
def State.handleCabin (s : State) (c : CabinNo) : State := s.restCabin c .free .handle

/-- DOOR_OPENED at a HELD or OVERDUE cabin with the bolt thrown: the door has been forced (R104). -/
def State.forceHeldCabin (s : State) (c : CabinNo) : State :=
  let st := (s.cabin c).state
  ((s.post .cabinForced (.cabin c)).closeHold c .forced).openCabin c .forcedOpen st false

/-- DOOR_OPENED at an OPENING cabin whose OPEN or RELEASE is still QUEUED, bolt thrown (R105): the pulse keeps its
place. -/
def State.forceOpeningCabin (s : State) (c : CabinNo) (w : CabinWork) : State :=
  let s := s.setCabin c { s.cabin c with
    work := some { w with action := .forcedOpen, party := .desk, stamp := s.now, band := none }
    expiryMark := false }
  (s.post .cabinForced (.cabin c)).closeHold c .forced

/-- DOOR_OPENED at a cabin (R104, R105). -/
def State.cabinDoorOpened (s : State) (c : CabinNo) : State :=
  let x := s.cabin c
  match x.state, x.work with
  | .held, _ => if s.cabinThrown c then s.forceHeldCabin c else s
  | .overdue, _ => if s.cabinThrown c then s.forceHeldCabin c else s
  | .closing, some w =>
    if w.sub = .queued then (s.removePulse cabinString (cabinPosition c)).restCabin c .free .doorOpen else s
  | .opening, some w =>
    if w.sub = .queued ∧ (w.action = .opn ∨ w.action = .release) ∧ s.cabinThrown c = true
    then s.forceOpeningCabin c w else s
  | _, _ => s

/-- A bolt change at a cabin (R99, R104, R105): `thrown` is the new accepted level. -/
def State.cabinBoltChange (s : State) (c : CabinNo) (thrown : Bool) : State :=
  let x := s.cabin c
  match x.state, x.work with
  | .held, _ => if thrown then s else s.handleCabin c
  | .overdue, _ => if thrown then s else s.handleCabin c
  | .closing, some w => if w.sub = .confirming ∧ thrown = true then s.confirmCabin c else s
  | .opening, some w =>
    if thrown then s
    else match w.sub with
      | .queued => (s.removePulse cabinString (cabinPosition c)).handleCabin c
      | .confirming => s.confirmCabin c
      | .inFlight => s
  | _, _ => s

/-! ### Target rules at a cabin head (R95 to R98) -/

/-- The cancel of a queued CLAIM or OPEN by its action band (R96). -/
def State.cancelCabin (s : State) (c : CabinNo) (w : CabinWork) : State :=
  let s := s.removePulse cabinString (cabinPosition c)
  match w.action with
  | .claim => s.restCabin c .free .cancelled
  | _ =>
    (s.setCabin c { s.cabin c with state := w.prior, work := none, retryUsed := false, window := none }).dueTests c

/-- The claim of a FREE cabin (R97). -/
def State.claimCabin (s : State) (c : CabinNo) (b : BandNo) (arrival : Stamp) : State :=
  let s := s.setCabin c { s.cabin c with
    state := .closing
    holder := some b
    work := some ⟨.claim, some b, .owner, arrival, .free, .queued⟩
    retryUsed := false
    expiryMark := false
    releaseMark := false }
  let s := s.placePulse cabinString (cabinPosition c) .throw
  let r := s.journalOpen (.cabin c) (some b) .owner .cabinClaim arrival
  r.2.setCabin c { r.2.cabin c with link := r.1 }

/-- The tests at a FREE cabin (R97). -/
def State.freeCabinRules (s : State) (c : CabinNo) (b : BandNo) (rec : BandRecord) (arrival : Stamp) :
    Verdict × State :=
  if s.clock.isSet = false then (.refuse .clockUnset, s)
  else if 0 < s.settings.fittedLanes ∧ rec.state ≠ .inside then (.refuse .notAdmitted, s)
  else if (s.heldCabin b).isSome then (.refuse .holdsCabin, s)
  else if s.cabinDoorOpen c then (.refuse .doorOpen, s)
  else if rec.master then (.refuse .notYours, s)
  else (.grant, s.claimCabin c b arrival)

/-- The opening of a HELD or OVERDUE cabin by its holder or a master (R98). -/
def State.openHeldCabin (s : State) (c : CabinNo) (b : BandNo) (party : Party) (arrival : Stamp) : State :=
  let x := s.cabin c
  let s := s.setCabin c { x with
    state := .opening
    work := some ⟨.opn, some b, party, arrival, x.state, .queued⟩
    retryUsed := false }
  s.placePulse cabinString (cabinPosition c) .withdraw

/-- The tests at a HELD or OVERDUE cabin (R98). -/
def State.heldCabinRules (s : State) (c : CabinNo) (b : BandNo) (rec : BandRecord) (arrival : Stamp) :
    Verdict × State :=
  if (s.cabin c).holder = some b then (.grant, s.openHeldCabin c b .owner arrival)
  else if rec.master then (.grant, s.openHeldCabin c b .master arrival)
  else (.refuse .notYours, s)

/-- The target rules of the cabin unit, check 9 at a cabin head (R95 to R98). -/
def State.cabinRules (s : State) (c : CabinNo) (b : BandNo) (rec : BandRecord) (arrival : Stamp) :
    Verdict × State :=
  let x := s.cabin c
  match x.state with
  | .suspended => (.refuse .cabinSuspended, s)
  | .closing | .opening =>
    match x.work with
    | some w => if w.sub = .queued ∧ w.band = some b then (.cancelled, s.cancelCabin c w) else (.refuse .busy, s)
    | none => (.refuse .busy, s)
  | .free => s.freeCabinRules c b rec arrival
  | .held | .overdue => s.heldCabinRules c b rec arrival

/-! ### Bands that leave (R106), and restoring (R107, R175) -/

/-- The reaction of the cabin a band holds to its RETURN or BAR (R106). -/
def State.cabinHolderLeaves (s : State) (c : CabinNo) : State :=
  let x := s.cabin c
  match x.state, x.work with
  | .closing, some w =>
    if w.sub = .queued then (s.removePulse cabinString (cabinPosition c)).restCabin c .free .cancelled
    else s.setCabin c { x with releaseMark := true }
  | .held, _ => s.openCabin c .release .held false
  | .overdue, _ => s.openCabin c .release .overdue false
  | .opening, some w =>
    if w.action = .opn then
      s.setCabin c { x with work := some { w with action := .release, party := .desk, stamp := s.now, band := none } }
    else s
  | _, _ => s

/-- The reaction to a BAND RETURN or BAND BAR (R106). -/
def State.cabinBandLeaves (s : State) (b : BandNo) : State :=
  match s.heldCabin b with
  | none => s
  | some c => s.cabinHolderLeaves c

/-- Each cabin whose bolt is established thrown begins a RESTORE opening (R175, R107), in rising order of the numbers, an
order the manual does not give (DESIGN CHOICE, log 31; unsafe), and in the winding-down interval too (DESIGN CHOICE,
log 22; unsafe). -/
def State.restoreCabins (s : State) : State :=
  (allFin 24).foldl (fun s c => if s.cabinThrown c then s.openCabin c .restore .free false else s) s

end Sys2Proof.Machine
end

