-- ==== Sys2Proof/Machine/Clock.lean ====
section
/-!
DEFINITION. The clock and accounting unit (chapter 6): the steps of the site clock, the minute-pulse snap, the
tariff switch and the stay arithmetic.
-/

namespace Sys2Proof.Machine

/-! ### The tariff switch (R117, R118) -/

/-- The switch: the pending table becomes the active one, table and stamp become absent, a HEADER WRITE is asked
for and TARIFF_SWITCHED is posted (R118). -/
def State.tariffSwitch (s : State) (table : TariffTable) : State :=
  let s := s.setSettings { s.settings with tariff := table }
  let s := s.setClock { s.clock with pendingTable := none, switchStamp := none }
  (s.askHeaderWrite).post .tariffSwitched .none

/-- The switch test at a step of the clock (R118). -/
def State.switchTest (s : State) : State :=
  match s.clock.pendingTable with
  | none => s
  | some table => if reached s.clock.switchStamp s.now then s.tariffSwitch table else s

/-! ### The site clock (R110 to R114) -/

/-- A step of the clock to a new value: the due tests of the cabins and the tariff switch test (R111). The two
touch different state; the model makes the due tests first (log 31). A scheduled switch is made in the same event as the
new value, so no exit at that value comes before it (DEDUCED, log 40; unsafe). -/
def State.stepClock (s : State) (v : Stamp) : State :=
  ((s.setClock { s.clock with value := v }).allDueTests).switchTest

/-- The value a minute pulse snaps a clock value to: the nearest whole minute, a remainder of 30 taken forwards
(R114). -/
def snapped (v : Stamp) : Stamp :=
  let r := v.toNat % 60
  if r < 30 then BitVec.ofNat 32 (v.toNat - r) else BitVec.ofNat 32 (v.toNat + 60 - r)

/-- A minute pulse (R114): ignored while the set flag is clear; a snap that changes the value is a step and posts
CLOCK_ADJUSTED, behind the other notices of the step, an order the manual does not give (DESIGN CHOICE, log 31;
unsafe). -/
def State.minutePulse (s : State) : State :=
  if s.clock.isSet = false then s
  else if snapped s.now = s.now then s
  else (s.stepClock (snapped s.now)).post .clockAdjusted .none

/-- A CLOCK SET at its service (R112), before its reply. -/
def State.setTheClock (s : State) (v : Stamp) : State :=
  let old := s.now
  let s := s.setClock { s.clock with isSet := true }
  if v = old then s else s.stepClock v

/-! ### The stay arithmetic (R120 to R122) -/

/-- Stages 1 to 6 for a band admitted at `e` (R120, R121). -/
def stayFigures (now e : Stamp) (paid settled credit : Nat) (t : TariffClass) : StayFigures :=
  let elapsed := if e.toNat ≤ now.toNat then now.toNat - e.toNat else 0
  let allowance := paid * 60 + t.grace
  let excess := if allowance < elapsed then elapsed - allowance else 0
  let seconds := t.block * 60
  let blocks := min 65535 ((excess + seconds - 1) / seconds)
  let charge := min (blocks * t.price) t.cap
  let owed := if settled < charge then charge - settled else 0
  ⟨now, elapsed, allowance, excess, blocks, charge, settled, owed, credit⟩

/-- The stay of a band's record at the clock and the active table now; an absent entry stamp counts as now. -/
def State.stayOf (s : State) (rec : BandRecord) : StayFigures :=
  stayFigures s.now (rec.entry.getD s.now) rec.paid rec.settled rec.credit s.settings.tariff[rec.cls.val]

end Sys2Proof.Machine
end

