-- ==== Sys2Proof/Machine/Lockers.lean ====
section
/-!
DEFINITION. The locker engine (chapter 3): ownership, the beginning and the ends of a locker's action, the target
rules at a locker head, the reactions to pulses, contacts and bands that leave, and reconciliation (R175). The
requests of section 3.6 stand in Requests.lean.
-/

namespace Sys2Proof.Machine

/-! ### Owner map and companion index (R47) -/

/-- The locker a band owns: the owner map (R47). -/
def State.ownedLocker (s : State) (b : BandNo) : Option LockerNo :=
  (allFin 256).find? (fun k => (s.locker k).owner == some b)

/-- The locker on whose companion list a band stands: the companion index (R47). -/
def State.companionLocker (s : State) (b : BandNo) : Option LockerNo :=
  (allFin 256).find? (fun k => (s.locker k).companions.contains b)

/-! ### Actions -/

/-- The pulse direction of a transitional locker: THROW for LOCKING, WITHDRAW for UNLOCKING (R46). -/
def LockerState.direction : LockerState → Direction
  | .locking => .throw
  | _ => .withdraw

/-- The journal action of a locker action (R50). -/
def LockerAction.journal : LockerAction → JournalAction
  | .claim => .claim
  | .lock => .lock
  | .unlock => .unlock
  | .masterOpen => .masterOpen
  | .deskOpen => .deskOpen
  | .release => .release
  | .reset => .reset

/-- Begin an action at a locker (R50): the transitional state, the action's fields, its pulse at the tail of the
queue, its open journal entry and the dirty mark. -/
def State.beginLocker (s : State) (k : LockerNo) (st : LockerState) (action : LockerAction)
    (band : Option BandNo) (party : Party) (entryBand : Option BandNo) (start : Stamp) : State :=
  let l := s.locker k
  let s := s.setLocker k { l with
    state := st
    work := some ⟨action, band, party, l.state, .queued⟩
    retryUsed := false
    doorOpened := false
    window := none
    dirty := true }
  let s := s.placePulse (lockerString k) (lockerPosition k) st.direction
  let r := s.journalOpen (.locker k) entryBand party action.journal start
  r.2.setLocker k { r.2.locker k with link := r.1 }

/-- Begin the action of a host request (R50): party DESK, no action band, the owner's band in the entry, start
stamp now. -/
def State.beginDesk (s : State) (k : LockerNo) (action : LockerAction) : State :=
  s.beginLocker k .unlocking action none .desk (s.locker k).owner s.now

/-- A locker leaves its transitional state for a resting one: the action's fields are removed, retry used no, the
door-opened mark clear, the window stopped, the dirty mark set, and the open entry closed with an outcome. Where
`clear` is set the owner and the companion list go. -/
def State.restLocker (s : State) (k : LockerNo) (st : LockerState) (clear : Bool) (outcome : EntryOutcome) : State :=
  let l := s.locker k
  let s := s.setLocker k { l with
    state := st
    owner := if clear then none else l.owner
    companions := if clear then [] else l.companions
    work := none
    retryUsed := false
    doorOpened := false
    window := none
    link := none
    dirty := true }
  s.journalClose l.link (.locker k) outcome

/-- The undo of a throw whose door opened while it was driven or confirmed (R59). -/
def State.undoLocker (s : State) (k : LockerNo) (w : LockerWork) : State :=
  let l := s.locker k
  let s := s.setLocker k { l with
    state := .unlocking
    work := some { w with party := .desk, band := none, sub := .queued }
    retryUsed := false
    doorOpened := false
    window := none
    dirty := true }
  s.placePulse (lockerString k) (lockerPosition k) .withdraw

/-- The state an action enters on confirmation (R50's table). -/
def confirmedState (w : LockerWork) (owner : Option BandNo) : LockerState :=
  match w.action with
  | .claim => .locked
  | .lock => .locked
  | .unlock => .opened
  | .masterOpen => if w.prior = .abandoned then .vacant else .opened
  | .deskOpen => .opened
  | .release => .vacant
  | .reset => if owner.isSome then .opened else .vacant

/-- Whether an UNLOCKING locker with this action undoes a throw (R59). -/
def LockerAction.isThrow : LockerAction → Bool
  | .claim => true
  | .lock => true
  | _ => false

/-- The confirmation of a locker's action (R57, R59). -/
def State.confirmLocker (s : State) (k : LockerNo) : State :=
  let l := s.locker k
  match l.work with
  | none => s
  | some w =>
    if l.state = .unlocking ∧ w.action.isThrow then s.restLocker k w.prior (w.action == .claim) .doorOpen
    else if l.doorOpened then s.undoLocker k w
    else
      let st := confirmedState w l.owner
      s.restLocker k st (st == .vacant) .done

/-- The jam of a locker (R58): a jammed claim and a jammed undo of a claim clear the owner and the companions. -/
def State.jamLocker (s : State) (k : LockerNo) (w : LockerWork) : State :=
  (s.restLocker k .jammed (w.action == .claim) .jammed).post .lockerJammed (.locker k)

/-- The expiry of a locker's confirm window (R58), taken in the winding-down interval too (DESIGN CHOICE, log 22;
unsafe). -/
def State.lockerWindowExpiry (s : State) (k : LockerNo) : State :=
  let l := s.locker k
  match l.work, l.window with
  | some w, some _ =>
    if w.sub = .confirming then
      if l.retryUsed then s.jamLocker k w
      else
        let s := s.setLocker k { l with
          work := some { w with sub := .queued }, retryUsed := true, window := none }
        s.placePulse (lockerString k) (lockerPosition k) l.state.direction
    else s
  | _, _ => s

/-- The start of a locker's pulse (R56). -/
def State.lockerPulseStart (s : State) (k : LockerNo) : State :=
  let l := s.locker k
  match l.work with
  | none => s
  | some w => s.setLocker k { l with work := some { w with sub := .inFlight } }

/-- The end of a locker's pulse (R56): the confirm window starts, and the accepted bolt level is compared with the
pulse's target. -/
def State.lockerPulseEnd (s : State) (k : LockerNo) (d : Direction) (window : Nat) : State :=
  let l := s.locker k
  match l.work with
  | none => s
  | some w =>
    let s := s.setLocker k { l with work := some { w with sub := .confirming }, window := some window }
    if s.boltThrown (lockerString k) (lockerPosition k) = some d.target then s.confirmLocker k else s

/-! ### Contacts (R60, R61) -/

/-- A locker is forced (R60): a queued pulse is removed and its entry closed FORCED, LOCKER_FORCED is posted and a
closed FORCED entry written; owner and companions are kept. -/
def State.forceLocker (s : State) (k : LockerNo) : State :=
  let l := s.locker k
  let s : State := match l.work with
    | none => s
    | some _ => s.removePulse (lockerString k) (lockerPosition k)
  let s := s.restLocker k .forced false .forced
  let s := s.post .lockerForced (.locker k)
  s.journalClosed (.locker k) l.owner .desk .forced s.now .done

/-- Whether a locker is forced by a door opening or a bolt withdrawal: LOCKED, ABANDONED, or UNLOCKING with
sub-phase QUEUED (R60, R61). -/
def Locker.forcible (l : Locker) : Bool :=
  match l.state with
  | .locked => true
  | .abandoned => true
  | .unlocking => match l.work with
    | some w => w.sub == .queued
    | none => false
  | _ => false

/-- DOOR_OPENED at a locker (R60). -/
def State.lockerDoorOpened (s : State) (k : LockerNo) : State :=
  let l := s.locker k
  if l.forcible then s.forceLocker k
  else match l.state, l.work with
    | .locking, some w =>
      if w.sub = .queued then
        (s.removePulse (lockerString k) (lockerPosition k)).restLocker k w.prior (w.action == .claim) .doorOpen
      else s.setLocker k { l with doorOpened := true }
    | _, _ => s

/-- A bolt change at a locker (R61, R56): `thrown` is the new accepted level. -/
def State.lockerBoltChange (s : State) (k : LockerNo) (thrown : Bool) : State :=
  let l := s.locker k
  if !thrown && l.forcible then s.forceLocker k
  else match l.work with
    | some w => if w.sub = .confirming ∧ thrown = l.state.direction.target then s.confirmLocker k else s
    | none => s

/-! ### Target rules at a locker head (R49 to R55) -/

/-- The party of a band at a locker (R49); none is 'no party'. -/
def State.lockerParty (s : State) (k : LockerNo) (b : BandNo) (master : Bool) : Option Party :=
  let l := s.locker k
  if l.owner = some b then some .owner
  else if b ∈ l.companions then some .companion
  else if master then some .master
  else none

/-- The cancel of a queued action by its action band (R51). -/
def State.cancelLocker (s : State) (k : LockerNo) (w : LockerWork) : State :=
  (s.removePulse (lockerString k) (lockerPosition k)).restLocker k w.prior (w.action == .claim) .cancelled

/-- Begin the action a presentation is granted (R50). -/
def State.grantLocker (s : State) (k : LockerNo) (st : LockerState) (action : LockerAction) (b : BandNo)
    (party : Party) (arrival : Stamp) : Verdict × State :=
  (.grant, s.beginLocker k st action (some b) party (some b) arrival)

/-- The tests at a VACANT locker (R52). -/
def State.vacantRules (s : State) (k : LockerNo) (b : BandNo) (rec : BandRecord) (arrival : Stamp) :
    Verdict × State :=
  if s.lockerStringClosed k then (.refuse .stringClosed, s)
  else if 0 < s.settings.fittedLanes ∧ rec.state ≠ .inside ∧ rec.master = false then (.refuse .notAdmitted, s)
  else if (s.ownedLocker b).isSome then (.refuse .holdsLocker, s)
  else if rec.master then (.refuse .notYours, s)
  else if s.doorOpen (lockerString k) (lockerPosition k) = some true then (.refuse .doorOpen, s)
  else
    (s.setLocker k { s.locker k with owner := some b, companions := [] }).grantLocker k .locking .claim b .owner arrival

/-- The target rules of the locker engine, check 9 at a locker head (R49 to R55). -/
def State.lockerRules (s : State) (k : LockerNo) (b : BandNo) (rec : BandRecord) (arrival : Stamp) :
    Verdict × State :=
  let l := s.locker k
  let party := s.lockerParty k b rec.master
  match l.state with
  | .suspended => (.refuse .lockerSuspended, s)
  | .forced => (.refuse .outOfOrder, s)
  | .jammed => (.refuse .outOfOrder, s)
  | .locking | .unlocking =>
    match l.work with
    | some w =>
      if w.sub = .queued ∧ w.band = some b then (.cancelled, s.cancelLocker k w) else (.refuse .busy, s)
    | none => (.refuse .busy, s)
  | .vacant => s.vacantRules k b rec arrival
  | .locked =>
    match party with
    | some .master => s.grantLocker k .unlocking .masterOpen b .master arrival
    | some p => s.grantLocker k .unlocking .unlock b p arrival
    | none => (.refuse .notYours, s)
  | .opened =>
    match party with
    | some .master => (.refuse .notYours, s)
    | none => (.refuse .notYours, s)
    | some p =>
      if s.doorOpen (lockerString k) (lockerPosition k) = some true then (.refuse .doorOpen, s)
      else s.grantLocker k .locking .lock b p arrival
  | .abandoned =>
    match party with
    | some .master => s.grantLocker k .unlocking .masterOpen b .master arrival
    | _ => (.refuse .notYours, s)

/-! ### Bands that leave (R62, R63) -/

/-- Take a band out of the companion list it stands in (R62, R63). -/
def State.leaveCompanions (s : State) (b : BandNo) : State :=
  match s.companionLocker b with
  | none => s
  | some k =>
    let l := s.locker k
    s.setLocker k { l with companions := l.companions.filter (fun c => c ≠ b), dirty := true }

/-- A locker loses its owner and its companions and enters a state (R62, R63, R69, R174). -/
def State.disown (s : State) (k : LockerNo) (st : LockerState) : State :=
  s.setLocker k { s.locker k with state := st, owner := none, companions := [], dirty := true }

/-- The reaction to an exit grant (R62): an OPENED locker of the band becomes VACANT, and the band leaves any
companion list. -/
def State.lockerExit (s : State) (b : BandNo) : State :=
  let s : State := match s.ownedLocker b with
    | none => s
    | some k => if (s.locker k).state = .opened then s.disown k .vacant else s
  s.leaveCompanions b

/-- The reaction of an owned locker to a BAND RETURN of its owner (R63's table). -/
def State.abandonLocker (s : State) (k : LockerNo) : State :=
  match (s.locker k).state with
  | .opened => s.disown k .vacant
  | .locked => (s.disown k .abandoned).post .lockerAbandoned (.locker k)
  | .forced => s.disown k .forced
  | .jammed => s.disown k .jammed
  | _ => s

/-- The reaction to a BAND RETURN (R63). -/
def State.lockerReturn (s : State) (b : BandNo) : State :=
  let s : State := match s.ownedLocker b with
    | none => s
    | some k => s.abandonLocker k
  s.leaveCompanions b

/-- Whether the locker a band owns is LOCKING or UNLOCKING (R24). -/
def State.ownedInTransition (s : State) (b : BandNo) : Bool :=
  match s.ownedLocker b with
  | none => false
  | some k => (s.locker k).state == .locking || (s.locker k).state == .unlocking

/-! ### Ownership check and reconciliation at start-up (R174, R175) -/

/-- The state a locker whose owner is cleared goes to (R174). -/
def LockerState.ownerless : LockerState → LockerState
  | .locked => .abandoned
  | .opened => .vacant
  | st => st

/-- The owner of a locker against its band record (R174). `found` is none for a DAMAGED fetch. -/
def State.checkOwner (s : State) (k : LockerNo) (found : Option BandState) : State :=
  match found with
  | some .issued => s
  | some .inside => s
  | some .barred => s
  | _ => s.disown k (s.locker k).state.ownerless

/-- A companion of a locker against its band record (R174). -/
def State.checkCompanion (s : State) (k : LockerNo) (b : BandNo) (found : Option BandState) : State :=
  match found with
  | some .issued => s
  | some .inside => s
  | _ =>
    let l := s.locker k
    if b ∈ l.companions then
      s.setLocker k { l with companions := l.companions.filter (fun c => c ≠ b), dirty := true }
    else s

/-- The state a locker is reconciled to against its established bolt level (R175's table). -/
def reconciled (st : LockerState) (thrown : Bool) : LockerState :=
  match st with
  | .vacant => if thrown then .abandoned else .vacant
  | .opened => if thrown then .locked else .opened
  | .locked => if thrown then .locked else .opened
  | .abandoned => if thrown then .abandoned else .vacant
  | other => other

/-- Reconcile one locker (R175). -/
def State.reconcileLocker (s : State) (k : LockerNo) : State :=
  let l := s.locker k
  let st := reconciled l.state (s.boltThrown (lockerString k) (lockerPosition k) == some true)
  if st = l.state then s else s.setLocker k { l with state := st, dirty := true }

/-- Reconcile the lockers of a string that has reached FITTED during start-up (R175). -/
def State.reconcileString (s : State) (i : Fin 8) : State :=
  (allFin 32).foldl (fun s p => s.reconcileLocker (lockerAt i p)) s

/-- A locker on a string that is not fitted at the apply step keeps SUSPENDED and otherwise becomes VACANT with no
owner and no companions (R175). -/
def State.vacateUnfitted (s : State) (k : LockerNo) : State :=
  let l := s.locker k
  if l.state = .suspended then s
  else if l.state = .vacant ∧ l.owner = none ∧ l.companions = [] then s
  else s.disown k .vacant

end Sys2Proof.Machine
end

