-- ==== Sys2Proof/Machine/Lanes.lean ====
section
/-!
DEFINITION. The lane unit (chapter 7) but for the passages that send a commit (Passages.lean): arms, outputs, the
full flag, the decisions at an entry and an exit lane, and what ends an arm.
-/

namespace Sys2Proof.Machine

/-! ### Occupancy and the full flag (R128, R129) -/

/-- The resume level: the capacity minus the margin, or 0 if that is below 0 (R129). -/
def State.resumeLevel (s : State) : Nat := s.settings.capacity - s.settings.margin

/-- The evaluation of the full flag (R129). -/
def State.evaluateFull (s : State) : State :=
  if s.lanes.full then
    if s.lanes.occupancy ≤ s.resumeLevel then
      (s.setLanes { s.lanes with full := false }).post .hallResumed .none
    else s
  else if s.settings.capacity ≤ s.lanes.occupancy then
    (s.setLanes { s.lanes with full := true }).post .hallFull .none
  else s

/-- Set the occupancy and evaluate the full flag (R128, R139). -/
def State.setOccupancy (s : State) (n : Nat) : State :=
  (s.setLanes { s.lanes with occupancy := n }).evaluateFull

/-! ### Outputs (R134) -/

/-- Pulse the eject line of a lane (R134). -/
def State.pulseEject (s : State) (l : LaneNo) : State := s.setLane l { s.lane l with eject := true }

/-- Pulse the swallow line of a lane (R134). -/
def State.pulseSwallow (s : State) (l : LaneNo) : State := s.setLane l { s.lane l with swallow := true }

/-- The end of a 250 ms line pulse (R134). -/
def State.endLinePulse (s : State) (l : LaneNo) : SlotLine → State
  | .swallow => s.setLane l { s.lane l with swallow := false }
  | .eject => s.setLane l { s.lane l with eject := false }

/-! ### Arms (R126, R130, R135, R136) -/

/-- The expiry stamp of an arm: the clock at the grant plus the arm window (R126); a free value where the sum does
not fit the clock (log 15). -/
def State.armStamp (s : State) : Stamp :=
  if s.now.toNat + s.settings.armWindow ≤ lastStamp then BitVec.ofNat 32 (s.now.toNat + s.settings.armWindow)
  else Config.armStampPastTop s.free

/-- The number of the next free value after the stamp of an arm is taken (log 16). -/
def State.useArmStamp (s : State) : State :=
  if s.now.toNat + s.settings.armWindow ≤ lastStamp then s else s.setFree (s.free + 1)

/-- A grant arms a lane (R126, R132, R133): arm, timer, turnstile and the open journal entry. -/
def State.armLane (s : State) (l : LaneNo) (b : BandNo) (master inbound : Bool) (arrival : Stamp) : State :=
  let arm : Arm := ⟨if master then none else some b, s.armStamp, inbound, s.settings.armWindow⟩
  let s := s.useArmStamp
  let s := s.setLane l { s.lane l with arm := some arm, turnstile := true }
  let r := s.journalOpen (.lane l) (some b) (if master then .master else .owner)
    (if inbound then .admission else .exit) arrival
  r.2.setLane l { r.2.lane l with link := r.1 }

/-- An arm ends (R130, R135, R136): the lane is DISARMED and its timer stopped, the turnstile goes off unless the
lane is in SERVICE mode, and the entry at the link is closed with an outcome. -/
def State.disarm (s : State) (l : LaneNo) (outcome : EntryOutcome) : State :=
  let x := s.lane l
  let s := s.setLane l { x with arm := none, link := none, turnstile := x.service && x.turnstile }
  s.journalClose x.link (.lane l) outcome

/-- The arm timer of a lane runs out (R135). -/
def State.armTimerExpiry (s : State) (l : LaneNo) : State :=
  match (s.lane l).arm with
  | none => s
  | some _ => (s.disarm l .expired).post .armExpired (.lane l)

/-- The lane at which a band is armed, among those that meet a test (R126, R136). -/
def State.armedLane (s : State) (b : BandNo) (test : LaneNo → Bool) : Option LaneNo :=
  (allFin 4).find? (fun l => test l && ((s.lane l).arm.bind Arm.band) == some b)

/-- The reaction to a BAND RETURN or BAND BAR: an entry lane armed with that band is disarmed (R136). -/
def State.laneBandLeaves (s : State) (b : BandNo) : State :=
  match s.armedLane b (fun l => s.laneRole l == .entry) with
  | none => s
  | some l => s.disarm l .cancelled

/-! ### Decisions (R132, R133) -/

/-- The target rules of an entry lane (R132). -/
def State.entryRules (s : State) (l : LaneNo) (b : BandNo) (rec : BandRecord) (arrival : Stamp) : Verdict × State :=
  let x := s.lane l
  if x.service then (.refuse .laneClosed, s)
  else if x.arm.isSome ∨ x.commit.isSome then (.refuse .laneBusy, s)
  else if (s.armedLane b (fun m => m != l)).isSome then (.refuse .busy, s)
  else if rec.master then (.grant, s.armLane l b true true arrival)
  else if rec.state = .inside then (.refuse .alreadyInside, s)
  else if s.clock.isSet = false then (.refuse .clockUnset, s)
  else if s.lanes.full then (.refuse .hallFull, s)
  else (.grant, s.armLane l b false true arrival)

/-- The record an exit grant leaves: the debit of stage 7 and the return of the band (R122, R133). -/
def exitRecord (rec : BandRecord) (f : StayFigures) : BandRecord :=
  { rec with
    credit := rec.credit - f.owed
    settled := rec.settled + f.owed
    state := .returned
    entry := none
    beforeBar := none }

/-- Whether a band owns a locker whose state is not OPENED (R133, test 6). -/
def State.ownsClosedLocker (s : State) (b : BandNo) : Bool :=
  match s.ownedLocker b with
  | none => false
  | some k => (s.locker k).state != .opened

/-- The target rules of an exit lane (R133): the verdict, the state, and the band's record after them. R133 has no test
for an arm of the band at another lane, though R126 says that no band is armed at more than one. Where the band is armed
at an entry lane, as after a commit that ended BUSY, the exit lane grants by R133 and both arms stand (DEDUCED, log 43;
unsafe). -/
def State.exitRules (s : State) (l : LaneNo) (b : BandNo) (rec : BandRecord) (arrival : Stamp) :
    Verdict × State × BandRecord :=
  let x := s.lane l
  if x.service then (.refuse .laneClosed, s, rec)
  else if x.arm.isSome then (.refuse .laneBusy, s, rec)
  else if rec.master then (.grant, (s.pulseEject l).armLane l b true false arrival, rec)
  else if rec.state ≠ .inside then (.refuse .notInside, s, rec)
  else if (s.heldCabin b).isSome then (.refuse .cabinHeld, s, rec)
  else if s.ownsClosedLocker b then (.refuse .lockerLocked, s, rec)
  else if s.clock.isSet = false then (.refuse .clockUnset, s, rec)
  else
    let f := s.stayOf rec
    if rec.credit < f.owed then (.refuse .owed, s, rec)
    else (.grant, ((s.lockerExit b).pulseSwallow l).armLane l b false false arrival, exitRecord rec f)

/-! ### Fitting (R125, R138) -/

/-- A lane that becomes fitted reads its beam inputs, NORMAL and DISARMED with phase count 0 (R125, R138). -/
def State.fitLane (s : State) (l : LaneNo) : State :=
  s.setLane l { Lane.atReset with beams := s.lanes.pins[l.val] }

/-- A lane that ceases to be fitted takes its reset values, with both beam levels clear (R125, R138). -/
def State.unfitLane (s : State) (l : LaneNo) : State := s.setLane l Lane.atReset

/-- Begin or leave SERVICE mode (R137). -/
def State.serveLane (s : State) (l : LaneNo) (on : Bool) : State :=
  if on = (s.lane l).service then s
  else if on then
    let s := match (s.lane l).arm with
      | none => s
      | some _ => s.disarm l .cancelled
    s.setLane l { s.lane l with service := true, phase := 0, turnstile := true }
  else s.setLane l { s.lane l with service := false, phase := 0, turnstile := false }

end Sys2Proof.Machine
end

