-- ==== Sys2Proof/Machine/Presentations.lean ====
section
/-!
DEFINITION. The presentation unit (chapter 2) but for the opening of a presentation (Reader.lean), which sends a
band operation: verdicts and refusal journaling, the checks made at service and the hand-over to the target
block.
-/

namespace Sys2Proof.Machine

/-! ### Heads and their targets (R35, R152) -/

/-- What a head serves (R35). -/
def headTarget (h : HeadNo) : JournalSubject :=
  if h1 : h.val < 256 then .locker ⟨h.val, h1⟩
  else if h2 : h.val < 280 then .cabin ⟨h.val - 256, by omega⟩
  else .lane ⟨h.val - 280, by omega⟩

/-- Whether a head is in service: its target is fitted (R152). -/
def State.inService (s : State) (h : HeadNo) : Bool :=
  match headTarget h with
  | .locker k => s.stringFitted (lockerString k)
  | .cabin _ => s.stringFitted cabinString
  | .lane l => s.laneFitted l

/-- The zone check (R35): whether the band has no right to the head's target. -/
def zoneRefused (target : JournalSubject) (rec : BandRecord) : Bool :=
  match target with
  | .locker k => !(rec.mask.getLsbD (k.val / 32))
  | .cabin _ => !rec.cabinRight
  | .lane _ => false

/-! ### Verdicts (R38, R40, R134, R156) -/

/-- A verdict handed over is no longer the one a poll of this head in flight carries (R155, R156). -/
def Engine.keepVerdict (x : Engine) (h : HeadNo) : Engine :=
  match x.poll with
  | none => x
  | some p => if p.head = h then { x with poll := some { p with clears := false } } else x

/-- The presentation unit hands a verdict over as the head's pending verdict (R38, R156). An OFFLINE head holds no
pending verdict (R154). -/
def State.placeVerdict (s : State) (h : HeadNo) (v : Verdict) : State :=
  match (s.head h).state with
  | .offline => s
  | .on _ =>
    let s := s.setHead h { s.head h with verdict := some v }
    s.setReader { s.reader with
      engineA := s.reader.engineA.keepVerdict h
      engineB := s.reader.engineB.keepVerdict h }

/-- The lane unit hears of every verdict placed for a lane's head, and pulses the eject line of an exit lane for a
refusal (R134). -/
def State.ejectForRefusal (s : State) (target : JournalSubject) : State :=
  match target with
  | .lane l => if s.laneRole l = .exit then s.pulseEject l else s
  | _ => s

/-- The closed REFUSED entry, when the refusals option is on (R40). -/
def State.journalRefusal (s : State) (target : JournalSubject) (p : Presentation) (party : Party) (r : Reason) :
    State :=
  if s.settings.refusals then s.journalClosed target (some p.band) party (.refused r) p.arrival .done else s

/-- A presentation is decided (R38): the verdict is placed, the head's record becomes DECIDED, and a refusal is
journaled (R40) and ejects the band at an exit lane (R134). -/
def State.conclude (s : State) (h : HeadNo) (p : Presentation) (v : Verdict) (party : Party) : State :=
  let s := (s.placeVerdict h v).setSlot h (some { p with decided := true })
  match v with
  | .refuse r => (s.journalRefusal (headTarget h) p party r).ejectForRefusal (headTarget h)
  | .grant => s
  | .cancelled => s

/-! ### The decision (R32 to R36) -/

/-- The party of a refusal entry made in the target rules (R40, R49). A master that is a companion of the locker is
MASTER here, R40's cases being taken in the order in which they stand (DEDUCED, log 21; unsafe). -/
def State.refusalParty (s : State) (target : JournalSubject) (b : BandNo) (rec : BandRecord) : Party :=
  if rec.master then .master
  else match target with
    | .locker k => if s.lockerParty k b false = some .companion then .companion else .owner
    | .cabin _ => .owner
    | .lane _ => .owner

/-- The target rules of the block the head's target belongs to, check 9 (R36): the verdict, the state and the
band's record after them. -/
def State.targetRules (s : State) (target : JournalSubject) (b : BandNo) (rec : BandRecord) (arrival : Stamp) :
    Verdict × State × BandRecord :=
  match target with
  | .locker k => let r := s.lockerRules k b rec arrival; (r.1, r.2, rec)
  | .cabin c => let r := s.cabinRules c b rec arrival; (r.1, r.2, rec)
  | .lane l =>
    match s.laneRole l with
    | .entry => let r := s.entryRules l b rec arrival; (r.1, r.2, rec)
    | .exit => s.exitRules l b rec arrival

/-- Checks 4 to 6 and 8, in their order: the reason of the first that fails, and the party its entry names (R33 to
R35, R40). -/
def commonChecks (target : JournalSubject) (p : Presentation) (rec : BandRecord) : Option (Reason × Party) :=
  if rec.state = .free ∨ rec.state = .returned then some (.void, .owner)
  else if rec.state = .barred then some (.barred, .owner)
  else if rec.serial ≠ p.serial then some (.tag, .owner)
  else if rec.master = false ∧ zoneRefused target rec = true then some (.zone, .owner)
  else none

/-- The decision of a presentation at the service of its lookup (R32), with the record the entry takes. A
superseded one makes none (R27). -/
def State.decidePresentation (s : State) (h : HeadNo) (p : Presentation) (rec : BandRecord) : State × BandRecord :=
  if p.superseded then (s, rec)
  else
    match commonChecks (headTarget h) p rec with
    | some (r, party) => (s.conclude h p (.refuse r) party, rec)
    | none =>
      let party := s.refusalParty (headTarget h) p.band rec
      let d := s.targetRules (headTarget h) p.band rec p.arrival
      (d.2.1.conclude h p d.1 party, d.2.2)

/-! ### Superseding and dropping (R27, R29) -/

/-- Mark a head's outstanding lookup superseded in a wait list (R27). -/
def supersedeIn (h : HeadNo) : Waiter → Waiter
  | .lookup g p => if g = h then .lookup g { p with superseded := true } else .lookup g p
  | w => w

/-- Mark a head's outstanding lookup superseded in a cache entry (R27). -/
def CacheEntry.supersede (x : CacheEntry) (h : HeadNo) : CacheEntry :=
  { x with waiters := x.waiters.map (supersedeIn h) }

/-- The lookups of a head's pending presentation, wherever they wait, carry the superseded mark (R27). -/
def State.supersede (s : State) (h : HeadNo) : State :=
  (allFin 32).foldl (fun s e => s.setEntry e ((s.entry e).supersede h)) s

/-- A presentation record is dropped: a pending one is superseded, a decided one is discarded (R29). -/
def State.dropPresentation (s : State) (h : HeadNo) : State :=
  match s.slot h with
  | none => s
  | some p => (if p.decided then s else s.supersede h).setSlot h none

/-! ### Leaving service (R152) -/

/-- A poll of a head that has left service changes no roster record at its end (R152). -/
def Engine.markStale (x : Engine) (h : HeadNo) : Engine :=
  match x.poll with
  | none => x
  | some p => if p.head = h then { x with poll := some { p with stale := true } } else x

/-- A head leaves service: its presentation is dropped (R29), its roster record takes the reset values, and a poll
in flight no longer concerns it (R152). -/
def State.leaveService (s : State) (h : HeadNo) : State :=
  let s := (s.dropPresentation h).setHead h HeadRecord.atReset
  s.setReader { s.reader with
    engineA := s.reader.engineA.markStale h
    engineB := s.reader.engineB.markStale h }

/-- Every head number. -/
abbrev allHeads : List HeadNo := allFin 284

/-- The heads that were in service before a change and are no longer leave it (R29, R152). -/
def State.leaveAll (s before : State) : State :=
  allHeads.foldl (fun s h => if before.inService h && !s.inService h then s.leaveService h else s) s

end Sys2Proof.Machine
end

