-- ==== Sys2Proof/Machine/BandUnit.lean ====
section
/-!
DEFINITION. The band unit (chapter 1) but for the store port (StorePort.lean): what each band operation does at
its service, the service at a cache entry and its write-through (R5, R9), the ends of operations that are not
served, allocation and eviction (R6), and the two outcomes of a fetch (R7, R8).
-/

namespace Sys2Proof.Machine

/-! ### What an operation does at its service -/

/-- The outcome of a service: the state, the record the entry takes, and the reply of a host request. -/
structure Served where
  state : State
  record : BandRecord
  reply : Option (Result × ReplyData)

/-- A host request that changes nothing, with its result code. -/
def Served.only (s : State) (rec : BandRecord) (res : Result) : Served := ⟨s, rec, some (res, .none)⟩

/-- Whether a band is ISSUED, INSIDE or BARRED: in use (R21, R22, R24). -/
def BandState.inUse : BandState → Bool
  | .issued => true
  | .inside => true
  | .barred => true
  | .free => false
  | .returned => false

/-- Whether a band is ISSUED or INSIDE (R23, R66, R67). -/
def BandState.active : BandState → Bool
  | .issued => true
  | .inside => true
  | _ => false

/-- BAND ISSUE at its service (R20). -/
def State.serveIssue (s : State) (n : BandNo) (rec : BandRecord) (serial : Serial) (cls paid credit : Nat)
    (mask rights : Byte) : Served :=
  match inRangeOf 8 cls, rightsOf rights with
  | some c, some (cabinRight, master) =>
    if serial = 0 ∨ 1440 < paid then .only s rec .range
    else if rec.state.inUse then .only s rec .state
    else if (s.ownedLocker n).isSome ∨ (s.companionLocker n).isSome ∨ (s.heldCabin n).isSome then .only s rec .state
    else ⟨s, ⟨.issued, none, serial, c, paid, none, credit, 0, mask, cabinRight, master⟩, some (.ok, .none)⟩
  | _, _ => .only s rec .range

/-- BAND AMEND at its service (R21). -/
def State.serveAmend (s : State) (rec : BandRecord) (cls paid : Nat) (mask rights : Byte) : Served :=
  match inRangeOf 8 cls, rightsOf rights with
  | some c, some (cabinRight, master) =>
    if 1440 < paid then .only s rec .range
    else if rec.state.inUse then
      ⟨s, { rec with cls := c, paid := paid, mask := mask, cabinRight := cabinRight, master := master },
        some (.ok, .none)⟩
    else .only s rec .state
  | _, _ => .only s rec .range

/-- BAND TOPUP at its service (R22). -/
def State.serveTopup (s : State) (rec : BandRecord) (amount : Nat) : Served :=
  if rec.state.inUse then
    let v := min 65535 (rec.credit + amount)
    ⟨s, { rec with credit := v }, some (.ok, .money (v - rec.credit) v)⟩
  else .only s rec .state

/-- BAND SETTLE at its service (R22). -/
def State.serveSettle (s : State) (rec : BandRecord) (amount : Nat) : Served :=
  if rec.state.inUse then
    let v := min 65535 (rec.settled + amount)
    ⟨s, { rec with settled := v }, some (.ok, .money (v - rec.settled) v)⟩
  else .only s rec .state

/-- BAND BAR at its service (R23): the locker engine keeps everything (R64), the cabin unit and the lane unit
react (R106, R136). -/
def State.serveBar (s : State) (n : BandNo) (rec : BandRecord) : Served :=
  match rec.state with
  | .issued =>
    ⟨(s.cabinBandLeaves n).laneBandLeaves n, { rec with state := .barred, beforeBar := some .issued },
      some (.ok, .none)⟩
  | .inside =>
    ⟨(s.cabinBandLeaves n).laneBandLeaves n, { rec with state := .barred, beforeBar := some .inside },
      some (.ok, .none)⟩
  | _ => .only s rec .state

/-- BAND UNBAR at its service (R23). -/
def State.serveUnbar (s : State) (rec : BandRecord) : Served :=
  match rec.state, rec.beforeBar with
  | .barred, some .issued => ⟨s, { rec with state := .issued, beforeBar := none }, some (.ok, .none)⟩
  | .barred, some .inside => ⟨s, { rec with state := .inside, beforeBar := none }, some (.ok, .none)⟩
  | _, _ => .only s rec .state

/-- BAND RETURN at its service (R24), with the reactions of R63, R106 and R136. -/
def State.serveReturn (s : State) (n : BandNo) (rec : BandRecord) : Served :=
  if rec.state.inUse = false then .only s rec .state
  else if s.ownedInTransition n then .only s rec .state
  else
    ⟨((s.lockerReturn n).cabinBandLeaves n).laneBandLeaves n,
      { rec with state := .returned, entry := none, beforeBar := none }, some (.ok, .none)⟩

/-- LOCKER ASSIGN at its service (R66). -/
def State.serveAssign (s : State) (n : BandNo) (rec : BandRecord) (k : LockerNo) : Served :=
  if (s.locker k).state ≠ .vacant then .only s rec .state
  else if rec.state.active = false then .only s rec .state
  else if (s.ownedLocker n).isSome then .only s rec .state
  else
    let s := s.setLocker k { s.locker k with state := .opened, owner := some n, companions := [], dirty := true }
    ⟨s.journalClosed (.locker k) (some n) .desk .claim s.now .done, rec, some (.ok, .none)⟩

/-- LOCKER SHARE at its service (R67). -/
def State.serveShare (s : State) (n : BandNo) (rec : BandRecord) (k : LockerNo) : Served :=
  let l := s.locker k
  if l.owner = none then .only s rec .state
  else if rec.state.active = false then .only s rec .state
  else if l.owner = some n then .only s rec .state
  else if (s.companionLocker n).isSome then .only s rec .state
  else if 3 ≤ l.companions.length then .only s rec .full
  else ⟨s.setLocker k { l with companions := l.companions ++ [n], dirty := true }, rec, some (.ok, .none)⟩

/-- STAY QUERY at its service (R124, steps 4 and 5). -/
def State.serveStay (s : State) (n : BandNo) (rec : BandRecord) : Served :=
  if rec.state = .inside then ⟨s, rec, some (.ok, .stay n (s.stayOf rec))⟩ else .only s rec .state

/-- A host request's band operation at its service (R18). -/
def State.serveRequest (s : State) (n : BandNo) (rec : BandRecord) : BandRequest → Served
  | .issue serial cls paid credit mask rights => s.serveIssue n rec serial cls paid credit mask rights
  | .amend cls paid mask rights => s.serveAmend rec cls paid mask rights
  | .topup amount => s.serveTopup rec amount
  | .settle amount => s.serveSettle rec amount
  | .bar => s.serveBar n rec
  | .unbar => s.serveUnbar rec
  | .ret => s.serveReturn n rec
  | .read => ⟨s, rec, some (.ok, .bandRecord n rec.encode)⟩
  | .assign k => s.serveAssign n rec k
  | .share k => s.serveShare n rec k
  | .stayQuery => s.serveStay n rec

/-- The record an admission commit leaves (R131's table). -/
def committedRecord (rec : BandRecord) (stamp : Stamp) : BandRecord :=
  match rec.state, rec.beforeBar with
  | .issued, _ => { rec with state := .inside, entry := some stamp }
  | .barred, some .issued => { rec with beforeBar := some .inside, entry := some stamp }
  | _, _ => rec

/-- A lane's commit pending is cleared (R131). -/
def State.clearCommit (s : State) (l : LaneNo) : State := s.setLane l { s.lane l with commit := none }

/-- One operation of the start-up sequence's ownership check has ended (R174). -/
def State.ownershipEnded (s : State) : State :=
  match s.part.startup with
  | .ownership k left held => s.setPart { s.part with startup := .ownership k (left - 1) held }
  | _ => s

/-- A band operation at its service. -/
def State.serve (s : State) (n : BandNo) (rec : BandRecord) : Waiter → Served
  | .lookup h p => let d := s.decidePresentation h p rec; ⟨d.1, d.2, none⟩
  | .request r => s.serveRequest n rec r
  | .commit l stamp => ⟨s.clearCommit l, committedRecord rec stamp, none⟩
  | .ownerCheck k => ⟨(s.checkOwner k (some rec.state)).ownershipEnded, rec, none⟩
  | .companionCheck k => ⟨(s.checkCompanion k n (some rec.state)).ownershipEnded, rec, none⟩

/-! ### Entries -/

/-- The band number an entry holds, FILLING or VALID (R4). -/
def EntryContent.band : EntryContent → Option BandNo
  | .empty => none
  | .filling n => some n
  | .valid n _ => some n

/-- The entry that holds a band number, if any (R4). -/
def State.entryOf (s : State) (n : BandNo) : Option EntryNo :=
  (allFin 32).find? (fun e => (s.entry e).content.band == some n)

/-- An entry moves to the most recently used end of the last-use order (R5, R7). -/
def State.touch (s : State) (e : EntryNo) : State :=
  s.setBand { s.band with lastUse := s.band.lastUse.filter (fun f => f ≠ e) ++ [e] }

/-- An entry is emptied: band number and record are dropped, and it leaves the last-use order (R7). -/
def State.emptyEntry (s : State) (e : EntryNo) : State :=
  let s := s.setEntry e CacheEntry.atReset
  s.setBand { s.band with lastUse := s.band.lastUse.filter (fun f => f ≠ e) }

/-- The emptying test (R7). -/
def State.emptyTest (s : State) (e : EntryNo) : State :=
  let x := s.entry e
  match x.content with
  | .valid _ rec =>
    if (rec.state = .free ∨ rec.state = .returned) ∧ x.waiters = [] ∧ x.writePending = false then s.emptyEntry e
    else s
  | _ => s

/-- A change to a VALID entry (R9): the mark is set, and a WRITE joins the queue unless one for the entry is
waiting. -/
def State.noteChange (s : State) (e : EntryNo) : State :=
  let s := s.setEntry e { s.entry e with writePending := true }
  if PortRequest.write e ∈ s.band.queue then s
  else s.setBand { s.band with queue := s.band.queue ++ [.write e] }

/-- The reply of a host request after its service (R10, R16, R18): a request that changed the record waits for the
WRITE that carries the change, or is replied STORE at once in FAULT; any other is replied at its service. -/
def State.replyServed (s : State) (e : EntryNo) (changed : Bool) : Option (Result × ReplyData) → State
  | none => s
  | some (res, data) =>
    if changed then
      if s.band.port = .fault then s.reply .store data
      else s.setBand { s.band with replyWait := some ⟨.entry e, data, false⟩ }
    else s.reply res data

/-- Serve an operation at a VALID entry (R5, R9). -/
def State.serveAt (s : State) (e : EntryNo) (w : Waiter) : State :=
  match (s.entry e).content with
  | .valid n rec =>
    let r := (s.touch e).serve n rec w
    if r.record = rec then r.state.replyServed e false r.reply
    else
      let s := r.state.setEntry e { r.state.entry e with content := .valid n r.record }
      (s.noteChange e).replyServed e true r.reply
  | _ => s

/-! ### Operations that end without a service -/

/-- The refusal reason of a lookup that ends with a result code (R31). -/
def lookupReason : Result → Reason
  | .store => .store
  | .range => .range
  | _ => .busy

/-- An operation ends with BUSY, STORE or RANGE instead of being served: a presentation is refused unless it is
superseded (R27, R31), a host request is replied (R18), a commit is sent again after BUSY and abandoned otherwise
(R131), and an ownership check treats its band's record as DAMAGED (R174). -/
def State.endOp (s : State) (w : Waiter) (n : Option BandNo) (res : Result) : State :=
  match w with
  | .lookup h p => if p.superseded then s else s.conclude h p (.refuse (lookupReason res)) .owner
  | .request _ => s.answer res
  | .commit l _ =>
    match (s.lane l).commit with
    | none => s
    | some c =>
      if res = .busy then s.setLane l { s.lane l with commit := some { c with retrying := true } }
      else s.clearCommit l
  | .ownerCheck k => (s.checkOwner k none).ownershipEnded
  | .companionCheck k =>
    match n with
    | none => s.ownershipEnded
    | some b => (s.checkCompanion k b none).ownershipEnded

/-- The waiters of an entry end with a result code, and the entry is emptied (R4, R8, R15, R177). -/
def State.endWaiters (s : State) (e : EntryNo) (res : Result) : State :=
  let x := s.entry e
  let s := s.emptyEntry e
  x.waiters.foldl (fun s w => s.endOp w x.content.band res) s

/-! ### Band operations and allocation (R5, R6) -/

/-- The wait list items held, of the pool of 320 (R6). -/
def State.itemsHeld (s : State) : Nat :=
  ((allFin 32).map (fun e => (s.entry e).waiters.length)).sum

/-- The size of the wait list pool (R6). -/
def poolSize : Nat := 320

/-- Whether a VALID entry may be evicted (R6). -/
def CacheEntry.evictable (x : CacheEntry) : Bool :=
  match x.content with
  | .valid _ _ => x.waiters.isEmpty && !x.writePending
  | _ => false

/-- The entry taken for a band not held (R6): the lowest-numbered EMPTY one, else the least recently used that may
be evicted. -/
def State.entryToTake (s : State) : Option EntryNo :=
  ((allFin 32).find? (fun e => (s.entry e).content == .empty)).or
    (s.band.lastUse.find? (fun e => (s.entry e).evictable))

/-- An entry becomes FILLING with a band number, the operation its first waiter, and a FETCH joins the queue
(R6). -/
def State.startFill (s : State) (e : EntryNo) (n : BandNo) (w : Waiter) : State :=
  let s := s.setEntry e ⟨.filling n, [w], false⟩
  s.setBand { s.band with
    lastUse := s.band.lastUse.filter (fun f => f ≠ e)
    queue := s.band.queue ++ [.fetch e] }

/-- Allocate an entry for a band not held (R6). -/
def State.allocate (s : State) (n : BandNo) (w : Waiter) : State :=
  if s.band.port = .fault then s.endOp w (some n) .store
  else if poolSize ≤ s.itemsHeld then s.endOp w (some n) .busy
  else
    match s.entryToTake with
    | none => s.endOp w (some n) .busy
    | some e => s.startFill e n w

/-- A band operation for a band number below the table length (R5). -/
def State.bandOpAt (s : State) (n : BandNo) (w : Waiter) : State :=
  match s.entryOf n with
  | none => s.allocate n w
  | some e =>
    match (s.entry e).content with
    | .valid _ _ => (s.serveAt e w).emptyTest e
    | _ =>
      if poolSize ≤ s.itemsHeld then s.endOp w (some n) .busy
      else s.setEntry e { s.entry e with waiters := (s.entry e).waiters ++ [w] }

/-- Whether the band unit accepts new operations: not from a RESTART reply on (R4), nor while a STORE FORMAT runs
(R177). -/
def State.bandService (s : State) : Bool := !s.part.winding && s.band.format.isNone

/-- A band operation naming a band number (R5). One that the band unit does not accept ends BUSY, whatever the table
length that a STORE FORMAT has set (R4, R177). -/
def State.bandOp (s : State) (n : Nat) (w : Waiter) : State :=
  if s.bandService = false then s.endOp w (some (bandNoOf n)) .busy
  else if s.tableLength ≤ n then s.endOp w none .range
  else s.bandOpAt (bandNoOf n) w

/-! ### The two outcomes of a fetch (R7, R8) -/

/-- A FETCH completes with a good record (R7). -/
def State.fillGood (s : State) (e : EntryNo) (n : BandNo) (rec : BandRecord) : State :=
  let ws := (s.entry e).waiters
  let s := (s.setEntry e ⟨.valid n rec, [], false⟩).touch e
  (ws.foldl (fun s w => s.serveAt e w) s).emptyTest e

/-- Whether a waiter is a BAND ISSUE (R8). -/
def Waiter.isIssue : Waiter → Bool
  | .request (.issue ..) => true
  | _ => false

/-- The waiters of a DAMAGED fetch, in their order (R8): each ends with STORE until a BAND ISSUE is taken against a
FREE record; the rest are served against the issued record. -/
def State.serveDamaged (s : State) (e : EntryNo) (n : BandNo) : List Waiter → State
  | [] => s.emptyEntry e
  | w :: ws =>
    if w.isIssue then
      let r := s.serve n BandRecord.free w
      if r.record = BandRecord.free then (r.state.replyServed e false r.reply).serveDamaged e n ws
      else
        let s := (s.setEntry e ⟨.valid n BandRecord.free, [], false⟩).touch e
        ((w :: ws).foldl (fun s w => s.serveAt e w) s).emptyTest e
    else (s.endOp w (some n) .store).serveDamaged e n ws

/-- A FETCH completes with a DAMAGED record (R8). -/
def State.fillDamaged (s : State) (e : EntryNo) (n : BandNo) : State :=
  let ws := (s.entry e).waiters
  let s := s.post .recordDamaged (.band n)
  (s.setEntry e ⟨.filling n, [], false⟩).serveDamaged e n ws

end Sys2Proof.Machine
end

