-- ==== Sys2Proof/Machine/Startup.lean ====
section
/-!
DEFINITION. Start-up, restoration and the ways into STARTING (chapter 11): reset values, the winding-down interval
after a RESTART reply, the mirror read, the ownership check, the apply step, the reaching of FITTED and RUNNING,
and NO_STORE.
-/

namespace Sys2Proof.Machine

/-! ### Strings entering and leaving service (R75, R76, R88) -/

/-- A string enters ESTABLISHING: empty queue, driver IDLE, every contact unknown (R76, R78, R85). -/
def State.establish (s : State) (i : StringNo) : State :=
  (s.setString i ⟨.establishing, [], .idle⟩).setContacts i StringContacts.atReset

/-- A string enters NOT_FITTED (R76, R78, R85). -/
def State.unfitString (s : State) (i : StringNo) : State :=
  (s.setString i StringRecord.atReset).setContacts i StringContacts.atReset

/-- A locker string by its number 0 to 7. -/
def lockerStringNo (i : Fin 8) : StringNo := ⟨i.val, by omega⟩

/-- The strings 0 to 7 with numbers from `lo` up to `hi` less 1. -/
def stringsBetween (lo hi : Nat) : List (Fin 8) := (allFin 8).filter (fun i => lo ≤ i.val ∧ i.val < hi)

/-- The strings up to the fitted-string count enter ESTABLISHING (R175, R176). -/
def State.establishFitted (s : State) : State :=
  (stringsBetween 0 s.settings.fittedStrings).foldl (fun s i => s.establish (lockerStringNo i)) s

/-- Whether string 8 and every string of the fitted-string count have reached FITTED (R88, R90). -/
def State.allFitted (s : State) : Bool :=
  s.stringFitted cabinString &&
    (stringsBetween 0 s.settings.fittedStrings).all (fun i => s.stringFitted (lockerStringNo i))

/-- Every fitted lane reads its beam inputs, its phase count starting at 0 (R125, R175, R176; log 18). -/
def State.readBeams (s : State) : State :=
  (allFin 4).foldl (fun s l =>
    if s.laneFitted l then s.setLane l { s.lane l with beams := s.lanes.pins[l.val], phase := 0 } else s) s

/-- A miss count is held below the miss limit (R151, R159). -/
def HeadRecord.clampMiss (limit : Nat) (x : HeadRecord) : HeadRecord := { x with miss := min x.miss (limit - 1) }

/-- Every miss count is held below a new miss limit (R159; at the apply step, log 27). -/
def State.clampMisses (s : State) : State :=
  s.setReader { s.reader with roster := s.reader.roster.map (HeadRecord.clampMiss s.settings.missLimit) }

/-! ### Reset values (R171) -/

/-- Every block at its reset values. Kept: the band store, the clock value and its set flag, the beam input pins,
a frame being sent, the number of the next free value, and the queue of commands (R110, R170, R171). -/
def State.resetBlocks (s : State) : State :=
  let t : State := { State.cold with
    link := { Link.atReset with sending := s.link.sending }
    store := s.store
    clock := { s.clock with pendingTable := none, switchStamp := none }
    lanes := { State.cold.lanes with pins := s.lanes.pins }
    free := s.free
    pending := s.pending }
  t.readBeams

/-- A write cut off by power-on or the reset pin leaves the bytes of its record or header in whatever condition the
memory holds them (R4; log 13). -/
def State.cutOffTransfer (s : State) : State :=
  match s.band.inFlight with
  | none => s
  | some f =>
    let cut (a len : Nat) : State := (s.setStore (s.store.cutOff a len s.free)).setFree (s.free + 1)
    match f.transfer with
    | .write _ n bs => cut (bandAddress n) bs.length
    | .headerWrite bs => cut 0 bs.length
    | .mirrorWrite _ a bs => cut a bs.length
    | .formatWrite a bs => cut a bs.length
    | .fetch .. => s
    | .headerRead => s
    | .mirrorRead _ => s

/-- Power-on and the reset pin (R171): the transfer and the frame in progress are cut off, every block takes its
reset values, and the clock is 0 with the set flag clear. -/
def State.hardReset (s : State) : State :=
  let t := s.cutOffTransfer.resetBlocks
  (t.setLink Link.atReset).setClock ⟨0, false, none, none⟩

/-! ### Winding down (R4, R29, R125, R142, R151, R170, R171) -/

/-- A frame is no longer the reply of an outstanding request (R170). -/
def Sending.disown (x : Sending) : Sending :=
  match x.frame with
  | .reply r => { x with frame := .reply { r with own := false, restarts := false } }
  | .notice _ => x

/-- A lane's arm, commit and journal link are dropped without a close (R125; log 22). -/
def Lane.windDown (x : Lane) : Lane :=
  { x with arm := none, commit := none, link := none, turnstile := x.service && x.turnstile }

/-- The FETCH requests of the store queue are removed and their waiters end with a result code (R4, R15, R177), those of
several FETCHes in the order of the queue, which the manual does not give (DESIGN CHOICE, log 39; unsafe). -/
def State.endFetches (s : State) (res : Result) : State :=
  let waiting := s.band.queue.filterMap (fun q => match q with | .fetch e => some e | _ => none)
  let rest := s.band.queue.filter (fun q => match q with | .fetch _ => false | _ => true)
  waiting.foldl (fun s e => s.endWaiters e res) (s.setBand { s.band with queue := rest })

/-- In FAULT the held writes are discarded, and cache and queue are cleared (R4). -/
def State.discardHeld (s : State) : State :=
  if s.band.port = .fault then
    s.setBand { BandUnit.atReset with port := .fault }
  else s

/-- The end of the reply behind which the part restarts: the winding-down interval begins (R170, R171). R4 does not say
whether the FETCHes leave the queue at once or behind the transfer in flight: here they leave it, and their waiters end
BUSY, in this event (DESIGN CHOICE, log 46; unsafe). -/
def State.beginWinding (s : State) : State :=
  let s := s.setPart { s.part with winding := true }
  let s := allHeads.foldl State.dropPresentation s
  let s := s.setReader { s.reader with roster := s.reader.roster.map (fun x => { x with verdict := none }) }
  let s := s.setLanes { s.lanes with table := s.lanes.table.map Lane.windDown }
  let s := s.setLockers { s.lockers with table := s.lockers.table.map (fun l => { l with link := none }) }
  let s := s.setCabins { s.cabins with table := s.cabins.table.map (fun x => { x with link := none }) }
  let s := s.setBand { s.band with format := none }
  (s.endFetches .busy).discardHeld

/-- Whether any locker is dirty (R12). -/
def State.anyDirty (s : State) : Bool := (allFin 256).any (fun k => (s.locker k).dirty)

/-- Whether every block has wound down (R171). -/
def State.woundDown (s : State) : Bool :=
  s.part.winding && s.band.inFlight.isNone
    && (s.band.port == .fault || (s.band.queue.isEmpty && !s.anyDirty))
    && (allFin 9).all (fun i => (s.string i).driver == .idle)
    && s.reader.engineA.poll.isNone && s.reader.engineB.poll.isNone

/-- The entry into STARTING after a RESTART or a format (R171): every block takes its reset values, clock value
and set flag are kept, and a reply being sent is sent in full (R170). -/
def State.enterStarting (s : State) : State :=
  let t := s.resetBlocks
  t.setLink { t.link with sending := t.link.sending.map Sending.disown }

/-! ### The end of start-up (R175) -/

/-- The part enters RUNNING once the settings are applied and every fitted string is FITTED (R175). -/
def State.checkRunning (s : State) : State :=
  if s.part.part = .starting ∧ s.part.startup = .establishing ∧ s.allFitted = true then
    (s.setPart { s.part with part := .running, startup := .done }).post .startComplete .none
  else s

/-- Bolted cabins are opened if string 8 is already FITTED (R175, R176). -/
def State.restoreIfFitted (s : State) : State := if s.stringFitted cabinString then s.restoreCabins else s

/-- The lockers of strings that are not fitted become VACANT unless SUSPENDED (R175): at the apply step, since the manual
does not say at which event (DESIGN CHOICE, log 36; unsafe). -/
def State.vacateAllUnfitted (s : State) : State :=
  (allFin 256).foldl (fun s k => if s.settings.fittedStrings ≤ k.val / 32 then s.vacateUnfitted k else s) s

/-- The lanes that were fitted by the default count and are not by the applied one cease to be fitted (R125). -/
def State.unfitLanes (s : State) : State :=
  (allFin 4).foldl (fun s l => if s.laneFitted l then s else s.unfitLane l) s

/-- The apply step (R175). The heads of lanes fitted by the default count and not by the applied one leave service here,
as at LANE SETTINGS, which the manual does not say (DEDUCED, log 41; unsafe). -/
def State.applyHeld (s : State) (held : Settings) : State :=
  let before := s
  let s := ((s.setSettings held).setPart { s.part with startup := .establishing }).clampMisses
  let s := ((s.establishFitted.unfitLanes).readBeams).leaveAll before
  ((s.vacateAllUnfitted).restoreIfFitted).checkRunning

/-- A string reaches FITTED (R88): during start-up its lockers are reconciled (R175), and cabins found bolted are
opened when string 8 is the one (R175, R176). -/
def State.stringReachesFitted (s : State) (i : StringNo) : State :=
  let s := s.setString i { s.string i with fitting := .fitted }
  let applied := s.part.part == .starting && s.part.startup == .establishing
  if h : i.val < 8 then (if applied then s.reconcileString ⟨i.val, h⟩ else s).checkRunning
  else (if applied || s.part.part == .noStore then s.restoreCabins else s).checkRunning

/-! ### NO_STORE (R176) -/

/-- The part enters NO_STORE (R176). -/
def State.enterNoStore (s : State) : State :=
  let s := s.setPart ⟨.noStore, false, .done⟩
  let s := s.setBand BandUnit.atReset
  let s := s.setSettings Settings.default
  let s := s.setLockers { s.lockers with table := Vector.replicate 256 Locker.atReset }
  (s.establishFitted.readBeams).restoreIfFitted

/-! ### Header, mirror read and ownership check (R172 to R174) -/

/-- The header read has completed with these bytes (R172). -/
def State.headerRead (s : State) (bs : List Byte) : State :=
  match judgeHeader bs with
  | none => s.enterNoStore
  | some held => s.setPart { s.part with startup := .mirrorRead 0 held }

/-- The bands taken as owners so far in the mirror read (R173). -/
def State.takenOwners (s : State) : List BandNo := (allFin 256).filterMap (fun k => (s.locker k).owner)

/-- The bands taken as companions so far in the mirror read (R173). -/
def State.takenCompanions (s : State) : List BandNo := (allFin 256).flatMap (fun k => (s.locker k).companions)

/-- A mirror record is taken into the locker record, or the locker becomes VACANT, RECORD_DAMAGED is posted and it
is marked dirty (R173). -/
def State.takeMirror (s : State) (k : LockerNo) (tableLength : Nat) (bs : List Byte) : State :=
  match judgeMirror bs tableLength s.takenOwners s.takenCompanions with
  | some m => s.setLocker k { s.locker k with state := m.state, owner := m.owner, companions := m.companions }
  | none =>
    (s.setLocker k { s.locker k with state := .vacant, owner := none, companions := [], dirty := true }).post
      .recordDamaged (.locker k)

/-- The band operations of the ownership check of one locker: one for its owner, one for each companion (R174). R174
gives them no order: the owner's is sent first, then the companions' in list order (DESIGN CHOICE, log 44; unsafe). -/
def ownershipOps (k : LockerNo) (l : Locker) : List (BandNo × Waiter) :=
  l.owner.toList.map (fun b => (b, Waiter.ownerCheck k)) ++
    l.companions.map (fun b => (b, Waiter.companionCheck k))

/-- Whether the operations of the ownership check under way have all ended (R174). -/
def Startup.checksEnded : Startup → Bool
  | .ownership _ left _ => left == 0
  | _ => false

/-- The ownership check over lockers in their order (R174): it waits where the operations of one have not all
ended, and goes on to the apply step behind the last. -/
def State.ownershipFrom (s : State) (held : Settings) : List LockerNo → State
  | [] => s.applyHeld held
  | k :: ks =>
    let ops := ownershipOps k (s.locker k)
    if ops = [] then s.ownershipFrom held ks
    else
      let s := s.setPart { s.part with startup := .ownership k ops.length held }
      let s := ops.foldl (fun s o => s.bandOp o.1.val o.2) s
      if s.part.startup.checksEnded then s.ownershipFrom held ks else s

/-- The lockers with a number above `k`. -/
def lockersAbove (k : LockerNo) : List LockerNo := (allFin 256).filter (fun j => k < j)

/-- The sequence goes on where the ownership check of a locker has ended (R174). -/
def State.advanceOwnership (s : State) : State :=
  match s.part.startup with
  | .ownership k left held => if left = 0 then s.ownershipFrom held (lockersAbove k) else s
  | _ => s

/-- A mirror record has been read (R173): the next one is read, or the ownership check begins. -/
def State.mirrorRead (s : State) (k : LockerNo) (held : Settings) (bs : List Byte) : State :=
  let s := s.takeMirror k held.tableLength bs
  if h : k.val + 1 < 256 then s.setPart { s.part with startup := .mirrorRead ⟨k.val + 1, h⟩ held }
  else s.ownershipFrom held (allFin 256)

end Sys2Proof.Machine
end

