-- ==== Sys2Proof/Machine/StorePort.lean ====
section
/-!
DEFINITION. The store port (R12 to R17) and STORE FORMAT's writes (R177): the choice and the start of a transfer,
its completion, and its failure.
-/

namespace Sys2Proof.Machine

/-! ### Starting a transfer (R9, R11 to R13, R172, R173, R177) -/

/-- Start a transfer: the port enters TRANSFER (R12). -/
def State.startTransfer (s : State) (t : Transfer) : State :=
  s.setBand { s.band with port := .transfer, inFlight := some ⟨t, false⟩ }

/-- A reply waiting on this target's next write waits on the one that starts now (R10, R11). -/
def State.waitStarted (s : State) (target : WaitTarget) : State :=
  match s.band.replyWait with
  | none => s
  | some w =>
    if w.target = target then s.setBand { s.band with replyWait := some { w with started := true } } else s

/-- The lowest-numbered locker whose dirty mark is set (R13). -/
def State.lowestDirty (s : State) : Option LockerNo := (allFin 256).find? (fun k => (s.locker k).dirty)

/-- Start a MIRROR WRITE of a locker: the mark is cleared, the image captured, the fairness count becomes 0 (R12,
R13). -/
def State.startMirror (s : State) (k : LockerNo) : State :=
  let l := s.locker k
  let s := s.setLocker k { l with dirty := false }
  let s := s.setBand { s.band with fairness := 0 }
  s.startTransfer (.mirrorWrite k (mirrorAddress s.tableLength k) l.mirrorImage.encode)

/-- The fairness count after the start of a queue transfer (R12). At 4 it stays 4 (DEDUCED, log 23): a queue transfer
starts at a count of 4 with a locker dirty only while no MIRROR WRITE may start, in the ownership check of start-up,
behind a format's last write and in the winding-down interval. -/
def State.nextFairness (s : State) : Nat := if s.anyDirty then min 4 (s.band.fairness + 1) else 0

/-- Start the transfer at the head of the store queue, which captures its content now (R9, R11, R12). -/
def State.startQueued (s : State) (r : PortRequest) (rest : List PortRequest) : State :=
  let s := s.setBand { s.band with queue := rest, fairness := s.nextFairness }
  match r with
  | .fetch e =>
    match (s.entry e).content with
    | .filling n => s.startTransfer (.fetch e n)
    | _ => s
  | .write e =>
    match (s.entry e).content with
    | .valid n rec => (s.waitStarted (.entry e)).startTransfer (.write e n rec.encode)
    | _ => s
  | .headerWrite => (s.waitStarted .header).startTransfer (.headerWrite s.settings.encodeHeader)

/-- Whether the port may start a MIRROR WRITE: not before the apply step (R12). -/
def Startup.mirrorsAllowed : Startup → Bool
  | .establishing => true
  | .done => true
  | _ => false

/-- The locker a MIRROR WRITE would take: the lowest-numbered dirty one, where the stage of the start-up sequence
allows one and no STORE FORMAT runs (R12, R13; log 26). -/
def State.mirrorToWrite (s : State) : Option LockerNo :=
  if s.part.startup.mirrorsAllowed && s.band.format.isNone then s.lowestDirty else none

/-- The choice by the table of R12. In the winding-down interval the queue is served first and then the dirty
mirror records (R4; log 23). -/
def State.chooseByTable (s : State) : State :=
  match s.band.queue, s.mirrorToWrite with
  | [], none => s
  | [], some k => s.startMirror k
  | r :: rest, none => s.startQueued r rest
  | r :: rest, some k =>
    if s.band.fairness = 4 ∧ s.part.winding = false then s.startMirror k else s.startQueued r rest

/-- The number of the last write of the format sequence: the header, the band records, the mirror records
(R177). -/
def State.lastFormatWrite (s : State) : Nat := s.tableLength + 256

/-- The write of the format sequence with number `i` (R177). -/
def State.formatTransfer (s : State) (i : Nat) : Transfer :=
  if i = 0 then .formatWrite 0 s.settings.encodeHeader
  else if i ≤ s.tableLength then .formatWrite (bandAddress (bandNoOf (i - 1))) (List.replicate 32 0)
  else
    .formatWrite (mirrorAddress s.tableLength (Fin.ofNat 256 (i - 1 - s.tableLength)))
      (MirrorImage.encode ⟨.vacant, none, []⟩)

/-- Start a write of the format sequence (R177). -/
def State.startFormatWrite (s : State) (i : Nat) : State :=
  (s.setBand { s.band with format := some (.writing i) }).startTransfer (s.formatTransfer i)

/-- A free READY port chooses its next transfer (R12): the reads of the start-up sequence and the writes of a
format in their own order, else by the table, also between the last write of a format and the end of its reply. -/
def State.choosePort (s : State) : State :=
  if s.band.port ≠ .ready ∨ s.band.inFlight.isSome then s
  else
    match s.part.startup with
    | .headerRead => s.startTransfer .headerRead
    | .mirrorRead k _ => s.startTransfer (.mirrorRead k)
    | _ =>
      match s.band.format with
      | none => s.chooseByTable
      | some .draining => s.startFormatWrite 0
      | some (.writing i) => s.startFormatWrite i
      | some .ended => s.chooseByTable

/-! ### Completion (R7, R8, R10, R11, R13, R14) -/

/-- The transfer in flight has ended: the port returns to READY (R12). -/
def State.portDone (s : State) : State := s.setBand { s.band with port := .ready, inFlight := none }

/-- The reply that waits on the write of a target that has completed is sent (R10, R11). -/
def State.replyWritten (s : State) (target : WaitTarget) : State :=
  match s.band.replyWait with
  | none => s
  | some w =>
    if w.target = target ∧ w.started = true then
      (s.setBand { s.band with replyWait := none }).reply .ok w.data
    else s

/-- The header read completes (R172). -/
def State.headerReadDone (s : State) (seen : Option (List Byte)) : State :=
  let s := (s.setStore (s.store.seen 0 256 seen)).portDone
  s.headerRead (s.store.bytes 0 256)

/-- The read of a mirror record completes (R173). -/
def State.mirrorReadDone (s : State) (seen : Option (List Byte)) : State :=
  match s.part.startup with
  | .mirrorRead k held =>
    let a := mirrorAddress held.tableLength k
    let s := (s.setStore (s.store.seen a 16 seen)).portDone
    s.mirrorRead k held (s.store.bytes a 16)
  | _ => s

/-- A FETCH completes (R7, R8). After a RESTART reply and while a format runs its record is not taken (R4, R177). -/
def State.fetchDone (s : State) (e : EntryNo) (n : BandNo) (seen : Option (List Byte)) : State :=
  let s := (s.setStore (s.store.seen (bandAddress n) 32 seen)).portDone
  if s.bandService = false then s.endWaiters e .busy
  else
    let s : State := match judgeRecord (s.store.bytes (bandAddress n) 32) with
      | some rec => s.fillGood e n rec
      | none => s.fillDamaged e n
    s.advanceOwnership

/-- A WRITE completes (R10). -/
def State.writeDone (s : State) (e : EntryNo) (n : BandNo) (bs : List Byte) : State :=
  let s := (s.setStore (s.store.write (bandAddress n) bs)).portDone
  let more := s.band.queue.contains (.write e)
  let s : State := if more then s else s.setEntry e { s.entry e with writePending := false }
  let s := s.replyWritten (.entry e)
  if more then s else s.emptyTest e

/-- A HEADER WRITE completes (R11). -/
def State.headerWriteDone (s : State) (bs : List Byte) : State :=
  ((s.setStore (s.store.write 0 bs)).portDone).replyWritten .header

/-- A MIRROR WRITE completes: it changes no cache entry and sends no reply (R13). -/
def State.mirrorWriteDone (s : State) (a : Nat) (bs : List Byte) : State :=
  (s.setStore (s.store.write a bs)).portDone

/-- One write of the format sequence completes (R177): the next one follows, or the cache is emptied and the
format replied OK. -/
def State.formatWriteDone (s : State) (a : Nat) (bs : List Byte) : State :=
  let s := (s.setStore (s.store.write a bs)).portDone
  match s.band.format with
  | some (.writing i) =>
    if i < s.lastFormatWrite then s.setBand { s.band with format := some (.writing (i + 1)) }
    else
      (s.setBand { s.band with
        cache := Vector.replicate 32 CacheEntry.atReset
        lastUse := []
        format := some .ended }).giveReply .ok .none true
  | _ => s

/-! ### Failure (R14, R15) -/

/-- The failed request by its kind (R15). The waiters of a failed FETCH end STORE by R15, and BUSY in the winding-down
interval and while a STORE FORMAT runs, where R4 and R177 end those of a FETCH in flight so and do not name its failure
(DEDUCED, log 47; unsafe). -/
def State.failByKind (s : State) : Transfer → State
  | .fetch e _ => s.endWaiters e (if s.bandService then .store else .busy)
  | .write e _ _ =>
    s.setBand { s.band with queue := .write e :: s.band.queue.filter (fun q => q ≠ .write e) }
  | .headerWrite _ =>
    s.setBand { s.band with queue := .headerWrite :: s.band.queue.filter (fun q => q ≠ .headerWrite) }
  | .mirrorWrite k _ _ => s.setLocker k { s.locker k with dirty := true }
  | .headerRead => s
  | .mirrorRead _ => s
  | .formatWrite .. => s

/-- A host request whose reply waits on a held write is replied STORE at once, with the data fixed at its service
(R15). -/
def State.replyHeld (s : State) : State :=
  match s.band.replyWait with
  | none => s
  | some w => (s.setBand { s.band with replyWait := none }).reply .store w.data

/-- A transfer that fails twice ends a format at once, and it is replied STORE (R177). -/
def State.endFormat (s : State) : State :=
  match s.band.format with
  | none => s
  | some .ended => s
  | some _ => (s.setBand { s.band with format := some .ended }).giveReply .store .none true

/-- Whether the start-up sequence still makes its reads: a second failure then ends in NO_STORE (R172 to R175). -/
def Startup.reading : Startup → Bool
  | .headerRead => true
  | .mirrorRead .. => true
  | .ownership .. => true
  | .establishing => false
  | .done => false

/-- The second failure of a transfer (R15): FAULT, STORE_FAULT, and NO_STORE where start-up was reading (R172 to
R174, R176). -/
def State.secondFailure (s : State) (t : Transfer) : State :=
  let s := (s.setBand { s.band with port := .fault, inFlight := none }).post .storeFault .none
  if s.part.startup.reading then s.enterNoStore
  else
    let s := ((s.failByKind t).endFetches (if s.bandService then .store else .busy)).replyHeld
    let s := s.endFormat
    if s.part.winding then s.discardHeld else s

/-- A transfer ends with no response (R14): the first time it is started again at once with the same captured
content, the second time it has failed. -/
def State.transferTimeout (s : State) : State :=
  match s.band.inFlight with
  | none => s
  | some f =>
    if f.retried then s.secondFailure f.transfer
    else s.setBand { s.band with inFlight := some { f with retried := true } }

/-- The port leaves FAULT (R17, steps 1 to 3): READY, fairness count 0. A request held in the queue has its retry
again, since the first-failure record stands with the transfer in flight. -/
def State.leaveFault (s : State) : State :=
  if s.band.port = .fault then s.setBand { s.band with port := .ready, fairness := 0 } else s

end Sys2Proof.Machine
end

