-- ==== Sys2Proof/Machine/Passages.lean ====
section
/-!
DEFINITION. Beam edges and passages (R127, R128, R130) and the admission commit of the lane unit (R131).
-/

namespace Sys2Proof.Machine

/-! ### Beams (R127) -/

/-- The level of one beam of a lane. -/
def Beams.level (b : Beams) : Beam → Bool
  | .outer => b.outer
  | .inner => b.inner

/-- The levels with one beam replaced. -/
def Beams.put (b : Beams) : Beam → Bool → Beams
  | .outer, v => { b with outer := v }
  | .inner, v => { b with inner := v }

/-- The other beam of a lane. -/
def otherBeam : Beam → Beam
  | .outer => .inner
  | .inner => .outer

/-- The change of the phase count at an edge (R127's table): `broken` is the beam's new level,
`other` the level of the other beam. -/
def phaseStep (beam : Beam) (broken other : Bool) : Int :=
  match beam with
  | .outer => if broken then (if other then -1 else 1) else (if other then 1 else -1)
  | .inner => if broken then (if other then 1 else -1) else (if other then -1 else 1)

/-! ### The admission commit (R131) -/

/-- The lane unit sends the admission commit of a band with a passage stamp (R131). -/
def State.sendCommit (s : State) (l : LaneNo) (b : BandNo) (stamp : Stamp) : State :=
  (s.setLane l { s.lane l with commit := some ⟨b, stamp, false⟩ }).bandOp b.val (.commit l stamp)

/-- One second after its BUSY ending a commit is sent again, with the same passage stamp (R131). -/
def State.retryCommit (s : State) (l : LaneNo) : State :=
  match (s.lane l).commit with
  | none => s
  | some c => if c.retrying then s.sendCommit l c.band c.stamp else s

/-! ### Passages (R128, R130) -/

/-- The occupancy after a passage (R128). -/
def passedOccupancy (n : Nat) (inbound : Bool) : Nat := if inbound then min 999 (n + 1) else n - 1

/-- A passage consumes the arm of a lane (R130). -/
def State.consumeArm (s : State) (l : LaneNo) (a : Arm) : State :=
  let s := s.disarm l .passed
  match s.laneRole l, a.band with
  | .entry, some b => s.sendCommit l b s.now
  | _, _ => s

/-- Whether a passage goes in the direction of a lane's role (R128). -/
def LaneRole.runs (r : LaneRole) (inbound : Bool) : Bool :=
  match r with
  | .entry => inbound
  | .exit => !inbound

/-- A passage meets the lane's arm (R128's table). -/
def State.meetArm (s : State) (l : LaneNo) (inbound : Bool) : State :=
  if (s.laneRole l).runs inbound then
    match (s.lane l).arm with
    | some a => s.consumeArm l a
    | none => s.post .tailgate (.lane l)
  else s.post .wrongWay (.lane l)

/-- A passage (R128): occupancy, full flag, arm. -/
def State.passage (s : State) (l : LaneNo) (inbound : Bool) : State :=
  (s.setOccupancy (passedOccupancy s.lanes.occupancy inbound)).meetArm l inbound

/-- The phase count takes a new value: at +4 or −4 it becomes 0 and a passage is recorded (R127). -/
def State.countPhase (s : State) (l : LaneNo) (n : Int) : State :=
  if n = 4 then (s.setLane l { s.lane l with phase := 0 }).passage l true
  else if n = -4 then (s.setLane l { s.lane l with phase := 0 }).passage l false
  else s.setLane l { s.lane l with phase := n }

/-- The beam input pin of a lane takes a level (00_scope.md section 1.3). -/
def State.setPin (s : State) (l : LaneNo) (beam : Beam) (broken : Bool) : State :=
  s.setLanes { s.lanes with pins := s.lanes.pins.set l.val (s.lanes.pins[l.val].put beam broken) }

/-- An edge at a fitted lane (R127). -/
def State.takeEdge (s : State) (l : LaneNo) (beam : Beam) (broken : Bool) : State :=
  let x := s.lane l
  let s := s.setLane l { x with beams := x.beams.put beam broken }
  if x.service then s else s.countPhase l (x.phase + phaseStep beam broken (x.beams.level (otherBeam beam)))

/-- A change of a beam input (R127, R125): the pin takes the level; a lane that is not fitted takes no edge, and
the level a beam already has is no edge (log 3). -/
def State.beamChange (s : State) (l : LaneNo) (beam : Beam) (broken : Bool) : State :=
  let s := s.setPin l beam broken
  if s.laneFitted l = false then s
  else if (s.lane l).beams.level beam = broken then s
  else s.takeEdge l beam broken

end Sys2Proof.Machine
end

