-- ==== Sys2Proof/Machine/Reader.lean ====
section
/-!
DEFINITION. The reader line controller (chapter 9): the answers to polls and probes, misses, line switching and
offline heads, the choice of a line engine; and the presentation unit's opening of a presentation (R26 to R31),
which an answer brings about.
-/

namespace Sys2Proof.Machine

/-! ### Presentations opened by an answer (R26 to R31) -/

/-- Checks 1 and 2, made at arrival (R30): the reason of the first that fails. -/
def State.arrivalReason (s : State) (b : BandNo) : Option Reason :=
  if s.part.part = .starting then some .busy
  else if s.band.format.isSome then some .busy
  else if s.part.part = .noStore then some .store
  else if s.tableLength ≤ b.val then some .range
  else none

/-- A new presentation is opened at a head (R26, R30, R31). -/
def State.openPresentation (s : State) (h : HeadNo) (b : BandNo) (serial : Serial) : State :=
  let p : Presentation := ⟨b, serial, s.now, false, false⟩
  let s := s.setSlot h (some p)
  match s.arrivalReason b with
  | some r => s.conclude h p (.refuse r) .owner
  | none => s.bandOp b.val (.lookup h p)

/-- A PRESENT answer from a head (R26, R27, R29). -/
def State.presentAnswer (s : State) (h : HeadNo) (b : BandNo) (serial : Serial) : State :=
  if s.part.winding ∨ s.inService h = false then s
  else
    match s.slot h with
    | none => s.openPresentation h b serial
    | some p =>
      if p.band = b ∧ p.serial = serial then s
      else if p.decided then s.openPresentation h b serial
      else (s.supersede h).openPresentation h b serial

/-- An IDLE answer from a head (R28, R29). -/
def State.idleAnswer (s : State) (h : HeadNo) : State :=
  if s.part.winding then s
  else
    match s.slot h with
    | none => s
    | some p => if p.decided then s.setSlot h none else s

/-- An answer is handed to the presentation unit (R155). -/
def State.handAnswer (s : State) (h : HeadNo) : AnswerKind → State
  | .idle => s.idleAnswer h
  | .present b serial => s.presentAnswer h (bandNoOf b) serial

/-! ### Answers (R154, R155, R158) -/

/-- Whether an engine takes an answer (R154): its check agrees, it names the polled head, and a band number of 0 to
2047. -/
def Poll.takes (p : Poll) (head : Nat) (answer : Answer) : Bool :=
  answer.check == answerCheck head answer.kind && p.head.val == head &&
    match answer.kind with
    | .idle => true
    | .present b _ => decide (b < 2048)

/-- The poll in flight on a line ends. -/
def State.endPoll (s : State) (line : Line) : State := s.setEngine line { s.engine line with poll := none }

/-- A roster poll of a head has been answered (R155, steps 1 and 2). -/
def State.pollAnswered (s : State) (p : Poll) : State :=
  let x := s.head p.head
  s.setHead p.head { x with miss := 0, tried := false, verdict := if p.clears then none else x.verdict }

/-- A probe of a head has been answered on a line (R158). -/
def State.probeAnswered (s : State) (p : Poll) (line : Line) : State :=
  (s.setHead p.head { s.head p.head with
    state := .on line, miss := 0, tried := false, verdict := none, probe := .none }).post .headRestored (.head p.head)

/-- The effect of an answer to a poll or probe that has ended (R151, R152, R155, R158): nothing in the winding-down
interval; a head that has left service keeps its roster record, and the answer still reaches the presentation
unit. -/
def State.takeAnswer (s : State) (line : Line) (p : Poll) (answer : Answer) : State :=
  if s.part.winding then s
  else
    let s : State :=
      if p.stale then s else if p.probe then s.probeAnswered p line else s.pollAnswered p
    s.handAnswer p.head answer.kind

/-- An answer received on a line, to a roster poll or to a probe (`probe`): one whose check fails, that names another
head, carries a band number above 2047, or finds no such exchange in flight is discarded (R154). -/
def State.answerOn (s : State) (line : Line) (probe : Bool) (head : Nat) (answer : Answer) : State :=
  match (s.engine line).poll with
  | none => s
  | some p =>
    if p.probe = probe ∧ p.takes head answer = true then (s.endPoll line).takeAnswer line p answer else s

/-! ### Misses (R157) and unanswered probes (R158) -/

/-- The head has missed up to the limit on a line with its tried mark clear (R157). -/
def State.switchLine (s : State) (h : HeadNo) (line : Line) : State :=
  (s.setHead h { s.head h with state := .on (otherLine line), miss := 0, tried := true }).post
    .lineSwitched (.head h)

/-- The head has missed up to the limit on both lines (R157, R29). -/
def State.goOffline (s : State) (h : HeadNo) (line : Line) : State :=
  ((s.setHead h ⟨.offline, 0, false, none, otherLine line, .none⟩).post .headOffline (.head h)).dropPresentation h

/-- A roster poll of a head on a line has gone unanswered (R157). -/
def State.countMiss (s : State) (h : HeadNo) (line : Line) : State :=
  let x := s.head h
  if x.miss + 1 < s.settings.missLimit then s.setHead h { x with miss := x.miss + 1 }
  else if x.tried then s.goOffline h line
  else s.switchLine h line

/-- A probe of a head has gone unanswered (R158). -/
def State.probeMissed (s : State) (h : HeadNo) : State :=
  let x := s.head h
  s.setHead h { x with probeLine := otherLine x.probeLine, probe := .none }

/-- The window of an exchange of this kind in flight on a line expires (R154): no miss is counted in the
winding-down interval or for a head that has left service (R151, R152). -/
def State.windowExpiry (s : State) (line : Line) (probe : Bool) : State :=
  match (s.engine line).poll with
  | none => s
  | some p =>
    if p.probe = probe then
      let s := s.endPoll line
      if s.part.winding ∨ p.stale = true then s
      else if probe then s.probeMissed p.head
      else s.countMiss p.head line
    else s

/-- The probe of an OFFLINE head in service becomes DUE (R158). -/
def HeadRecord.markDue (x : HeadRecord) (inService : Bool) : HeadRecord :=
  match x.state, x.probe with
  | .offline, .none => if inService then { x with probe := .due } else x
  | _, _ => x

/-- The probe timer expires (R158). -/
def State.probeTimer (s : State) : State :=
  s.setReader { s.reader with roster := Vector.ofFn (fun h => (s.head h).markDue (s.inService h)) }

/-! ### The choice of a line engine (R153) -/

/-- The lowest-numbered head whose probe is DUE on a line (R153, step 1). -/
def State.dueProbe (s : State) (line : Line) : Option HeadNo :=
  allHeads.find? (fun h => s.inService h && (s.head h).probe == .due && (s.head h).probeLine == line)

/-- Whether a head in service is polled on a line (R153, step 2). -/
def State.polledOn (s : State) (line : Line) (h : HeadNo) : Bool :=
  s.inService h && (s.head h).state == .on line

/-- The next head of an engine's round (R153, step 2). -/
def State.nextRoster (s : State) (line : Line) : Option HeadNo :=
  let after : Option HeadNo := match (s.engine line).last with
    | none => none
    | some l => allHeads.find? (fun h => l < h && s.polledOn line h)
  after.or (allHeads.find? (s.polledOn line))

/-- The engine of a line sends a recovery probe (R153, R154, R158): a poll that carries no verdict. -/
def State.sendProbe (s : State) (line : Line) (h : HeadNo) : State :=
  let s := s.setHead h { s.head h with probe := .inFlight }
  s.setEngine line { s.engine line with
    lastWasRoster := false, poll := some ⟨h, true, none, false, false, s.settings.pollWindow⟩ }

/-- The engine of a line sends a roster poll, which carries the head's pending verdict (R153, R154). -/
def State.sendPoll (s : State) (line : Line) (h : HeadNo) : State :=
  let v := (s.head h).verdict
  s.setEngine line ⟨some h, true, some ⟨h, false, v, v.isSome, false, s.settings.pollWindow⟩⟩

/-- An engine with no poll in flight chooses its next exchange (R153); none from the RESTART reply on (R151). -/
def State.chooseExchange (s : State) (line : Line) : State :=
  if s.part.winding ∨ (s.engine line).poll.isSome then s
  else
    match (s.engine line).lastWasRoster, s.dueProbe line, s.nextRoster line with
    | true, some h, _ => s.sendProbe line h
    | _, _, some h => s.sendPoll line h
    | _, some h, none => s.sendProbe line h
    | _, none, none => s

end Sys2Proof.Machine
end

