-- ==== Sys2Proof/Machine/Strings.lean ====
section
/-!
DEFINITION. The string drivers and the contact scanner (chapter 4): pulse starts and ends with their reports to
the owner (R81, R82), and the scan of a string (R86 to R88).
-/

namespace Sys2Proof.Machine

/-! ### The driver (R81 to R83) -/

/-- The pulse start is reported to the owner of the position (R81, R56, R99). -/
def State.reportStart (s : State) (i : StringNo) (p : Position) : State :=
  if h : i.val < 8 then s.lockerPulseStart (lockerAt ⟨i.val, h⟩ p)
  else if h : p.val < 24 then s.cabinPulseStart ⟨p.val, h⟩
  else s

/-- The pulse end is reported to the owner of the position, with the confirm window (R82, R56, R99). -/
def State.reportEnd (s : State) (i : StringNo) (p : Pulse) (window : Nat) : State :=
  if h : i.val < 8 then s.lockerPulseEnd (lockerAt ⟨i.val, h⟩ p.position) p.direction window
  else if h : p.position.val < 24 then s.cabinPulseEnd ⟨p.position.val, h⟩ p.direction window
  else s

/-- A pulse start (R81), where the driver is IDLE, the string FITTED and the queue not empty; none from the RESTART
reply on (R83). -/
def State.pulseStart (s : State) (i : StringNo) : State :=
  let x := s.string i
  match x.driver, x.fitting, x.queue with
  | .idle, .fitted, p :: rest =>
    if s.part.winding then s
    else
      (s.setString i { x with queue := rest, driver := .pulsing p (s.stringSettings i).pulse }).reportStart i
        p.position
  | _, _, _ => s

/-- The driver state behind a pulse end (R82, step 4). -/
def restDriver (rest : Nat) : Driver := if 0 < rest then .resting rest else .idle

/-- The pulse timer expires (R82); after a RESTART reply the end is reported to no block (R83). -/
def State.pulseEnd (s : State) (i : StringNo) : State :=
  let x := s.string i
  match x.driver with
  | .pulsing p _ =>
    let g := s.stringSettings i
    let s := s.setString i { x with driver := restDriver g.rest }
    if s.part.winding then s else s.reportEnd i p g.window
  | _ => s

/-- The rest timer expires (R82). -/
def State.restEnd (s : State) (i : StringNo) : State :=
  let x := s.string i
  match x.driver with
  | .resting _ => s.setString i { x with driver := .idle }
  | _ => s

/-! ### The scan (R86 to R88) -/

/-- A contact after a scan that reads level `v` (R86, R88): the count goes up while the level stays unknown. -/
def Contact.sample (c : Contact) (v : Bool) : Contact :=
  match c.accepted with
  | some a => ⟨some (if v ≠ a ∧ c.previous = some v then v else a), some v, c.count⟩
  | none =>
    if c.previous = some v ∨ c.count + 1 = 25 then ⟨some v, some v, c.count⟩ else ⟨none, some v, c.count + 1⟩

/-- Whether a scan that reads level `v` accepts a change of a known level (R86). -/
def Contact.changes (c : Contact) (v : Bool) : Bool :=
  match c.accepted with
  | some a => v != a && c.previous == some v
  | none => false

/-- DOOR_OPENED or DOOR_CLOSED reaches the owner (R87, R60, R104, R105). A door closing sets the level and does
nothing more. -/
def State.reportDoor (s : State) (i : StringNo) (p : Position) (isOpen : Bool) : State :=
  if isOpen = false then s
  else if h : i.val < 8 then s.lockerDoorOpened (lockerAt ⟨i.val, h⟩ p)
  else if h : p.val < 24 then s.cabinDoorOpened ⟨p.val, h⟩
  else s

/-- BOLT_THROWN or BOLT_WITHDRAWN reaches the owner (R87, R61, R99, R104, R105). -/
def State.reportBolt (s : State) (i : StringNo) (p : Position) (thrown : Bool) : State :=
  if h : i.val < 8 then s.lockerBoltChange (lockerAt ⟨i.val, h⟩ p) thrown
  else if h : p.val < 24 then s.cabinBoltChange ⟨p.val, h⟩ thrown
  else s

/-- The door contact of a position is sampled, and an accepted change is reported if the string is FITTED. -/
def State.scanDoor (s : State) (i : StringNo) (p : Position) (v : Bool) : State :=
  let x := s.contacts i
  let c := x.doors[p.val]
  let s := s.setContacts i { x with doors := x.doors.set p.val (c.sample v) }
  if c.changes v ∧ s.stringFitted i = true then s.reportDoor i p v else s

/-- The bolt contact of a position is sampled, and an accepted change is reported if the string is FITTED. -/
def State.scanBolt (s : State) (i : StringNo) (p : Position) (v : Bool) : State :=
  let x := s.contacts i
  let c := x.bolts[p.val]
  let s := s.setContacts i { x with bolts := x.bolts.set p.val (c.sample v) }
  if c.changes v ∧ s.stringFitted i = true then s.reportBolt i p v else s

/-- The positions of a string: 32, and 24 on string 8 (R75). -/
def stringPositions (i : StringNo) : List Position :=
  if i = cabinString then (allFin 32).filter (fun p => p.val < 24) else allFin 32

/-- Whether every contact of a string is established (R88). -/
def State.allEstablished (s : State) (i : StringNo) : Bool :=
  (stringPositions i).all (fun p => (s.doorOpen i p).isSome && (s.boltThrown i p).isSome)

/-- The scan of one position: the door before the bolt (R87). -/
def State.scanPosition (s : State) (i : StringNo) (doors bolts : BitVec 32) (p : Position) : State :=
  (s.scanDoor i p (doors.getLsbD p.val)).scanBolt i p (bolts.getLsbD p.val)

/-- One scan of a string (R85 to R88); a string that is not fitted is not scanned. -/
def State.scanString (s : State) (i : StringNo) (doors bolts : BitVec 32) : State :=
  match (s.string i).fitting with
  | .notFitted => s
  | .fitted => (stringPositions i).foldl (fun s p => s.scanPosition i doors bolts p) s
  | .establishing =>
    let s := (stringPositions i).foldl (fun s p => s.scanPosition i doors bolts p) s
    if s.allEstablished i then s.stringReachesFitted i else s

end Sys2Proof.Machine
end

