-- ==== Sys2Proof/Machine/Link.lean ====
section
/-!
DEFINITION. The link controller (chapter 10): the choice of the transmit side (R164, R166), the end of a frame,
the tests at the arrival of a request (R161, R163), and the judging of received bytes (R160).
-/

namespace Sys2Proof.Machine

/-! ### The transmit side (R164, R166) -/

/-- The highest level above the floor in a list of notices, 0 where none is eligible (R166). -/
def topLevel (q : List Notice) (floor : Nat) : Nat :=
  q.foldr (fun n m => if floor < n.kind.level then max n.kind.level m else m) 0

/-- The notice the transmit side takes: of the highest level above the floor, the one that joined first (R166). -/
def chooseNotice (q : List Notice) (floor : Nat) : Option Notice :=
  if topLevel q floor = 0 then none else q.find? (fun n => n.kind.level == topLevel q floor)

/-- The notice queue without the notice chosen (R166). -/
def dropNotice (q : List Notice) (floor : Nat) : List Notice := q.eraseP (fun n => n.kind.level == topLevel q floor)

/-- A frame starts: its flags byte is taken now (R164). -/
def State.sendFrame (s : State) (f : Frame) : State :=
  s.setLink { s.link with sending := some ⟨f, s.flagsByte⟩ }

/-- The free transmit side chooses its next frame (R164): the reply that became ready first, else a notice, and no
notice in the winding-down interval (R170). -/
def State.startFrame (s : State) : State :=
  if s.link.sending.isSome then s
  else
    match s.link.replies with
    | r :: rest => (s.setLink { s.link with replies := rest }).sendFrame (.reply r)
    | [] =>
      if s.part.winding then s
      else
        match chooseNotice s.link.notices s.link.floor.val with
        | none => s
        | some n =>
          (s.setLink { s.link with notices := dropNotice s.link.notices s.link.floor.val }).sendFrame (.notice n)

/-- A frame has been sent in full (R164): the outstanding request is ended by its own reply, and the reply behind
which the part restarts begins the winding-down interval (R170, R177). -/
def State.frameSent (s : State) : State :=
  match s.link.sending with
  | none => s
  | some f =>
    let s := s.setLink { s.link with sending := none }
    match f.frame with
    | .notice _ => s
    | .reply r =>
      let s : State := if r.own then s.setLink { s.link with outstanding := none } else s
      if r.restarts then s.beginWinding else s

/-! ### What chooses by itself -/

/-- The end of every command (log 6): the store port, the two line engines and the transmit side choose what they
do next wherever they are free (R12, R153, R164). -/
def State.arbitrate (s : State) : State := (((s.choosePort).chooseExchange .a).chooseExchange .b).startFrame

/-! ### The arrival of a request (R161, R163) -/

/-- A BUSY reply built by the link controller: the list has room for 4, and a request that meets a full one is
discarded without a reply (R163). -/
def State.replyBusy (s : State) (tag : Byte) : State :=
  if (s.link.replies.filter (fun r => !r.own)).length < 4 then
    s.setLink { s.link with replies := s.link.replies ++ [⟨tag, .busy, .none, false, false⟩] }
  else s

/-- Test 4 of R161: the reply to a request not taken in the present part state. -/
def State.partTest (s : State) (r : Request) : Option Result :=
  match s.shownPart with
  | .running => none
  | .starting => if r = .status ∨ r = .clockSet then none else some .starting
  | .noStore =>
    if r = .status ∨ r = .clockSet ∨ r = .clockRead ∨ r = .storeFormat ∨ r = .restart then none else some .store

/-- A good frame is taken: the receive side hunts again and holds no bytes of it (R160; log 7). -/
def State.frameTaken (s : State) : State := s.setLink { s.link with kept := [] }

/-- The request of this kind and tag becomes the outstanding one (R161). -/
def State.makeOutstanding (s : State) (kind tag : Byte) : State :=
  s.setLink { s.link with outstanding := some ⟨kind, tag⟩ }

/-- Tests 3 to 5 of R161 for a request that has become outstanding: `serve` is its owning block's meaning. -/
def State.judgeRequest (s : State) (r : Request) (body : List Byte) (serve : State → State) : State :=
  if body.length ≠ r.bodyLength then s.answer .malformed
  else
    match s.partTest r with
    | some res => s.answer res
    | none => serve s

/-- The arrival of a request with a known code (R161). -/
def State.arrive (s : State) (r : Request) (tag : Byte) (body : List Byte) (serve : State → State) : State :=
  let s := s.frameTaken
  match s.link.outstanding with
  | some _ => s.replyBusy tag
  | none => (s.makeOutstanding r.code tag).judgeRequest r body serve

/-- The arrival of a request whose kind is no request code (R161, test 2). -/
def State.arriveUnknown (s : State) (kind tag : Byte) : State :=
  let s := s.frameTaken
  match s.link.outstanding with
  | some _ => s.replyBusy tag
  | none => (s.makeOutstanding kind tag).answer .unknown

/-! ### Judging received bytes (R160) -/

/-- A complete frame as received: kind, tag and body. -/
structure Received where
  kind : Byte
  tag : Byte
  body : List Byte
  deriving DecidableEq, Repr

/-- What bytes that begin with a start byte amount to: too few to judge, a frame to discard, or a good frame with
the bytes behind it. -/
inductive Judged where
  | more
  | bad
  | good (f : Received) (rest : List Byte)
  deriving DecidableEq, Repr

/-- Judge the bytes behind a start byte (R160): the length byte, the kind, tag and body, and the two check bytes. -/
def judgeFrame : List Byte → Judged
  | [] => .more
  | len :: bs =>
    let n := len.toNat
    if n < 2 ∨ 250 < n then .bad
    else if bs.length < n + 2 then .more
    else if (bs.drop n).take 2 = crc16Bytes (len :: bs.take n) then
      .good ⟨byteAt bs 0, byteAt bs 1, (bs.take n).drop 2⟩ (bs.drop (n + 2))
    else .bad

/-- Hunt through bytes (R160): the good frames found, in their order, and the bytes kept of a frame not yet
complete. After a discard hunting resumes at the byte behind the discarded start byte. Where `gap` is set no byte
follows within the gap, so that a frame not complete is discarded too (log 8). The first argument bounds the number
of bytes tested. -/
def huntFrames (gap : Bool) : Nat → List Byte → List Received × List Byte
  | 0, _ => ([], [])
  | _ + 1, [] => ([], [])
  | n + 1, b :: bs =>
    if b ≠ 0x5C then huntFrames gap n bs
    else
      match judgeFrame bs with
      | .more => if gap then huntFrames gap n bs else ([], b :: bs)
      | .bad => huntFrames gap n bs
      | .good f rest => let r := huntFrames gap n rest; (f :: r.1, r.2)

end Sys2Proof.Machine
end

