-- ==== Sys2Proof/Machine/Requests.lean ====
section
/-!
DEFINITION. What each host request does at its owning block once the link controller has handed it over (R161,
test 5): the argument ranges, the state tests, the effect and the reply. `body` holds the argument bytes; it has
the length of section 10.5.
-/

namespace Sys2Proof.Machine

/-! ### Arguments -/

/-- Two argument bytes from an offset, MSB first. -/
def argWord (body : List Byte) (i : Nat) : Nat := be16 (byteAt body i) (byteAt body (i + 1))

/-- Four argument bytes from an offset, MSB first. -/
def argLong (body : List Byte) (i : Nat) : BitVec 32 :=
  be32 (byteAt body i) (byteAt body (i + 1)) (byteAt body (i + 2)) (byteAt body (i + 3))

/-- One argument byte as a number. -/
def argByte (body : List Byte) (i : Nat) : Nat := (byteAt body i).toNat

/-! ### Link (R168 to R170) -/

/-- The data of the STATUS reply (R169). -/
def State.statusData (s : State) : StatusData where
  part := s.shownPart
  clock := s.clock.value
  clockSet := s.clock.isSet
  overflow := s.link.overflow
  held := s.link.notices.length
  floor := s.link.floor
  port := s.band.port
  queueLength := s.band.queue.length
  entriesInUse := ((allFin 32).filter (fun e => (s.entry e).content != .empty)).length
  tableLength := s.tableLength
  stringsFitted := s.settings.fittedStrings
  lanesFitted := s.settings.fittedLanes
  occupancy := s.lanes.occupancy
  full := s.lanes.full

/-- STATUS (R169): the overflow mark is cleared behind the data. -/
def State.serveStatus (s : State) : State :=
  (s.setLink { s.link with overflow := false }).reply .ok (.status s.statusData)

/-- SET FLOOR (R168). -/
def State.serveSetFloor (s : State) (body : List Byte) : State :=
  match inRangeOf 8 (argByte body 0) with
  | none => s.answer .range
  | some f => (s.setLink { s.link with floor := f }).reply .ok (.noticesHeld s.link.notices.length)

/-- RESTART (R170). -/
def State.serveRestart (s : State) : State := s.giveReply .ok .none true

/-! ### Band records (R18 to R24) -/

/-- A band request: a band operation for the band in the first two bytes (R18). -/
def State.bandRequest (s : State) (body : List Byte) (r : BandRequest) : State :=
  s.bandOp (argWord body 0) (.request r)

/-- The arguments of BAND ISSUE (R20, 10.5). -/
def issueArgs (body : List Byte) : BandRequest :=
  .issue (argLong body 2) (argByte body 6) (argWord body 7) (argWord body 9) (byteAt body 11) (byteAt body 12)

/-- The arguments of BAND AMEND (R21, 10.5). -/
def amendArgs (body : List Byte) : BandRequest :=
  .amend (argByte body 2) (argWord body 3) (byteAt body 5) (byteAt body 6)

/-! ### Lockers (R65 to R74) -/

/-- A locker request: a number above 255, or a locker on a string that is not fitted, is replied RANGE (R65). -/
def State.lockerRequest (s : State) (body : List Byte) (serve : LockerNo → State) : State :=
  match inRangeOf 256 (argWord body 0) with
  | none => s.answer .range
  | some k => if s.stringFitted (lockerString k) then serve k else s.answer .range

/-- LOCKER ASSIGN and LOCKER SHARE: band operations for the band in bytes 2 and 3 (R65). The locker number and its string
are tested first, at the arrival, and a bad one is replied RANGE with no lookup made; the manual does not order that test
against a lookup that ends BUSY or STORE (DEDUCED, log 29; unsafe). -/
def State.lockerBandRequest (s : State) (body : List Byte) (r : LockerNo → BandRequest) : State :=
  s.lockerRequest body (fun k => s.bandOp (argWord body 2) (.request (r k)))

/-- LOCKER UNSHARE (R67). -/
def State.serveUnshare (s : State) (body : List Byte) : State :=
  s.lockerRequest body (fun k =>
    if s.tableLength ≤ argWord body 2 then s.answer .range
    else
      let b := bandNoOf (argWord body 2)
      let l := s.locker k
      if b ∈ l.companions then
        (s.setLocker k { l with companions := l.companions.filter (fun c => c ≠ b), dirty := true }).answer .ok
      else s.answer .state)

/-- LOCKER OPEN (R68). -/
def State.serveLockerOpen (s : State) (body : List Byte) : State :=
  s.lockerRequest body (fun k =>
    if (s.locker k).state = .locked then (s.beginDesk k .deskOpen).answer .ok else s.answer .state)

/-- The immediate end of an OPENED locker's ownership by LOCKER RELEASE (R69). -/
def State.releaseOpened (s : State) (k : LockerNo) : State :=
  (s.disown k .vacant).journalClosed (.locker k) (s.locker k).owner .desk .release s.now .done

/-- LOCKER RELEASE (R69). -/
def State.serveLockerRelease (s : State) (body : List Byte) : State :=
  s.lockerRequest body (fun k =>
    match (s.locker k).state with
    | .opened => (s.releaseOpened k).answer .ok
    | .locked => (s.beginDesk k .release).answer .ok
    | .abandoned => (s.beginDesk k .release).answer .ok
    | _ => s.answer .state)

/-- LOCKER RESET (R70). -/
def State.serveLockerReset (s : State) (body : List Byte) : State :=
  s.lockerRequest body (fun k =>
    match (s.locker k).state with
    | .forced => (s.beginDesk k .reset).answer .ok
    | .jammed => (s.beginDesk k .reset).answer .ok
    | _ => s.answer .state)

/-- LOCKER SUSPEND (R71). -/
def State.serveLockerSuspend (s : State) (body : List Byte) : State :=
  s.lockerRequest body (fun k =>
    if (s.locker k).state = .vacant then
      (s.setLocker k { s.locker k with state := .suspended, dirty := true }).answer .ok
    else s.answer .state)

/-- LOCKER RESUME (R71). -/
def State.serveLockerResume (s : State) (body : List Byte) : State :=
  s.lockerRequest body (fun k =>
    if (s.locker k).state = .suspended then
      (s.setLocker k { s.locker k with state := .vacant, dirty := true }).answer .ok
    else s.answer .state)

/-- LOCKER WATCH (R72). -/
def State.serveLockerWatch (s : State) (body : List Byte) : State :=
  s.lockerRequest body (fun k =>
    match onOffOf (byteAt body 2) with
    | none => s.answer .range
    | some on => (s.setLocker k { s.locker k with watch := on }).answer .ok)

/-- STRING CLOSE and STRING OPEN set and clear a closed flag (R73). -/
def State.serveClosedFlag (s : State) (body : List Byte) (closed : Bool) : State :=
  match inRangeOf 8 (argByte body 0) with
  | none => s.answer .range
  | some i =>
    if s.stringFitted (lockerStringNo i) then
      (s.setLockers { s.lockers with closed := s.lockers.closed.set i.val closed }).answer .ok
    else s.answer .range

/-- The data of the LOCKER READ reply (R74). -/
def State.lockerData (s : State) (k : LockerNo) : LockerData :=
  let l := s.locker k
  { number := k, state := l.state, owner := l.owner, companions := l.companions, work := l.work,
    retryUsed := l.retryUsed, doorOpened := l.doorOpened,
    doorOpen := s.doorOpen (lockerString k) (lockerPosition k),
    boltThrown := s.boltThrown (lockerString k) (lockerPosition k),
    closed := s.lockerStringClosed k, watch := l.watch, dirty := l.dirty, link := l.link }

/-- LOCKER READ (R74). -/
def State.serveLockerRead (s : State) (body : List Byte) : State :=
  s.lockerRequest body (fun k => s.reply .ok (.locker (s.lockerData k)))

/-! ### Latch strings (R76, R77, R89) -/

/-- Whether a locker may go out of service with its string (R76). -/
def LockerState.unfittable : LockerState → Bool
  | .vacant => true
  | .suspended => true
  | _ => false

/-- Whether every locker of the strings from `lo` up to `hi` less 1 is VACANT or SUSPENDED (R76). -/
def State.stringsIdle (s : State) (lo hi : Nat) : Bool :=
  (stringsBetween lo hi).all (fun i => (allFin 32).all (fun p => (s.locker (lockerAt i p)).state.unfittable))

/-- STRINGS FITTED (R76): raised strings enter ESTABLISHING, lowered ones NOT_FITTED, whose heads leave service
(R29, R152). -/
def State.serveStringsFitted (s : State) (body : List Byte) : State :=
  let n := argByte body 0
  let old := s.settings.fittedStrings
  if n = 0 ∨ 8 < n then s.answer .range
  else if s.stringsIdle n old = false then s.answer .state
  else
    let t := (stringsBetween old n).foldl (fun s i => s.establish (lockerStringNo i)) s
    let t := (stringsBetween n old).foldl (fun s i => s.unfitString (lockerStringNo i)) t
    (t.applySettings { t.settings with fittedStrings := n }).leaveAll s

/-- STRING SETTINGS (R77). -/
def State.serveStringSettings (s : State) (body : List Byte) : State :=
  let x : StringSettings := ⟨argWord body 1, argWord body 3, argWord body 5⟩
  match inRangeOf 9 (argByte body 0) with
  | none => s.answer .range
  | some i =>
    if x.inRange then s.applySettings { s.settings with strings := s.settings.strings.set i.val x }
    else s.answer .range

/-- The driver state as shown, without its timer (R89). -/
def Driver.shown : Driver → DriverState
  | .idle => .idle
  | .pulsing _ _ => .pulsing
  | .resting _ => .resting

/-- The data of the STRING READ reply (R89): the current pulse is present while PULSING. -/
def State.stringData (s : State) (i : StringNo) : StringData where
  number := i
  fitting := (s.string i).fitting
  closed := if h : i.val < 8 then some (s.stringClosed ⟨i.val, h⟩) else none
  settings := s.stringSettings i
  driver := (s.string i).driver.shown
  current := (s.string i).coil
  queue := (s.string i).queue
  levels := (stringPositions i).map (fun p => (s.doorOpen i p, s.boltThrown i p))

/-- STRING READ (R89). -/
def State.serveStringRead (s : State) (body : List Byte) : State :=
  match inRangeOf 9 (argByte body 0) with
  | none => s.answer .range
  | some i => s.reply .ok (.string (s.stringData i))

/-! ### Cabins (R107 to R109) -/

/-- A cabin request: a number above 23 is replied RANGE (R107, R109). -/
def State.cabinRequest (s : State) (body : List Byte) (serve : CabinNo → State) : State :=
  match inRangeOf 24 (argByte body 0) with
  | none => s.answer .range
  | some c => serve c

/-- CABIN RELEASE (R107). -/
def State.serveCabinRelease (s : State) (body : List Byte) : State :=
  s.cabinRequest body (fun c =>
    match (s.cabin c).state with
    | .held => (s.openCabin c .release .held false).answer .ok
    | .overdue => (s.openCabin c .release .overdue false).answer .ok
    | _ => s.answer .state)

/-- CABIN SUSPEND (R107). -/
def State.serveCabinSuspend (s : State) (body : List Byte) : State :=
  s.cabinRequest body (fun c =>
    if (s.cabin c).state = .free then (s.setCabin c { s.cabin c with state := .suspended }).answer .ok
    else s.answer .state)

/-- CABIN RESUME (R107). -/
def State.serveCabinResume (s : State) (body : List Byte) : State :=
  s.cabinRequest body (fun c =>
    if (s.cabin c).state ≠ .suspended then s.answer .state
    else if s.cabinThrown c then (s.openCabin c .restore .free false).answer .ok
    else (s.setCabin c { s.cabin c with state := .free }).answer .ok)

/-- CABIN SETTINGS (R108). -/
def State.serveCabinSettings (s : State) (body : List Byte) : State :=
  let limit := argWord body 0
  let grace := argWord body 2
  let half := argWord body 4
  if within 60 3600 limit && within 0 1800 grace && onTens 100 1000 half then
    s.applySettings { s.settings with cabinLimit := limit, cabinGrace := grace, halfPeriod := half }
  else s.answer .range

/-- The data of the CABIN READ reply (R109). -/
def State.cabinData (s : State) (c : CabinNo) : CabinData :=
  let x := s.cabin c
  { number := c, state := x.state, lampMode := x.state.lampMode, lamp := s.lampOutput c, holder := x.holder,
    work := x.work, retryUsed := x.retryUsed, expiryMark := x.expiryMark, releaseMark := x.releaseMark,
    due1 := x.due1, due2 := x.due2,
    doorOpen := s.doorOpen cabinString (cabinPosition c), boltThrown := s.boltThrown cabinString (cabinPosition c),
    link := x.link, limit := s.settings.cabinLimit, grace := s.settings.cabinGrace,
    halfPeriod := s.settings.halfPeriod }

/-- CABIN READ (R109). -/
def State.serveCabinRead (s : State) (body : List Byte) : State :=
  s.cabinRequest body (fun c => s.reply .ok (.cabin (s.cabinData c)))

/-! ### Site clock, tariffs and stay accounting (R112, R113, R116, R117, R119, R124) -/

/-- CLOCK SET (R112). -/
def State.serveClockSet (s : State) (body : List Byte) : State := (s.setTheClock (argLong body 0)).answer .ok

/-- CLOCK READ (R113). -/
def State.serveClockRead (s : State) : State := s.reply .ok (.clock s.clock.value s.clock.isSet)

/-- The table a TARIFF STAGE works on: the pending one, or a copy of the active one (R116). -/
def State.stagedOn (s : State) : TariffTable := s.clock.pendingTable.getD s.settings.tariff

/-- TARIFF STAGE (R116). -/
def State.serveTariffStage (s : State) (body : List Byte) : State :=
  let x : TariffClass := ⟨argWord body 1, argByte body 3, argWord body 4, argWord body 6⟩
  match inRangeOf 8 (argByte body 0) with
  | none => s.answer .range
  | some c =>
    if x.inRange then
      (s.setClock { s.clock with pendingTable := some (s.stagedOn.set c.val x) }).answer .ok
    else s.answer .range

/-- A TARIFF SWITCH that makes the switch at its service (R117, R118; log 28). -/
def State.switchNow (s : State) (table : TariffTable) : State := (s.tariffSwitch table).replyAfterHeader

/-- TARIFF SWITCH (R117). A stamp with no pending table while the clock is unset meets both the STATE and the
CLOCK_UNSET case of R117, which puts its cases in no order: STATE comes first here (DEDUCED from the order in which they
are listed, log 42; unsafe). -/
def State.serveTariffSwitch (s : State) (body : List Byte) : State :=
  match onOffOf (byteAt body 0), s.clock.pendingTable with
  | none, _ => s.answer .range
  | some _, none => s.answer .state
  | some true, some table => s.switchNow table
  | some false, some table =>
    if s.clock.isSet = false then s.answer .clockUnset
    else if (argLong body 1).toNat ≤ s.now.toNat then s.switchNow table
    else (s.setClock { s.clock with switchStamp := some (argLong body 1) }).answer .ok

/-- TARIFF DISCARD (R119). -/
def State.serveTariffDiscard (s : State) : State :=
  match s.clock.pendingTable with
  | none => s.answer .state
  | some _ => (s.setClock { s.clock with pendingTable := none, switchStamp := none }).answer .ok

/-- TARIFF READ (R119). -/
def State.serveTariffRead (s : State) : State :=
  s.reply .ok (.tariff s.settings.tariff s.clock.pendingTable s.clock.switchStamp)

/-- STAY QUERY (R124, steps 1 to 3). -/
def State.serveStayQuery (s : State) (body : List Byte) : State :=
  if s.tableLength ≤ argWord body 0 then s.answer .range
  else if s.clock.isSet = false then s.answer .clockUnset
  else s.bandRequest body .stayQuery

/-! ### Gate lanes (R137 to R140) -/

/-- A lane request: a number above 3 is replied RANGE (R137, R140). -/
def State.laneRequest (s : State) (body : List Byte) (serve : LaneNo → State) : State :=
  match inRangeOf 4 (argByte body 0) with
  | none => s.answer .range
  | some l => serve l

/-- Whether a lane is affected by new lane settings: it would cease to be fitted, or stay fitted with another role
(R138). -/
def State.laneAffected (s : State) (x : Settings) (l : LaneNo) : Bool :=
  s.laneFitted l && (decide (x.fittedLanes ≤ l.val) || x.roles[l.val] != s.laneRole l)

/-- Whether a lane is ARMED or has a commit pending. -/
def Lane.engaged (x : Lane) : Bool := x.arm.isSome || x.commit.isSome

/-- One lane under new lane settings (R138). -/
def State.refitLane (s : State) (x : Settings) (l : LaneNo) : State :=
  if s.laneFitted l then
    if x.fittedLanes ≤ l.val then s.unfitLane l
    else if x.roles[l.val] ≠ s.laneRole l then s.setLane l { s.lane l with phase := 0 }
    else s
  else if l.val < x.fittedLanes then s.fitLane l
  else s

/-- LANE SETTINGS whose values are in range (R138). -/
def State.takeLaneSettings (s : State) (x : Settings) : State :=
  if (allFin 4).any (fun l => s.laneAffected x l && (s.lane l).engaged) then s.answer .state
  else (((allFin 4).foldl (fun s l => s.refitLane x l) s).applySettings x).leaveAll s

/-- LANE SETTINGS (R138). -/
def State.serveLaneSettings (s : State) (body : List Byte) : State :=
  match laneRoleOf (byteAt body 1), laneRoleOf (byteAt body 2), laneRoleOf (byteAt body 3),
    laneRoleOf (byteAt body 4) with
  | some r0, some r1, some r2, some r3 =>
    if argByte body 0 ≤ 4 ∧ within 2 30 (argByte body 5) = true then
      s.takeLaneSettings { s.settings with
        fittedLanes := argByte body 0, roles := #v[r0, r1, r2, r3], armWindow := argByte body 5 }
    else s.answer .range
  | _, _, _, _ => s.answer .range

/-- LANE SERVICE (R137). -/
def State.serveLaneService (s : State) (body : List Byte) : State :=
  s.laneRequest body (fun l =>
    if s.laneFitted l then
      match onOffOf (byteAt body 1) with
      | none => s.answer .range
      | some on => (s.serveLane l on).answer .ok
    else s.answer .range)

/-- CAPACITY SET (R139). -/
def State.serveCapacitySet (s : State) (body : List Byte) : State :=
  if within 1 999 (argWord body 0) && within 0 50 (argByte body 2) then
    (s.applySettings { s.settings with capacity := argWord body 0, margin := argByte body 2 }).evaluateFull
  else s.answer .range

/-- OCCUPANCY SET (R139). -/
def State.serveOccupancySet (s : State) (body : List Byte) : State :=
  let n := min 999 (argWord body 0)
  (s.setOccupancy n).reply .ok (.occupancy n)

/-- The data of the LANE READ reply (R140). -/
def State.laneData (s : State) (l : LaneNo) : LaneData :=
  let x := s.lane l
  { number := l, fitted := s.laneFitted l, role := s.laneRole l, service := x.service, beams := x.beams,
    phase := x.phase, arm := x.arm.map (fun a => ⟨a.band, a.expiry, a.inbound⟩),
    commit := x.commit.map (fun c => (c.band, c.stamp)), link := x.link,
    turnstile := x.turnstile, swallow := x.swallow, eject := x.eject, armWindow := s.settings.armWindow,
    occupancy := s.lanes.occupancy, capacity := s.settings.capacity, margin := s.settings.margin,
    full := s.lanes.full }

/-- LANE READ (R140). -/
def State.serveLaneRead (s : State) (body : List Byte) : State :=
  s.laneRequest body (fun l => s.reply .ok (.lane (s.laneData l)))

/-! ### Journal (R148, R149) -/

/-- The subject kind of a journal entry as read (8.5.1). -/
def JournalSubject.kindCode : JournalSubject → Byte
  | .locker _ => 1
  | .cabin _ => 2
  | .lane _ => 3

/-- The subject number of a journal entry as read (8.5.1). -/
def JournalSubject.number : JournalSubject → Nat
  | .locker n => n.val
  | .cabin n => n.val
  | .lane n => n.val

/-- The party of a journal entry as read (8.5.1). -/
def Party.code : Party → Byte
  | .owner => 1
  | .companion => 2
  | .master => 3
  | .desk => 4

/-- The action of a journal entry as read (8.5.1). -/
def JournalAction.code : JournalAction → Byte
  | .claim => 0x01
  | .lock => 0x02
  | .unlock => 0x03
  | .masterOpen => 0x04
  | .deskOpen => 0x05
  | .release => 0x06
  | .reset => 0x07
  | .forced => 0x08
  | .cabinClaim => 0x09
  | .cabinRelease => 0x0A
  | .cabinExpire => 0x0B
  | .admission => 0x0C
  | .exit => 0x0D
  | .refused _ => 0x0E

/-- The reason of a journal entry as read: 0 but for REFUSED (8.5.1). -/
def JournalAction.reasonCode : JournalAction → Nat
  | .refused r => r.number
  | _ => 0

/-- The outcome of a journal entry as read (8.5.1). -/
def EntryOutcome.code : EntryOutcome → Byte
  | .done => 1
  | .cancelled => 2
  | .doorOpen => 3
  | .jammed => 4
  | .expired => 5
  | .passed => 6
  | .handle => 7
  | .forced => 8
  | .overtaken => 9

/-- The outcome byte of an entry: 00h while open (8.5.1). -/
def outcomeByte : Option (Stamp × EntryOutcome) → Byte
  | none => 0
  | some (_, o) => o.code

/-- The presence byte of an entry (8.5.1). -/
def JournalEntry.presence (e : JournalEntry) : Byte :=
  1 + (if e.band.isSome then 2 else 0) + (if e.finish.isSome then 4 else 0)

/-- An entry as read, 21 bytes (8.5.1). -/
def JournalEntry.bytes (e : JournalEntry) (slot : SlotNo) : List Byte :=
  [e.presence] ++ toBe16 slot.val ++ toBe16 e.lap.toNat ++
    [e.subject.kindCode, BitVec.ofNat 8 e.subject.number] ++ toBe16 ((e.band.map Fin.val).getD 0) ++
    [e.party.code, e.action.code, BitVec.ofNat 8 e.action.reasonCode, outcomeByte e.finish] ++
    toBe32 e.start ++ toBe32 ((e.finish.map Prod.fst).getD 0)

/-- A slot as read, 21 bytes (8.5.1). -/
def slotBytes (slot : SlotNo) : Option JournalEntry → List Byte
  | none => [0] ++ toBe16 slot.val ++ List.replicate 18 0
  | some e => e.bytes slot

/-- The overtaken copy as read, 21 bytes (8.5.1). -/
def overtakenBytes : Option (SlotNo × JournalEntry) → List Byte
  | none => List.replicate 21 0
  | some (slot, e) => e.bytes slot

/-- The slots a JOURNAL READ returns, upward from the start slot and on from 511 to 0 (R148). -/
def readSlots (start : SlotNo) (count : Nat) : List SlotNo := (List.range count).map (fun i => start + Fin.ofNat 512 i)

/-- The data of the JOURNAL READ reply (R148, 8.5.1). -/
def Journal.read (j : Journal) (start : SlotNo) (count : Nat) : List Byte :=
  toBe16 j.pos.val ++ toBe16 j.lap.toNat ++ [BitVec.ofNat 8 count] ++ overtakenBytes j.overtaken ++
    (readSlots start count).flatMap (fun i => slotBytes i j.ring[i.val])

/-- JOURNAL READ (R148). -/
def State.serveJournalRead (s : State) (body : List Byte) : State :=
  match inRangeOf 512 (argWord body 0) with
  | none => s.answer .range
  | some start =>
    if within 1 8 (argByte body 2) then s.reply .ok (.journal (s.journal.read start (argByte body 2)))
    else s.answer .range

/-- JOURNAL OPTIONS (R149). -/
def State.serveJournalOptions (s : State) (body : List Byte) : State :=
  match onOffOf (byteAt body 0) with
  | none => s.answer .range
  | some on => s.applySettings { s.settings with refusals := on }

/-! ### Reader lines (R159) -/

/-- READER SETTINGS (R159). -/
def State.serveReaderSettings (s : State) (body : List Byte) : State :=
  if within 2 20 (argByte body 0) && within 1 7 (argByte body 1) then
    (s.applySettings { s.settings with pollWindow := argByte body 0, missLimit := argByte body 1 }).clampMisses
  else s.answer .range

/-- The poll in flight to a head on a line, and whether it is a probe. -/
def State.pollOf (s : State) (line : Line) (h : HeadNo) : Option (Line × Bool) :=
  match (s.engine line).poll with
  | none => none
  | some p => if p.head = h then some (line, p.probe) else none

/-- The data of the HEAD READ reply (R159). With a poll in flight to the head on both lines it shows that of line A; the
manual does not say which (DESIGN CHOICE, log 38; unsafe). -/
def State.headData (s : State) (h : HeadNo) : HeadData :=
  let x := s.head h
  { number := h, inService := s.inService h, state := x.state, miss := x.miss, tried := x.tried,
    verdict := x.verdict, poll := (s.pollOf .a h).or (s.pollOf .b h), probeLine := x.probeLine, probe := x.probe,
    presentation := s.slot h, pollWindow := s.settings.pollWindow, missLimit := s.settings.missLimit }

/-- HEAD READ (R159). -/
def State.serveHeadRead (s : State) (body : List Byte) : State :=
  match inRangeOf 284 (argWord body 0) with
  | none => s.answer .range
  | some h => s.reply .ok (.head (s.headData h))

/-! ### Store format and store restart (R177, R178) -/

/-- The band table length a number names: 256 to 2048 in steps of 256 (R3, R177). -/
def tableUnitsOf (n : Nat) : Option (Fin 8) := if n % 256 = 0 ∧ 256 ≤ n then inRangeOf 8 (n / 256 - 1) else none

/-- The service of a STORE FORMAT (R177, steps 1 to 3): the new table length, no more band operations, an empty store
queue whose FETCH waiters end BUSY, and no dirty marks. That step 3 is made here, and not once the transfer in flight of
step 2 has ended, is the model's choice (DEDUCED, log 26; unsafe). -/
def State.beginFormat (s : State) (units : Fin 8) : State :=
  let s := s.leaveFault.setSettings { s.settings with tableUnits := units }
  let s := s.setBand { s.band with format := some .draining }
  let s := s.endFetches .busy
  let s := s.setBand { s.band with queue := [] }
  s.setLockers { s.lockers with table := s.lockers.table.map (fun l => { l with dirty := false }) }

/-- STORE FORMAT (R177): it stays outstanding until its last write. -/
def State.serveStoreFormat (s : State) (body : List Byte) : State :=
  match tableUnitsOf (argWord body 0) with
  | none => s.answer .range
  | some units => s.beginFormat units

/-- STORE RESTART (R178). -/
def State.serveStoreRestart (s : State) : State :=
  if s.band.port = .fault then s.leaveFault.answer .ok else s.answer .state

/-! ### The request of a frame -/

/-- What a request does at its owning block (R161, test 5). -/
def State.serveHostRequest (s : State) (r : Request) (body : List Byte) : State :=
  match r with
  | .status => s.serveStatus
  | .setFloor => s.serveSetFloor body
  | .restart => s.serveRestart
  | .bandIssue => s.bandRequest body (issueArgs body)
  | .bandAmend => s.bandRequest body (amendArgs body)
  | .bandTopup => s.bandRequest body (.topup (argWord body 2))
  | .bandSettle => s.bandRequest body (.settle (argWord body 2))
  | .bandBar => s.bandRequest body .bar
  | .bandUnbar => s.bandRequest body .unbar
  | .bandReturn => s.bandRequest body .ret
  | .bandRead => s.bandRequest body .read
  | .lockerAssign => s.lockerBandRequest body .assign
  | .lockerShare => s.lockerBandRequest body .share
  | .lockerUnshare => s.serveUnshare body
  | .lockerOpen => s.serveLockerOpen body
  | .lockerRelease => s.serveLockerRelease body
  | .lockerReset => s.serveLockerReset body
  | .lockerSuspend => s.serveLockerSuspend body
  | .lockerResume => s.serveLockerResume body
  | .lockerWatch => s.serveLockerWatch body
  | .stringClose => s.serveClosedFlag body true
  | .stringOpen => s.serveClosedFlag body false
  | .lockerRead => s.serveLockerRead body
  | .stringsFitted => s.serveStringsFitted body
  | .stringSettings => s.serveStringSettings body
  | .stringRead => s.serveStringRead body
  | .cabinRelease => s.serveCabinRelease body
  | .cabinSuspend => s.serveCabinSuspend body
  | .cabinResume => s.serveCabinResume body
  | .cabinSettings => s.serveCabinSettings body
  | .cabinRead => s.serveCabinRead body
  | .clockSet => s.serveClockSet body
  | .clockRead => s.serveClockRead
  | .tariffStage => s.serveTariffStage body
  | .tariffSwitch => s.serveTariffSwitch body
  | .tariffDiscard => s.serveTariffDiscard
  | .tariffRead => s.serveTariffRead
  | .stayQuery => s.serveStayQuery body
  | .laneSettings => s.serveLaneSettings body
  | .laneService => s.serveLaneService body
  | .capacitySet => s.serveCapacitySet body
  | .occupancySet => s.serveOccupancySet body
  | .laneRead => s.serveLaneRead body
  | .journalRead => s.serveJournalRead body
  | .journalOptions => s.serveJournalOptions body
  | .readerSettings => s.serveReaderSettings body
  | .headRead => s.serveHeadRead body
  | .storeFormat => s.serveStoreFormat body
  | .storeRestart => s.serveStoreRestart

/-- The arrival of a frame found among received bytes (R160, R161). -/
def State.arriveFrame (s : State) (f : Received) : State :=
  match requestOf f.kind with
  | none => s.arriveUnknown f.kind f.tag
  | some r => s.arrive r f.tag f.body (fun t => t.serveHostRequest r f.body)

/-- Received bytes are judged (R160): what is discarded goes without a reply or a notice, good frames found are
taken in their order, each as an event of its own with the choices at its end (log 6), and the bytes of a frame not
yet complete are kept (log 8). -/
def State.receive (s : State) (gap : Bool) (bytes : List Byte) : State :=
  let all := s.link.kept ++ bytes
  let r := huntFrames gap all.length all
  let s := r.1.foldl (fun s f => (s.arriveFrame f).arbitrate) s
  s.setLink { s.link with kept := r.2 }

end Sys2Proof.Machine
end

