-- ==== Sys2Proof/Machine/RequestCommands.lean ====
section
/-!
DEFINITION. The meanings of the host requests: the arrival of each request's frame at the link controller (R161)
with its service at the owning block, and then the choice of everything that is free (log 6).
-/

namespace Sys2Proof.Machine

/-! ### The requests of section 10.5 -/

/-- STATUS (R169). -/
def execStatus (tag : Byte) (body : List Byte) (s : State) : Host.Outcome State Fault Refusal :=
  .next (s.arrive .status tag body (fun t => t.serveStatus)).arbitrate

/-- SET FLOOR (R168). -/
def execSetFloor (tag : Byte) (body : List Byte) (s : State) : Host.Outcome State Fault Refusal :=
  .next (s.arrive .setFloor tag body (fun t => t.serveSetFloor body)).arbitrate

/-- RESTART (R170). -/
def execRestart (tag : Byte) (body : List Byte) (s : State) : Host.Outcome State Fault Refusal :=
  .next (s.arrive .restart tag body (fun t => t.serveRestart)).arbitrate

/-- BAND ISSUE (R20). -/
def execBandIssue (tag : Byte) (body : List Byte) (s : State) : Host.Outcome State Fault Refusal :=
  .next (s.arrive .bandIssue tag body (fun t => t.bandRequest body (issueArgs body))).arbitrate

/-- BAND AMEND (R21). -/
def execBandAmend (tag : Byte) (body : List Byte) (s : State) : Host.Outcome State Fault Refusal :=
  .next (s.arrive .bandAmend tag body (fun t => t.bandRequest body (amendArgs body))).arbitrate

/-- BAND TOPUP (R22). -/
def execBandTopup (tag : Byte) (body : List Byte) (s : State) : Host.Outcome State Fault Refusal :=
  .next (s.arrive .bandTopup tag body (fun t => t.bandRequest body (.topup (argWord body 2)))).arbitrate

/-- BAND SETTLE (R22). -/
def execBandSettle (tag : Byte) (body : List Byte) (s : State) : Host.Outcome State Fault Refusal :=
  .next (s.arrive .bandSettle tag body (fun t => t.bandRequest body (.settle (argWord body 2)))).arbitrate

/-- BAND BAR (R23). -/
def execBandBar (tag : Byte) (body : List Byte) (s : State) : Host.Outcome State Fault Refusal :=
  .next (s.arrive .bandBar tag body (fun t => t.bandRequest body .bar)).arbitrate

/-- BAND UNBAR (R23). -/
def execBandUnbar (tag : Byte) (body : List Byte) (s : State) : Host.Outcome State Fault Refusal :=
  .next (s.arrive .bandUnbar tag body (fun t => t.bandRequest body .unbar)).arbitrate

/-- BAND RETURN (R24). -/
def execBandReturn (tag : Byte) (body : List Byte) (s : State) : Host.Outcome State Fault Refusal :=
  .next (s.arrive .bandReturn tag body (fun t => t.bandRequest body .ret)).arbitrate

/-- BAND READ (R19). -/
def execBandRead (tag : Byte) (body : List Byte) (s : State) : Host.Outcome State Fault Refusal :=
  .next (s.arrive .bandRead tag body (fun t => t.bandRequest body .read)).arbitrate

/-- LOCKER ASSIGN (R66). -/
def execLockerAssign (tag : Byte) (body : List Byte) (s : State) : Host.Outcome State Fault Refusal :=
  .next (s.arrive .lockerAssign tag body (fun t => t.lockerBandRequest body .assign)).arbitrate

/-- LOCKER SHARE (R67). -/
def execLockerShare (tag : Byte) (body : List Byte) (s : State) : Host.Outcome State Fault Refusal :=
  .next (s.arrive .lockerShare tag body (fun t => t.lockerBandRequest body .share)).arbitrate

/-- LOCKER UNSHARE (R67). -/
def execLockerUnshare (tag : Byte) (body : List Byte) (s : State) : Host.Outcome State Fault Refusal :=
  .next (s.arrive .lockerUnshare tag body (fun t => t.serveUnshare body)).arbitrate

/-- LOCKER OPEN (R68). -/
def execLockerOpen (tag : Byte) (body : List Byte) (s : State) : Host.Outcome State Fault Refusal :=
  .next (s.arrive .lockerOpen tag body (fun t => t.serveLockerOpen body)).arbitrate

/-- LOCKER RELEASE (R69). -/
def execLockerRelease (tag : Byte) (body : List Byte) (s : State) : Host.Outcome State Fault Refusal :=
  .next (s.arrive .lockerRelease tag body (fun t => t.serveLockerRelease body)).arbitrate

/-- LOCKER RESET (R70). -/
def execLockerReset (tag : Byte) (body : List Byte) (s : State) : Host.Outcome State Fault Refusal :=
  .next (s.arrive .lockerReset tag body (fun t => t.serveLockerReset body)).arbitrate

/-- LOCKER SUSPEND (R71). -/
def execLockerSuspend (tag : Byte) (body : List Byte) (s : State) : Host.Outcome State Fault Refusal :=
  .next (s.arrive .lockerSuspend tag body (fun t => t.serveLockerSuspend body)).arbitrate

/-- LOCKER RESUME (R71). -/
def execLockerResume (tag : Byte) (body : List Byte) (s : State) : Host.Outcome State Fault Refusal :=
  .next (s.arrive .lockerResume tag body (fun t => t.serveLockerResume body)).arbitrate

/-- LOCKER WATCH (R72). -/
def execLockerWatch (tag : Byte) (body : List Byte) (s : State) : Host.Outcome State Fault Refusal :=
  .next (s.arrive .lockerWatch tag body (fun t => t.serveLockerWatch body)).arbitrate

/-- STRING CLOSE (R73). -/
def execStringClose (tag : Byte) (body : List Byte) (s : State) : Host.Outcome State Fault Refusal :=
  .next (s.arrive .stringClose tag body (fun t => t.serveClosedFlag body true)).arbitrate

/-- STRING OPEN (R73). -/
def execStringOpen (tag : Byte) (body : List Byte) (s : State) : Host.Outcome State Fault Refusal :=
  .next (s.arrive .stringOpen tag body (fun t => t.serveClosedFlag body false)).arbitrate

/-- LOCKER READ (R74). -/
def execLockerRead (tag : Byte) (body : List Byte) (s : State) : Host.Outcome State Fault Refusal :=
  .next (s.arrive .lockerRead tag body (fun t => t.serveLockerRead body)).arbitrate

/-- STRINGS FITTED (R76). -/
def execStringsFitted (tag : Byte) (body : List Byte) (s : State) : Host.Outcome State Fault Refusal :=
  .next (s.arrive .stringsFitted tag body (fun t => t.serveStringsFitted body)).arbitrate

/-- STRING SETTINGS (R77). -/
def execStringSettings (tag : Byte) (body : List Byte) (s : State) : Host.Outcome State Fault Refusal :=
  .next (s.arrive .stringSettings tag body (fun t => t.serveStringSettings body)).arbitrate

/-- STRING READ (R89). -/
def execStringRead (tag : Byte) (body : List Byte) (s : State) : Host.Outcome State Fault Refusal :=
  .next (s.arrive .stringRead tag body (fun t => t.serveStringRead body)).arbitrate

/-- CABIN RELEASE (R107). -/
def execCabinRelease (tag : Byte) (body : List Byte) (s : State) : Host.Outcome State Fault Refusal :=
  .next (s.arrive .cabinRelease tag body (fun t => t.serveCabinRelease body)).arbitrate

/-- CABIN SUSPEND (R107). -/
def execCabinSuspend (tag : Byte) (body : List Byte) (s : State) : Host.Outcome State Fault Refusal :=
  .next (s.arrive .cabinSuspend tag body (fun t => t.serveCabinSuspend body)).arbitrate

/-- CABIN RESUME (R107). -/
def execCabinResume (tag : Byte) (body : List Byte) (s : State) : Host.Outcome State Fault Refusal :=
  .next (s.arrive .cabinResume tag body (fun t => t.serveCabinResume body)).arbitrate

/-- CABIN SETTINGS (R108). -/
def execCabinSettings (tag : Byte) (body : List Byte) (s : State) : Host.Outcome State Fault Refusal :=
  .next (s.arrive .cabinSettings tag body (fun t => t.serveCabinSettings body)).arbitrate

/-- CABIN READ (R109). -/
def execCabinRead (tag : Byte) (body : List Byte) (s : State) : Host.Outcome State Fault Refusal :=
  .next (s.arrive .cabinRead tag body (fun t => t.serveCabinRead body)).arbitrate

/-- CLOCK SET (R112). -/
def execClockSet (tag : Byte) (body : List Byte) (s : State) : Host.Outcome State Fault Refusal :=
  .next (s.arrive .clockSet tag body (fun t => t.serveClockSet body)).arbitrate

/-- CLOCK READ (R113). -/
def execClockRead (tag : Byte) (body : List Byte) (s : State) : Host.Outcome State Fault Refusal :=
  .next (s.arrive .clockRead tag body (fun t => t.serveClockRead)).arbitrate

/-- TARIFF STAGE (R116). -/
def execTariffStage (tag : Byte) (body : List Byte) (s : State) : Host.Outcome State Fault Refusal :=
  .next (s.arrive .tariffStage tag body (fun t => t.serveTariffStage body)).arbitrate

/-- TARIFF SWITCH (R117). -/
def execTariffSwitch (tag : Byte) (body : List Byte) (s : State) : Host.Outcome State Fault Refusal :=
  .next (s.arrive .tariffSwitch tag body (fun t => t.serveTariffSwitch body)).arbitrate

/-- TARIFF DISCARD (R119). -/
def execTariffDiscard (tag : Byte) (body : List Byte) (s : State) : Host.Outcome State Fault Refusal :=
  .next (s.arrive .tariffDiscard tag body (fun t => t.serveTariffDiscard)).arbitrate

/-- TARIFF READ (R119). -/
def execTariffRead (tag : Byte) (body : List Byte) (s : State) : Host.Outcome State Fault Refusal :=
  .next (s.arrive .tariffRead tag body (fun t => t.serveTariffRead)).arbitrate

/-- STAY QUERY (R124). -/
def execStayQuery (tag : Byte) (body : List Byte) (s : State) : Host.Outcome State Fault Refusal :=
  .next (s.arrive .stayQuery tag body (fun t => t.serveStayQuery body)).arbitrate

/-- LANE SETTINGS (R138). -/
def execLaneSettings (tag : Byte) (body : List Byte) (s : State) : Host.Outcome State Fault Refusal :=
  .next (s.arrive .laneSettings tag body (fun t => t.serveLaneSettings body)).arbitrate

/-- LANE SERVICE (R137). -/
def execLaneService (tag : Byte) (body : List Byte) (s : State) : Host.Outcome State Fault Refusal :=
  .next (s.arrive .laneService tag body (fun t => t.serveLaneService body)).arbitrate

/-- CAPACITY SET (R139). -/
def execCapacitySet (tag : Byte) (body : List Byte) (s : State) : Host.Outcome State Fault Refusal :=
  .next (s.arrive .capacitySet tag body (fun t => t.serveCapacitySet body)).arbitrate

/-- OCCUPANCY SET (R139). -/
def execOccupancySet (tag : Byte) (body : List Byte) (s : State) : Host.Outcome State Fault Refusal :=
  .next (s.arrive .occupancySet tag body (fun t => t.serveOccupancySet body)).arbitrate

/-- LANE READ (R140). -/
def execLaneRead (tag : Byte) (body : List Byte) (s : State) : Host.Outcome State Fault Refusal :=
  .next (s.arrive .laneRead tag body (fun t => t.serveLaneRead body)).arbitrate

/-- JOURNAL READ (R148). -/
def execJournalRead (tag : Byte) (body : List Byte) (s : State) : Host.Outcome State Fault Refusal :=
  .next (s.arrive .journalRead tag body (fun t => t.serveJournalRead body)).arbitrate

/-- JOURNAL OPTIONS (R149). -/
def execJournalOptions (tag : Byte) (body : List Byte) (s : State) : Host.Outcome State Fault Refusal :=
  .next (s.arrive .journalOptions tag body (fun t => t.serveJournalOptions body)).arbitrate

/-- READER SETTINGS (R159). -/
def execReaderSettings (tag : Byte) (body : List Byte) (s : State) : Host.Outcome State Fault Refusal :=
  .next (s.arrive .readerSettings tag body (fun t => t.serveReaderSettings body)).arbitrate

/-- HEAD READ (R159). -/
def execHeadRead (tag : Byte) (body : List Byte) (s : State) : Host.Outcome State Fault Refusal :=
  .next (s.arrive .headRead tag body (fun t => t.serveHeadRead body)).arbitrate

/-- STORE FORMAT (R177). -/
def execStoreFormat (tag : Byte) (body : List Byte) (s : State) : Host.Outcome State Fault Refusal :=
  .next (s.arrive .storeFormat tag body (fun t => t.serveStoreFormat body)).arbitrate

/-- STORE RESTART (R178). -/
def execStoreRestart (tag : Byte) (body : List Byte) (s : State) : Host.Outcome State Fault Refusal :=
  .next (s.arrive .storeRestart tag body (fun t => t.serveStoreRestart)).arbitrate

end Sys2Proof.Machine
end

