-- ==== Sys2Proof/Machine/EventCommands.lean ====
section
/-!
DEFINITION. The meanings of the events: power-on and the resets, the link's frame events, the completions and the
no-response of store transfers, the reader lines, the latch strings, the timers, and the lane inputs. An event
that cannot occur in the state it meets changes nothing (log 3).
-/

namespace Sys2Proof.Machine

/-! ### Power-on, resets and STARTING (R171) -/

/-- POWER_ON (R171). -/
def execPowerOn (s : State) : Host.Outcome State Fault Refusal := .next s.hardReset.arbitrate

/-- RESET_PIN (R171). -/
def execResetPin (s : State) : Host.Outcome State Fault Refusal := .next s.hardReset.arbitrate

/-- The entry into STARTING, where every block has wound down (R171). -/
def State.enterIfWoundDown (s : State) : State := if s.woundDown then s.enterStarting else s

/-- ENTER_STARTING (R171). -/
def execEnterStarting (s : State) : Host.Outcome State Fault Refusal := .next s.enterIfWoundDown.arbitrate

/-! ### The link (R160, R161, R164) -/

/-- FRAME_GAP_EXPIRY (R160). -/
def execFrameGapExpiry (bytes : List Byte) (s : State) : Host.Outcome State Fault Refusal :=
  .next (s.receive true bytes).arbitrate

/-- FRAME_DISCARD (R160). -/
def execFrameDiscard (bytes : List Byte) (s : State) : Host.Outcome State Fault Refusal :=
  .next (s.receive false bytes).arbitrate

/-- The arrival of a frame as an UNKNOWN_REQUEST: a kind that is a request code makes no such command (log 3). -/
def State.unknownArrival (s : State) (kind tag : Byte) : State :=
  match requestOf kind with
  | none => s.arriveUnknown kind tag
  | some _ => s

/-- UNKNOWN_REQUEST (R161). The reply does not read the body. -/
def execUnknownRequest (kind tag : Byte) (_body : List Byte) (s : State) : Host.Outcome State Fault Refusal :=
  .next (s.unknownArrival kind tag).arbitrate

/-- TRANSMIT_END (R164). -/
def execTransmitEnd (s : State) : Host.Outcome State Fault Refusal := .next s.frameSent.arbitrate

/-! ### Store transfers (R7, R10, R11, R13, R14, R172, R173, R177) -/

/-- HEADER_READ_COMPLETE at a header read in flight (R172). -/
def State.headerReadEvent (s : State) (seen : Option (List Byte)) : State :=
  match s.band.inFlight with
  | some ⟨.headerRead, _⟩ => s.headerReadDone seen
  | _ => s

/-- HEADER_READ_COMPLETE (R172). -/
def execHeaderReadComplete (seen : Option (List Byte)) (s : State) : Host.Outcome State Fault Refusal :=
  .next (s.headerReadEvent seen).arbitrate

/-- MIRROR_READ_COMPLETE at a mirror read in flight (R173). -/
def State.mirrorReadEvent (s : State) (seen : Option (List Byte)) : State :=
  match s.band.inFlight with
  | some ⟨.mirrorRead _, _⟩ => s.mirrorReadDone seen
  | _ => s

/-- MIRROR_READ_COMPLETE (R173). -/
def execMirrorReadComplete (seen : Option (List Byte)) (s : State) : Host.Outcome State Fault Refusal :=
  .next (s.mirrorReadEvent seen).arbitrate

/-- FETCH_COMPLETE at a FETCH in flight (R7, R8). -/
def State.fetchEvent (s : State) (seen : Option (List Byte)) : State :=
  match s.band.inFlight with
  | some ⟨.fetch e n, _⟩ => s.fetchDone e n seen
  | _ => s

/-- FETCH_COMPLETE (R7). -/
def execFetchComplete (seen : Option (List Byte)) (s : State) : Host.Outcome State Fault Refusal :=
  .next (s.fetchEvent seen).arbitrate

/-- WRITE_COMPLETE at a WRITE in flight (R10). -/
def State.writeEvent (s : State) : State :=
  match s.band.inFlight with
  | some ⟨.write e n bs, _⟩ => s.writeDone e n bs
  | _ => s

/-- WRITE_COMPLETE (R10). -/
def execWriteComplete (s : State) : Host.Outcome State Fault Refusal := .next s.writeEvent.arbitrate

/-- HEADER_WRITE_COMPLETE at a HEADER WRITE in flight (R11). -/
def State.headerWriteEvent (s : State) : State :=
  match s.band.inFlight with
  | some ⟨.headerWrite bs, _⟩ => s.headerWriteDone bs
  | _ => s

/-- HEADER_WRITE_COMPLETE (R11). -/
def execHeaderWriteComplete (s : State) : Host.Outcome State Fault Refusal := .next s.headerWriteEvent.arbitrate

/-- MIRROR_WRITE_COMPLETE at a MIRROR WRITE in flight (R13). -/
def State.mirrorWriteEvent (s : State) : State :=
  match s.band.inFlight with
  | some ⟨.mirrorWrite _ a bs, _⟩ => s.mirrorWriteDone a bs
  | _ => s

/-- MIRROR_WRITE_COMPLETE (R13). -/
def execMirrorWriteComplete (s : State) : Host.Outcome State Fault Refusal := .next s.mirrorWriteEvent.arbitrate

/-- FORMAT_WRITE_COMPLETE at a write of the format sequence in flight (R177). -/
def State.formatWriteEvent (s : State) : State :=
  match s.band.inFlight with
  | some ⟨.formatWrite a bs, _⟩ => s.formatWriteDone a bs
  | _ => s

/-- FORMAT_WRITE_COMPLETE (R177). -/
def execFormatWriteComplete (s : State) : Host.Outcome State Fault Refusal := .next s.formatWriteEvent.arbitrate

/-- TRANSFER_TIMEOUT (R14, R15). -/
def execTransferTimeout (s : State) : Host.Outcome State Fault Refusal := .next s.transferTimeout.arbitrate

/-! ### Reader lines (R154, R155, R157, R158) -/

/-- POLL_ANSWER (R155). -/
def execPollAnswer (line : Line) (head : Nat) (answer : Answer) (s : State) : Host.Outcome State Fault Refusal :=
  .next (s.answerOn line false head answer).arbitrate

/-- POLL_WINDOW_EXPIRY (R157). -/
def execPollWindowExpiry (line : Line) (s : State) : Host.Outcome State Fault Refusal :=
  .next (s.windowExpiry line false).arbitrate

/-- ANSWER_DISCARD (R154): an answer whose check fails, or that comes late or with no poll in flight, ends no poll
and changes nothing. -/
def execAnswerDiscard (_line : Line) (s : State) : Host.Outcome State Fault Refusal := .next s.arbitrate

/-- PROBE_TIMER_EXPIRY (R158). -/
def execProbeTimerExpiry (s : State) : Host.Outcome State Fault Refusal := .next s.probeTimer.arbitrate

/-- PROBE_ANSWER (R158). -/
def execProbeAnswer (line : Line) (head : Nat) (answer : Answer) (s : State) : Host.Outcome State Fault Refusal :=
  .next (s.answerOn line true head answer).arbitrate

/-- PROBE_WINDOW_EXPIRY (R158). -/
def execProbeWindowExpiry (line : Line) (s : State) : Host.Outcome State Fault Refusal :=
  .next (s.windowExpiry line true).arbitrate

/-! ### Latch strings and contacts (R81, R82, R58, R86, R99) -/

/-- PULSE_START (R81). -/
def execPulseStart (string : StringNo) (s : State) : Host.Outcome State Fault Refusal :=
  .next (s.pulseStart string).arbitrate

/-- PULSE_END (R82). -/
def execPulseEnd (string : StringNo) (s : State) : Host.Outcome State Fault Refusal :=
  .next (s.pulseEnd string).arbitrate

/-- REST_EXPIRY (R82). -/
def execRestExpiry (string : StringNo) (s : State) : Host.Outcome State Fault Refusal :=
  .next (s.restEnd string).arbitrate

/-- LOCKER_CONFIRM_EXPIRY (R58). -/
def execLockerConfirmExpiry (locker : LockerNo) (s : State) : Host.Outcome State Fault Refusal :=
  .next (s.lockerWindowExpiry locker).arbitrate

/-- STRING_SCAN (R86). -/
def execStringScan (string : StringNo) (doors bolts : BitVec 32) (s : State) : Host.Outcome State Fault Refusal :=
  .next (s.scanString string doors bolts).arbitrate

/-- CABIN_CONFIRM_EXPIRY (R99). -/
def execCabinConfirmExpiry (cabin : CabinNo) (s : State) : Host.Outcome State Fault Refusal :=
  .next (s.cabinWindowExpiry cabin).arbitrate

/-! ### Blink generator and clock (R94, R110, R114) -/

/-- BLINK_EXPIRY (R94). -/
def execBlinkExpiry (s : State) : Host.Outcome State Fault Refusal := .next s.blinkExpiry.arbitrate

/-- The count of the second timer, which wraps to 0 (R110). -/
def State.countSecond (s : State) : State := s.stepClock (s.now + 1)

/-- SECOND_TIMER_EXPIRY (R110). -/
def execSecondTimerExpiry (s : State) : Host.Outcome State Fault Refusal := .next s.countSecond.arbitrate

/-- MINUTE_PULSE (R114). -/
def execMinutePulse (s : State) : Host.Outcome State Fault Refusal := .next s.minutePulse.arbitrate

/-! ### Lane inputs and timers (R127, R131, R134, R135) -/

/-- BEAM_EDGE (R127). -/
def execBeamEdge (lane : LaneNo) (beam : Beam) (broken : Bool) (s : State) : Host.Outcome State Fault Refusal :=
  .next (s.beamChange lane beam broken).arbitrate

/-- COMMIT_RETRY_EXPIRY (R131). -/
def execCommitRetryExpiry (lane : LaneNo) (s : State) : Host.Outcome State Fault Refusal :=
  .next (s.retryCommit lane).arbitrate

/-- LINE_PULSE_EXPIRY (R134). -/
def execLinePulseExpiry (lane : LaneNo) (line : SlotLine) (s : State) : Host.Outcome State Fault Refusal :=
  .next (s.endLinePulse lane line).arbitrate

/-- ARM_TIMER_EXPIRY (R135). -/
def execArmTimerExpiry (lane : LaneNo) (s : State) : Host.Outcome State Fault Refusal :=
  .next (s.armTimerExpiry lane).arbitrate

end Sys2Proof.Machine
end

