-- ==== Sys2Proof/Machine/Dispatch.lean ====
section
/-!
DEFINITION. What each command does: one arm for each constructor of Instr.
-/

namespace Sys2Proof.Machine

def exec (i : Instr) (s : State) : Host.Outcome State Fault Refusal :=
  match i with
  | .powerOn => Sys2Proof.Machine.execPowerOn s
  | .resetPin => Sys2Proof.Machine.execResetPin s
  | .enterStarting => Sys2Proof.Machine.execEnterStarting s
  | .headerReadComplete seen => Sys2Proof.Machine.execHeaderReadComplete seen s
  | .mirrorReadComplete seen => Sys2Proof.Machine.execMirrorReadComplete seen s
  | .frameGapExpiry bytes => Sys2Proof.Machine.execFrameGapExpiry bytes s
  | .frameDiscard bytes => Sys2Proof.Machine.execFrameDiscard bytes s
  | .unknownRequest kind tag body => Sys2Proof.Machine.execUnknownRequest kind tag body s
  | .transmitEnd => Sys2Proof.Machine.execTransmitEnd s
  | .status tag body => Sys2Proof.Machine.execStatus tag body s
  | .setFloor tag body => Sys2Proof.Machine.execSetFloor tag body s
  | .restart tag body => Sys2Proof.Machine.execRestart tag body s
  | .bandIssue tag body => Sys2Proof.Machine.execBandIssue tag body s
  | .bandAmend tag body => Sys2Proof.Machine.execBandAmend tag body s
  | .bandTopup tag body => Sys2Proof.Machine.execBandTopup tag body s
  | .bandSettle tag body => Sys2Proof.Machine.execBandSettle tag body s
  | .bandBar tag body => Sys2Proof.Machine.execBandBar tag body s
  | .bandUnbar tag body => Sys2Proof.Machine.execBandUnbar tag body s
  | .bandReturn tag body => Sys2Proof.Machine.execBandReturn tag body s
  | .bandRead tag body => Sys2Proof.Machine.execBandRead tag body s
  | .lockerAssign tag body => Sys2Proof.Machine.execLockerAssign tag body s
  | .lockerShare tag body => Sys2Proof.Machine.execLockerShare tag body s
  | .lockerUnshare tag body => Sys2Proof.Machine.execLockerUnshare tag body s
  | .lockerOpen tag body => Sys2Proof.Machine.execLockerOpen tag body s
  | .lockerRelease tag body => Sys2Proof.Machine.execLockerRelease tag body s
  | .lockerReset tag body => Sys2Proof.Machine.execLockerReset tag body s
  | .lockerSuspend tag body => Sys2Proof.Machine.execLockerSuspend tag body s
  | .lockerResume tag body => Sys2Proof.Machine.execLockerResume tag body s
  | .lockerWatch tag body => Sys2Proof.Machine.execLockerWatch tag body s
  | .stringClose tag body => Sys2Proof.Machine.execStringClose tag body s
  | .stringOpen tag body => Sys2Proof.Machine.execStringOpen tag body s
  | .lockerRead tag body => Sys2Proof.Machine.execLockerRead tag body s
  | .stringsFitted tag body => Sys2Proof.Machine.execStringsFitted tag body s
  | .stringSettings tag body => Sys2Proof.Machine.execStringSettings tag body s
  | .stringRead tag body => Sys2Proof.Machine.execStringRead tag body s
  | .cabinRelease tag body => Sys2Proof.Machine.execCabinRelease tag body s
  | .cabinSuspend tag body => Sys2Proof.Machine.execCabinSuspend tag body s
  | .cabinResume tag body => Sys2Proof.Machine.execCabinResume tag body s
  | .cabinSettings tag body => Sys2Proof.Machine.execCabinSettings tag body s
  | .cabinRead tag body => Sys2Proof.Machine.execCabinRead tag body s
  | .clockSet tag body => Sys2Proof.Machine.execClockSet tag body s
  | .clockRead tag body => Sys2Proof.Machine.execClockRead tag body s
  | .tariffStage tag body => Sys2Proof.Machine.execTariffStage tag body s
  | .tariffSwitch tag body => Sys2Proof.Machine.execTariffSwitch tag body s
  | .tariffDiscard tag body => Sys2Proof.Machine.execTariffDiscard tag body s
  | .tariffRead tag body => Sys2Proof.Machine.execTariffRead tag body s
  | .stayQuery tag body => Sys2Proof.Machine.execStayQuery tag body s
  | .laneSettings tag body => Sys2Proof.Machine.execLaneSettings tag body s
  | .laneService tag body => Sys2Proof.Machine.execLaneService tag body s
  | .capacitySet tag body => Sys2Proof.Machine.execCapacitySet tag body s
  | .occupancySet tag body => Sys2Proof.Machine.execOccupancySet tag body s
  | .laneRead tag body => Sys2Proof.Machine.execLaneRead tag body s
  | .journalRead tag body => Sys2Proof.Machine.execJournalRead tag body s
  | .journalOptions tag body => Sys2Proof.Machine.execJournalOptions tag body s
  | .readerSettings tag body => Sys2Proof.Machine.execReaderSettings tag body s
  | .headRead tag body => Sys2Proof.Machine.execHeadRead tag body s
  | .storeFormat tag body => Sys2Proof.Machine.execStoreFormat tag body s
  | .formatWriteComplete => Sys2Proof.Machine.execFormatWriteComplete s
  | .storeRestart tag body => Sys2Proof.Machine.execStoreRestart tag body s
  | .fetchComplete seen => Sys2Proof.Machine.execFetchComplete seen s
  | .writeComplete => Sys2Proof.Machine.execWriteComplete s
  | .headerWriteComplete => Sys2Proof.Machine.execHeaderWriteComplete s
  | .mirrorWriteComplete => Sys2Proof.Machine.execMirrorWriteComplete s
  | .transferTimeout => Sys2Proof.Machine.execTransferTimeout s
  | .pollAnswer line head answer => Sys2Proof.Machine.execPollAnswer line head answer s
  | .pollWindowExpiry line => Sys2Proof.Machine.execPollWindowExpiry line s
  | .answerDiscard line => Sys2Proof.Machine.execAnswerDiscard line s
  | .probeTimerExpiry => Sys2Proof.Machine.execProbeTimerExpiry s
  | .probeAnswer line head answer => Sys2Proof.Machine.execProbeAnswer line head answer s
  | .probeWindowExpiry line => Sys2Proof.Machine.execProbeWindowExpiry line s
  | .pulseStart string => Sys2Proof.Machine.execPulseStart string s
  | .pulseEnd string => Sys2Proof.Machine.execPulseEnd string s
  | .restExpiry string => Sys2Proof.Machine.execRestExpiry string s
  | .lockerConfirmExpiry locker => Sys2Proof.Machine.execLockerConfirmExpiry locker s
  | .stringScan string doors bolts => Sys2Proof.Machine.execStringScan string doors bolts s
  | .cabinConfirmExpiry cabin => Sys2Proof.Machine.execCabinConfirmExpiry cabin s
  | .blinkExpiry => Sys2Proof.Machine.execBlinkExpiry s
  | .secondTimerExpiry => Sys2Proof.Machine.execSecondTimerExpiry s
  | .minutePulse => Sys2Proof.Machine.execMinutePulse s
  | .beamEdge lane beam broken => Sys2Proof.Machine.execBeamEdge lane beam broken s
  | .commitRetryExpiry lane => Sys2Proof.Machine.execCommitRetryExpiry lane s
  | .linePulseExpiry lane line => Sys2Proof.Machine.execLinePulseExpiry lane line s
  | .armTimerExpiry lane => Sys2Proof.Machine.execArmTimerExpiry lane s

end Sys2Proof.Machine
end

