-- ==== Sys2Proof/Safety.lean ====
section
/-!
DEFINITION. What the claims speak of: the invariant of the machine, what a change keeps of it, and the state a
request meets when the link controller hands it over.
-/

namespace Sys2Proof.Machine

/-! ### The invariant -/

/-- The hall counts lie in their ranges (R127): occupancy 0 to 999, every phase count −3 to +3. -/
def LaneUnit.within (x : LaneUnit) : Prop :=
  x.occupancy ≤ 999 ∧ ∀ l : LaneNo, -3 ≤ x.table[l.val].phase ∧ x.table[l.val].phase ≤ 3

/-- The invariant: the store's cells are in canonical form, the notice queue holds at most 32 (R165), the hall
counts lie in their ranges (R127), and so does the fairness count, 0 to 4 (R12). -/
structure State.Inv (s : State) : Prop where
  memory : Memory.wf s.store.cells
  notices : s.link.notices.length ≤ 32
  hall : s.lanes.within
  fairness : s.band.fairness ≤ 4

/-- What a change from one state to another keeps: each part of the invariant by itself, and the queue of
commands. -/
structure State.Keeps (s t : State) : Prop where
  memory : Memory.wf s.store.cells → Memory.wf t.store.cells
  notices : s.link.notices.length ≤ 32 → t.link.notices.length ≤ 32
  hall : s.lanes.within → t.lanes.within
  fairness : s.band.fairness ≤ 4 → t.band.fairness ≤ 4
  pending : t.pending = s.pending

/-! ### A request that is handed over -/

/-- The link controller hands a request to its owning block (R161): no request is outstanding, the body has the
length of section 10.5, and the part state takes it. -/
abbrev State.takes (s : State) (r : Request) (body : List Byte) : Prop :=
  s.link.outstanding = none ∧ body.length = r.bodyLength ∧ s.partTest r = none

/-- The state the owning block finds: the request is the outstanding one, and the receive side holds no bytes
(R160, R161). -/
def State.taken (s : State) (r : Request) (tag : Byte) : State :=
  s.setLink { s.link with kept := [], outstanding := some ⟨r.code, tag⟩ }

/-- The reply of the outstanding request has become ready (R162, R164). -/
def State.replied (s : State) (tag : Byte) (res : Result) (data : ReplyData) : State :=
  s.setLink { s.link with replies := s.link.replies ++ [⟨tag, res, data, true, false⟩] }

/-! ### The words the claims use -/

/-- The command that the arrival of a request's frame is. -/
def Request.command (r : Request) (tag : Byte) (body : List Byte) : Instr :=
  match r with
  | .status => .status tag body
  | .setFloor => .setFloor tag body
  | .restart => .restart tag body
  | .bandIssue => .bandIssue tag body
  | .bandAmend => .bandAmend tag body
  | .bandTopup => .bandTopup tag body
  | .bandSettle => .bandSettle tag body
  | .bandBar => .bandBar tag body
  | .bandUnbar => .bandUnbar tag body
  | .bandReturn => .bandReturn tag body
  | .bandRead => .bandRead tag body
  | .lockerAssign => .lockerAssign tag body
  | .lockerShare => .lockerShare tag body
  | .lockerUnshare => .lockerUnshare tag body
  | .lockerOpen => .lockerOpen tag body
  | .lockerRelease => .lockerRelease tag body
  | .lockerReset => .lockerReset tag body
  | .lockerSuspend => .lockerSuspend tag body
  | .lockerResume => .lockerResume tag body
  | .lockerWatch => .lockerWatch tag body
  | .stringClose => .stringClose tag body
  | .stringOpen => .stringOpen tag body
  | .lockerRead => .lockerRead tag body
  | .stringsFitted => .stringsFitted tag body
  | .stringSettings => .stringSettings tag body
  | .stringRead => .stringRead tag body
  | .cabinRelease => .cabinRelease tag body
  | .cabinSuspend => .cabinSuspend tag body
  | .cabinResume => .cabinResume tag body
  | .cabinSettings => .cabinSettings tag body
  | .cabinRead => .cabinRead tag body
  | .clockSet => .clockSet tag body
  | .clockRead => .clockRead tag body
  | .tariffStage => .tariffStage tag body
  | .tariffSwitch => .tariffSwitch tag body
  | .tariffDiscard => .tariffDiscard tag body
  | .tariffRead => .tariffRead tag body
  | .stayQuery => .stayQuery tag body
  | .laneSettings => .laneSettings tag body
  | .laneService => .laneService tag body
  | .capacitySet => .capacitySet tag body
  | .occupancySet => .occupancySet tag body
  | .laneRead => .laneRead tag body
  | .journalRead => .journalRead tag body
  | .journalOptions => .journalOptions tag body
  | .readerSettings => .readerSettings tag body
  | .headRead => .headRead tag body
  | .storeFormat => .storeFormat tag body
  | .storeRestart => .storeRestart tag body

/-- The state behind power-on or the reset pin where no transfer was in flight: that of State.reset, with the band
store, the beam input pins, the number of the next free value and the queue of commands as they were, and the beam
levels of the two lanes fitted by default read from the pins (R125, R171). -/
def State.poweredOn (s : State) : State :=
  { State.reset with
    store := s.store
    free := s.free
    pending := s.pending
    lanes := { State.reset.lanes with
      pins := s.lanes.pins
      table := #v[{ Lane.atReset with beams := s.lanes.pins[0] }, { Lane.atReset with beams := s.lanes.pins[1] },
        Lane.atReset, Lane.atReset] } }

/-- The address and the bytes of a transfer that writes; none for one that reads. -/
def Transfer.target : Transfer → Option (Nat × List Byte)
  | .write _ n bs => some (bandAddress n, bs)
  | .headerWrite bs => some (0, bs)
  | .mirrorWrite _ a bs => some (a, bs)
  | .formatWrite a bs => some (a, bs)
  | .fetch .. => none
  | .headerRead => none
  | .mirrorRead _ => none

/-- The port is READY with no transfer in flight (R12). -/
def State.portReady (s : State) : State := s.setBand { s.band with port := .ready, inFlight := none }

/-- A band request is handed over for a band whose VALID record the cache holds (R5, R18): `i` is where the body
names the band. -/
structure State.Asks (s : State) (q : Request) (body : List Byte) (i : Nat) (n : BandNo) (e : EntryNo)
    (rec : BandRecord) : Prop where
  takes : s.takes q body
  names : argWord body i = n.val
  below : n.val < s.tableLength
  service : s.bandService = true
  entry : s.entryOf n = some e
  content : (s.entry e).content = .valid n rec

/-- An entry moves to the most recently used end of the last-use order (R5). -/
def State.usedLast (s : State) (e : EntryNo) : State :=
  s.setBand { s.band with lastUse := s.band.lastUse.filter (fun f => f ≠ e) ++ [e] }

/-- A VALID entry takes a changed record (R9): the write-pending mark is set, and a WRITE for the entry stands in the
store queue. -/
def State.changed (s : State) (e : EntryNo) (n : BandNo) (rec : BandRecord) : State :=
  s.setBand { s.band with
    cache := s.band.cache.set e.val ⟨.valid n rec, (s.entry e).waiters, true⟩
    queue := if .write e ∈ s.band.queue then s.band.queue else s.band.queue ++ [.write e] }

/-- The reply of a host request that changed a band (R10, R16): it waits for the WRITE of the entry, or is STORE at
once while the port is in FAULT. -/
def State.replyStored (s : State) (tag : Byte) (e : EntryNo) (data : ReplyData) : State :=
  if s.band.port = .fault then s.replied tag .store data
  else s.setBand { s.band with replyWait := some ⟨.entry e, data, false⟩ }

/-- A settings request with values in range is taken (R11, R16): with the values as they were it is replied OK at
once; else they are held, a HEADER WRITE stands in the store queue, and the reply waits for it or is STORE at once
while the port is in FAULT. -/
def State.tookSettings (s : State) (tag : Byte) (x : Settings) : State :=
  if x = s.settings then s.replied tag .ok .none
  else
    let t := (s.setSettings x).setBand { s.band with
      queue := if .headerWrite ∈ s.band.queue then s.band.queue else s.band.queue ++ [.headerWrite] }
    if s.band.port = .fault then t.replied tag .store .none
    else t.setBand { t.band with replyWait := some ⟨.header, .none, false⟩ }

/-- A request that meets an outstanding one (R161, R163): a BUSY reply where fewer than four wait, and no reply where
four do. -/
def State.turnedAway (s : State) (tag : Byte) : State :=
  s.setLink { s.link with
    kept := []
    replies := if (s.link.replies.filter (fun r => !r.own)).length < 4
      then s.link.replies ++ [⟨tag, .busy, .none, false, false⟩] else s.link.replies }

/-- The band requests of chapter 1 with the band operation each asks for (R18 to R24, 10.5). -/
def bandRequestOf : Request → List Byte → Option BandRequest
  | .bandIssue, body => some (issueArgs body)
  | .bandAmend, body => some (amendArgs body)
  | .bandTopup, body => some (.topup (argWord body 2))
  | .bandSettle, body => some (.settle (argWord body 2))
  | .bandBar, _ => some .bar
  | .bandUnbar, _ => some .unbar
  | .bandReturn, _ => some .ret
  | .bandRead, _ => some .read
  | _, _ => none

/-- A band record with the values and the presences of R1. -/
structure BandRecord.Good (r : BandRecord) : Prop where
  paid : r.paid ≤ 1440
  credit : r.credit ≤ 65535
  settled : r.settled ≤ 65535
  before : r.beforeBar.isSome = true ↔ r.state = .barred
  stamp : r.entry.isSome = true ↔ r.state = .inside ∨ r.beforeBar = some .inside
  free : r.state = .free → r = BandRecord.free
  serial : r.state ≠ .free → r.serial ≠ 0

/-- An entry is emptied and leaves the last-use order (R4, R7). -/
def State.dropped (s : State) (e : EntryNo) : State :=
  s.setBand { s.band with
    cache := s.band.cache.set e.val CacheEntry.atReset
    lastUse := s.band.lastUse.filter (fun f => f ≠ e) }

/-- A waiter is an operation of the ownership check of start-up (R174). -/
def Waiter.isCheck : Waiter → Bool
  | .ownerCheck _ => true
  | .companionCheck _ => true
  | _ => false

/-- A band operation that is no ownership check ends with a result code in place of its service (R5, R6, R8, R18, R27,
R31, R131): a presentation is refused unless it is superseded, a request is replied, and a commit is to be sent again
after BUSY and is abandoned otherwise. -/
def State.endedWith (s : State) (res : Result) : Waiter → State
  | .lookup h p => if p.superseded = true then s else s.conclude h p (.refuse (lookupReason res)) .owner
  | .request _ =>
    match s.link.outstanding with
    | some o => s.replied o.tag res .none
    | none => s
  | .commit l _ =>
    match (s.lane l).commit with
    | some c => s.setLane l { s.lane l with commit := if res = .busy then some { c with retrying := true } else none }
    | none => s
  | .ownerCheck _ => s
  | .companionCheck _ => s

/-- An entry is emptied and its waiters end BUSY, in their order (R4, R177). -/
def State.droppedBusy (s : State) (e : EntryNo) : State :=
  (s.entry e).waiters.foldl (fun t w => t.endedWith .busy w) (s.dropped e)

/-- The band operation a request asks for, with the place of its band number in the body (R18, R65 to R67, R124): a
STAY QUERY asks for one with the clock set, LOCKER ASSIGN and LOCKER SHARE with the locker on a FITTED string. -/
def State.AsksFor (s : State) (q : Request) (body : List Byte) (i : Nat) (w : BandRequest) : Prop :=
  (bandRequestOf q body = some w ∧ i = 0) ∨
    (q = .stayQuery ∧ w = .stayQuery ∧ i = 0 ∧ s.clock.isSet = true) ∨
    ∃ k : LockerNo, argWord body 0 = k.val ∧ (s.string (lockerString k)).fitting = .fitted ∧ i = 2 ∧
      ((q = .lockerAssign ∧ w = .assign k) ∨ (q = .lockerShare ∧ w = .share k))

/-- The band unit takes operations, and the band number lies in the table (R4, R5, R177). -/
def State.TakesBand (s : State) (n : BandNo) : Prop := s.bandService = true ∧ n.val < s.tableLength

/-- The band unit takes operations for a band of the table that no entry holds, and the port is not in FAULT (R6). -/
def State.MayFill (s : State) (n : BandNo) : Prop :=
  s.TakesBand n ∧ s.entryOf n = none ∧ s.band.port ≠ .fault

/-- An entry is FILLING with a band, with the operation its first waiter, and its FETCH is behind the queue (R6). -/
def State.filledWith (s : State) (e : EntryNo) (n : BandNo) (w : Waiter) : State :=
  s.setBand { s.band with
    cache := s.band.cache.set e.val ⟨.filling n, [w], false⟩
    lastUse := s.band.lastUse.filter (fun f => f ≠ e)
    queue := s.band.queue ++ [.fetch e] }

/-- What a band operation that is no ownership check leaves, at its sending in state `s`, in each of the forms of R4 to
R6 and R177. -/
structure State.OpSent (s : State) (n : BandNo) (w : Waiter) (t : State) : Prop where
  shut : s.bandService = false → t = s.endedWith .busy w
  range : s.bandService = true → s.tableLength ≤ n.val → t = s.endedWith .range w
  served : ∀ e rec, s.TakesBand n → s.entryOf n = some e → (s.entry e).content = .valid n rec →
    t = (s.serveAt e w).emptyTest e
  joins : ∀ e, s.TakesBand n → s.entryOf n = some e → (s.entry e).content = .filling n → s.itemsHeld < 320 →
    t = s.setEntry e { s.entry e with waiters := (s.entry e).waiters ++ [w] }
  listFull : ∀ e, s.TakesBand n → s.entryOf n = some e → (s.entry e).content = .filling n → 320 ≤ s.itemsHeld →
    t = s.endedWith .busy w
  fault : s.TakesBand n → s.entryOf n = none → s.band.port = .fault → t = s.endedWith .store w
  poolFull : s.MayFill n → 320 ≤ s.itemsHeld → t = s.endedWith .busy w
  noEntry : s.MayFill n → (∀ e, (s.entry e).content ≠ .empty ∧ (s.entry e).evictable = false) →
    t = s.endedWith .busy w
  lowestEmpty : ∀ e, s.MayFill n → s.itemsHeld < 320 → (s.entry e).content = .empty →
    (∀ f, f < e → (s.entry f).content ≠ .empty) → t = s.filledWith e n w
  leastUsed : ∀ older e newer, s.MayFill n → s.itemsHeld < 320 → (∀ f, (s.entry f).content ≠ .empty) →
    s.band.lastUse = older ++ e :: newer → (∀ f ∈ older, (s.entry f).evictable = false) →
    (s.entry e).evictable = true → t = s.filledWith e n w

/-! ### Arms -/

/-- The expiry stamp of an arm granted now (R126): the clock plus the arm window, and a free value where that lies past
the top of the clock (log 15). -/
def State.expiryStamp (s : State) : Stamp :=
  if s.clock.value.toNat + s.settings.armWindow ≤ 4294967295
    then BitVec.ofNat 32 (s.clock.value.toNat + s.settings.armWindow) else Config.armStampPastTop s.free

/-- The state behind the taking of that stamp: a free value taken is counted (log 16). -/
def State.stampTaken (s : State) : State :=
  if s.clock.value.toNat + s.settings.armWindow ≤ 4294967295 then s else s.setFree (s.free + 1)

/-! ### Pulse queues -/

/-- The queue of a string with a pulse placed at its tail (R79); in the winding-down interval it stays as it is
(R83). -/
def State.pulsesWith (s : State) (i : StringNo) (p : Position) (d : Direction) : List Pulse :=
  if s.part.winding = true then (s.string i).queue else (s.string i).queue ++ [⟨p, d⟩]

/-- The queue of a string without the pulse of a position (R80); in the winding-down interval it stays as it is
(R83). -/
def State.pulsesWithout (s : State) (i : StringNo) (p : Position) : List Pulse :=
  if s.part.winding = true then (s.string i).queue else (s.string i).queue.eraseP (fun x => x.position == p)

/-! ### The clock, the hall and the heads -/

/-- No stamp of a cabin is reached at a clock value (R103): no due1 of a HELD cabin, no due2 of an OVERDUE one. -/
abbrev State.cabinQuiet (s : State) (c : CabinNo) (v : Stamp) : Prop :=
  ((s.cabin c).state = .held → ∀ x ∈ (s.cabin c).due1, v.toNat < x.toNat) ∧
    ((s.cabin c).state = .overdue → ∀ x ∈ (s.cabin c).due2, v.toNat < x.toNat)

/-- No tariff switch is due at a clock value (R118). -/
abbrev State.switchQuiet (s : State) (v : Stamp) : Prop :=
  s.clock.pendingTable.isSome = true → ∀ x ∈ s.clock.switchStamp, v.toNat < x.toNat

/-- A tariff switch (R118): the table becomes the active one, table and stamp are absent, a HEADER WRITE stands in the
store queue, and TARIFF_SWITCHED is posted. -/
def State.switchedTo (s : State) (table : TariffTable) : State :=
  (((s.setSettings { s.settings with tariff := table }).setClock
    { s.clock with pendingTable := none, switchStamp := none }).setBand { s.band with
      queue := if .headerWrite ∈ s.band.queue then s.band.queue else s.band.queue ++ [.headerWrite] }).post
        .tariffSwitched .none

/-- The evaluation of the full flag (R129): clear, it is set at the capacity; set, it is cleared at the resume
level. -/
def State.hallTested (s : State) : State :=
  if s.lanes.full = true then
    (if s.lanes.occupancy ≤ s.settings.capacity - s.settings.margin
      then (s.setLanes { s.lanes with full := false }).post .hallResumed .none else s)
  else if s.settings.capacity ≤ s.lanes.occupancy
    then (s.setLanes { s.lanes with full := true }).post .hallFull .none
    else s

/-- A band is read at a head that holds no record, in answer to a roster poll, and passes checks 1 to 8 (R30 to R35):
the part is RUNNING, the cache holds the band's record, ISSUED or INSIDE, with the serial read, and it is no master.
The other line does not poll the head. -/
structure State.Presents (s : State) (line : Line) (h : HeadNo) (b : BandNo) (rec : BandRecord) (e : EntryNo) :
    Prop where
  polled : ∃ carried clears w, (s.engine line).poll = some ⟨h, false, carried, clears, false, w⟩
  other : ∀ q, (s.engine (otherLine line)).poll = some q → q.head ≠ h
  online : ∃ l, (s.head h).state = .on l
  running : s.part = ⟨.running, false, .done⟩
  unformatted : s.band.format = none
  served : s.inService h = true
  empty : s.slot h = none
  below : b.val < s.tableLength
  entry : s.entryOf b = some e
  content : (s.entry e).content = .valid b rec
  state : rec.state = .issued ∨ rec.state = .inside
  zone : (h.val < 256 ∧ rec.mask.getLsbD (h.val / 32) = true) ∨ (256 ≤ h.val ∧ h.val < 280 ∧ rec.cabinRight = true) ∨
    280 ≤ h.val
  notMaster : rec.master = false

/-- The presentation of a band at a head has been granted (R26, R38, R155, R5): the poll has ended and cleared the
head's misses, the head holds the DECIDED record with the verdict pending, and the band's entry is the most recently
used. What the target block does comes on top. -/
def State.grantedAt (s : State) (line : Line) (h : HeadNo) (b : BandNo) (serial : Serial) (e : EntryNo) : State :=
  (((s.setEngine line { s.engine line with poll := none }).setHead h
    { s.head h with miss := 0, tried := false, verdict := some .grant }).setSlot h
      (some ⟨b, serial, s.clock.value, true, false⟩)).usedLast e

/-! ### Start-up and heads that leave -/

/-- The apply step of the start-up sequence (R175, R125): the held settings stand, the strings of the fitted count
enter ESTABLISHING with unknown contacts, the lockers on them are as they were and every other locker is VACANT without
owner and companions unless SUSPENDED (log 36), the fitted lanes have read their beams and the others are at reset
(log 18). -/
structure State.Applied (s t : State) (held : Settings) : Prop where
  settings : t.settings = held
  part : t.part = ⟨.starting, false, .establishing⟩
  strings : ∀ i : StringNo, i.val < 8 → i.val < held.fittedStrings →
    t.string i = ⟨.establishing, [], .idle⟩ ∧ t.contacts i = StringContacts.atReset
  lockers : ∀ k : LockerNo, k.val / 32 < held.fittedStrings ∨ (s.locker k).state = .suspended →
    t.locker k = s.locker k
  vacated : ∀ k : LockerNo, held.fittedStrings ≤ k.val / 32 → (s.locker k).state ≠ .suspended →
    t.locker k = if (s.locker k).state = .vacant ∧ (s.locker k).owner = none ∧ (s.locker k).companions = []
      then s.locker k
      else { s.locker k with state := .vacant, owner := none, companions := [], dirty := true }
  lanes : ∀ l : LaneNo, t.lane l = if l.val < held.fittedLanes
    then { s.lane l with beams := s.lanes.pins[l.val], phase := 0 } else Lane.atReset
  queue : t.band.queue = s.band.queue
  port : t.band.port = s.band.port
  link : t.link = s.link
  store : t.store = s.store
  clock : t.clock = s.clock
  journal : t.journal = s.journal

/-- The lookup of a head whose presentation is pending carries the superseded mark where the test holds of the head
(R27, R29). -/
def State.markWaiter (s : State) (test : HeadNo → Bool) : Waiter → Waiter
  | .lookup h p => .lookup h { p with
      superseded := p.superseded || (test h && (s.slot h).any (fun q => !q.decided)) }
  | w => w

/-- The heads that meet a test have left service between two states (R29, R152), and no other has: their presentations
are dropped, their roster records are at reset, and a poll in flight to one changes no roster record at its end. -/
structure State.HeadsLeft (s t : State) (left : HeadNo → Bool) : Prop where
  slots : ∀ h, t.slot h = if left h = true then none else s.slot h
  heads : ∀ h, t.head h = if left h = true then HeadRecord.atReset else s.head h
  engines : ∀ line, t.engine line = { s.engine line with
    poll := (s.engine line).poll.map (fun p => { p with stale := p.stale || left p.head }) }
  waiters : ∀ e, t.entry e = { s.entry e with waiters := (s.entry e).waiters.map (s.markWaiter left) }

/-- An answer whose check agrees (R154). -/
def goodAnswer (head : HeadNo) (a : AnswerKind) : Answer := ⟨a, answerCheck head.val a⟩

end Sys2Proof.Machine
end

