-- ==== Sys2Proof/Certificates/Slice0/Obligations.lean ====
section
/-!
DEFINITION. The statements for the provers. Where a statement says what a command does, it says it of every state
that meets its hypotheses, and the state it names is the whole next state: what it does not name is unchanged. Every
command ends with `State.arbitrate` (log 6): the statements on the port's choice, the line engines' choice and the
transmit side's choice say what that does, and `ArbitrateFrame` what it leaves.
-/

open Sys2Proof Sys2Proof.Machine

/-! ### The machine -/

/-- One step runs the command at the front of the queue with the queue's rest. On an empty queue the block idles,
which is the model's choice (log 2). -/
def Obligations.StepRunsFront : Prop :=
  (∀ (s : State) (c : Instr) (rest : List Instr), s.pending = c :: rest → step s = exec c (s.setPending rest)) ∧
  (∀ s : State, s.pending = [] → step s = .next s)

/-- Every command answers a next state, with the queue of commands as it was. -/
def Obligations.ExecKeepsQueue : Prop :=
  ∀ (c : Instr) (s : State), ∃ t : State, exec c s = .next t ∧ t.pending = s.pending

/-- Every step keeps the invariant, from every state that has it: the band store's cells in canonical form (R3,
log 10), at most 32 notices (R165), occupancy 0 to 999 and phase counts −3 to +3 (R127), fairness count 0 to 4
(R12). -/
def Obligations.StepKeepsInv : Prop :=
  ∀ s t : State, s.Inv → step s = .next t → t.Inv

/-- The machine right after reset has the invariant. -/
def Obligations.ResetHasInv : Prop := State.reset.Inv

/-! ### What chooses by itself -/

/-- The choices at the end of a command (R12, R153, R164; log 6) leave everything but: the store port with its queue and
fairness count; the started mark of a reply waiting on a write; a format's stage, which goes from waiting to its first
write; the dirty mark of the one locker whose MIRROR WRITE is put in flight; the two line engines; the probe status of a
head, which goes from DUE to IN_FLIGHT where an engine sends that probe; and the replies, notices and frame of the
transmit side. -/
def Obligations.ArbitrateFrame : Prop :=
  ∀ s : State,
    s.arbitrate.part = s.part ∧ s.arbitrate.settings = s.settings ∧ s.arbitrate.store = s.store ∧
    s.arbitrate.pres = s.pres ∧ s.arbitrate.strings = s.strings ∧ s.arbitrate.scanner = s.scanner ∧
    s.arbitrate.cabins = s.cabins ∧ s.arbitrate.clock = s.clock ∧ s.arbitrate.lanes = s.lanes ∧
    s.arbitrate.journal = s.journal ∧ s.arbitrate.free = s.free ∧ s.arbitrate.pending = s.pending ∧
    s.arbitrate.band.cache = s.band.cache ∧ s.arbitrate.band.lastUse = s.band.lastUse ∧
    s.arbitrate.lockers.closed = s.lockers.closed ∧
    (∀ k, { s.arbitrate.locker k with dirty := (s.locker k).dirty } = s.locker k) ∧
    (∀ h, { s.arbitrate.head h with probe := (s.head h).probe } = s.head h) ∧
    s.arbitrate.link.kept = s.link.kept ∧ s.arbitrate.link.outstanding = s.link.outstanding ∧
    s.arbitrate.link.floor = s.link.floor ∧ s.arbitrate.link.overflow = s.link.overflow ∧
    (s.arbitrate.band.replyWait = s.band.replyWait ∨
      ∃ w, s.band.replyWait = some w ∧ s.arbitrate.band.replyWait = some { w with started := true }) ∧
    (s.arbitrate.band.format = s.band.format ∨
      (s.band.format = some .draining ∧ s.arbitrate.band.format = some (.writing 0))) ∧
    (∀ k, (s.arbitrate.locker k).dirty = (s.locker k).dirty ∨
      ((s.locker k).dirty = true ∧ (s.arbitrate.locker k).dirty = false ∧ s.band.inFlight = none ∧
        ∃ a bs, s.arbitrate.band.inFlight = some ⟨.mirrorWrite k a bs, false⟩)) ∧
    (∀ h, (s.arbitrate.head h).probe = (s.head h).probe ∨
      ((s.head h).probe = .due ∧ (s.arbitrate.head h).probe = .inFlight ∧
        ∃ line, (s.engine line).poll = none ∧ (s.arbitrate.engine line).poll =
          some ⟨h, true, none, false, false, s.settings.pollWindow⟩))

/-- The port's choice (R12), with what each start captures (R9, R11, R13) and the fairness count behind it. A port that
is not READY starts nothing. The header read and the mirror reads of the start-up sequence start in their order (R172,
R173). Behind them, with no format's writes to make: at the head of the queue a FETCH, a WRITE or a HEADER WRITE starts,
and a reply waiting on that target's next write takes the started mark (R10, R11); with an empty queue, or at a fairness
count of 4, the MIRROR WRITE of the lowest-numbered dirty locker starts. No MIRROR WRITE starts before the apply step
(R12), and none behind a format's writes (log 26). In the winding-down interval the queue is served first (R4); that the
fairness count is then set aside, and is held at 4 where no MIRROR WRITE may start, is the model's choice (log 23). -/
def Obligations.PortChoice : Prop :=
  ∀ s : State,
    (s.band.port ≠ .ready ∨ s.band.inFlight.isSome = true →
      s.arbitrate.band = s.band ∧ s.arbitrate.lockers = s.lockers) ∧
    (s.band.port = .ready → s.band.inFlight = none →
      let flying (x : Transfer) : BandUnit := { s.band with port := .transfer, inFlight := some ⟨x, false⟩ }
      let started (g : WaitTarget) : Option ReplyWait :=
        s.band.replyWait.map (fun w => if w.target = g then { w with started := true } else w)
      let count : Nat := if ∃ k, (s.locker k).dirty = true then min 4 (s.band.fairness + 1) else 0
      let sweeps : Prop := (s.part.startup = .establishing ∨ s.part.startup = .done) ∧ s.band.format = none
      (s.part.startup = .headerRead →
        s.arbitrate.band = flying .headerRead ∧ s.arbitrate.lockers = s.lockers) ∧
      (∀ k held, s.part.startup = .mirrorRead k held →
        s.arbitrate.band = flying (.mirrorRead k) ∧ s.arbitrate.lockers = s.lockers) ∧
      (s.part.startup = .establishing ∨ s.part.startup = .done ∨
          (∃ k left held, s.part.startup = .ownership k left held) →
        s.band.format = none ∨ s.band.format = some .ended →
        (s.band.queue = [] → ¬sweeps ∨ (∀ k, (s.locker k).dirty = false) →
          s.arbitrate.band = s.band ∧ s.arbitrate.lockers = s.lockers) ∧
        (∀ k, sweeps → (s.locker k).dirty = true → (∀ j, j < k → (s.locker j).dirty = false) →
          s.band.queue = [] ∨ (s.band.fairness = 4 ∧ s.part.winding = false) →
          s.arbitrate.band = { flying (.mirrorWrite k (256 + 32 * s.tableLength + 16 * k.val)
            (s.locker k).mirrorImage.encode) with fairness := 0 } ∧
          s.arbitrate.lockers =
            { s.lockers with table := s.lockers.table.set k.val { s.locker k with dirty := false } }) ∧
        (∀ r rest, s.band.queue = r :: rest → ¬sweeps ∨ (∀ k, (s.locker k).dirty = false) ∨ s.band.fairness ≠ 4 ∨
            s.part.winding = true →
          s.arbitrate.lockers = s.lockers ∧
          (∀ e n, r = .fetch e → (s.entry e).content = .filling n →
            s.arbitrate.band = { flying (.fetch e n) with queue := rest, fairness := count }) ∧
          (∀ e n rec, r = .write e → (s.entry e).content = .valid n rec →
            s.arbitrate.band = { flying (.write e n rec.encode) with
              queue := rest, fairness := count, replyWait := started (.entry e) }) ∧
          (r = .headerWrite → s.arbitrate.band = { flying (.headerWrite s.settings.encodeHeader) with
            queue := rest, fairness := count, replyWait := started .header }))))

/-- The choice of the engine of either line (R153, R154): with a poll in flight, and from the RESTART reply on (R151),
it chooses nothing. Where its last exchange was a roster poll, or no head in service names its line, it sends the probe
of the lowest-numbered head DUE on the line. Otherwise, or where no probe is DUE on the line, it sends a roster poll,
carrying the pending verdict, to the next head above the last-polled one that is in service on the line, and to the
lowest-numbered one where there is none above. With neither a head nor a DUE probe it waits. -/
def Obligations.EngineChoice : Prop :=
  ∀ (s : State) (line : Line),
    ((s.engine line).poll.isSome = true ∨ s.part.winding = true → s.arbitrate.engine line = s.engine line) ∧
    ((s.engine line).poll = none → s.part.winding = false →
      let due (g : HeadNo) : Prop :=
        s.inService g = true ∧ (s.head g).probe = .due ∧ (s.head g).probeLine = line
      let polled (g : HeadNo) : Prop := s.inService g = true ∧ (s.head g).state = .on line
      (∀ h, (s.engine line).lastWasRoster = true ∨ (∀ g, ¬polled g) → due h → (∀ g, g < h → ¬due g) →
        s.arbitrate.engine line = { s.engine line with
          lastWasRoster := false, poll := some ⟨h, true, none, false, false, s.settings.pollWindow⟩ } ∧
        (s.arbitrate.head h).probe = .inFlight) ∧
      (∀ h, (s.engine line).lastWasRoster = false ∨ (∀ g, ¬due g) → polled h →
        (∀ l, (s.engine line).last = some l →
          (l < h ∧ ∀ g, l < g → g < h → ¬polled g) ∨ (∀ g, g < h ∨ l < g → ¬polled g)) →
        ((s.engine line).last = none → ∀ g, g < h → ¬polled g) →
        s.arbitrate.engine line = ⟨some h, true,
          some ⟨h, false, (s.head h).verdict, (s.head h).verdict.isSome, false, s.settings.pollWindow⟩⟩) ∧
      ((∀ g, ¬polled g) → (∀ g, ¬due g) → s.arbitrate.engine line = s.engine line))

/-- The choice of a free transmit side (R164, R166): a reply before a notice, the reply that became ready first, and
among the notices above the floor the highest level, of that level the one that joined first; no notice at or below
the floor starts, and a frame being sent is not disturbed. The flags byte is that of the start. -/
def Obligations.FrameChoice : Prop :=
  ∀ s : State,
    (s.link.sending.isSome = true → s.arbitrate.link = s.link) ∧
    (∀ r rest, s.link.sending = none → s.link.replies = r :: rest →
      s.arbitrate.link = { s.link with replies := rest, sending := some ⟨.reply r, s.flagsByte⟩ }) ∧
    (∀ before n behind, s.link.sending = none → s.link.replies = [] → s.part.winding = false →
      s.link.notices = before ++ n :: behind → s.link.floor.val < n.kind.level →
      (∀ m ∈ before, m.kind.level < n.kind.level) → (∀ m ∈ behind, m.kind.level ≤ n.kind.level) →
      s.arbitrate.link = { s.link with notices := before ++ behind, sending := some ⟨.notice n, s.flagsByte⟩ }) ∧
    (s.link.sending = none → s.link.replies = [] → (∀ m ∈ s.link.notices, m.kind.level ≤ s.link.floor.val) →
      s.arbitrate.link = s.link)

/-! ### Power-on, start-up, winding down -/

/-- Power-on and the reset pin leave the reset values (R171): the site clock is 0 with the set flag clear, nothing is
being sent, and the header read has started. That the band store keeps its bytes is what a memory does; the pins, the
free-value number and the queue of commands are the model's own (logs 5, 16, 19), and so is that lanes 0 and 1, fitted
by the default count, read their beams here (log 18). A write that power-on or the reset pin cuts off leaves its bytes
open, and no other byte of the store (R4, log 13); a transfer that reads leaves the store alone; every other piece of
state takes its reset value as without a transfer. -/
def Obligations.PowerOnResets : Prop :=
  (∀ s : State, s.band.inFlight = none →
     exec .powerOn s = .next s.poweredOn ∧ exec .resetPin s = .next s.poweredOn) ∧
  (∀ (s : State) (f : InFlight), s.band.inFlight = some f →
     ∃ t : State, exec .powerOn s = .next t ∧ exec .resetPin s = .next t ∧
       t = { s.poweredOn with store := t.store, free := t.free } ∧
       (∀ a bs, f.transfer.target = some (a, bs) → t.free = s.free + 1 ∧
         (∀ x, a ≤ x → x < a + bs.length → t.store.byte x = Config.cutOffByte s.free x) ∧
         ∀ x, x < a ∨ a + bs.length ≤ x → t.store.byte x = s.store.byte x) ∧
       (f.transfer.target = none → t.store = s.store ∧ t.free = s.free))

/-- The entry into STARTING once every block has wound down (R171): the reset values, but that the clock value and
the set flag are kept, and a reply being sent is sent on (R170), as no outstanding request's reply (log 25). That lanes
0 and 1 read their beams here is the model's choice (log 18), and so is that the pins and the free-value number are kept
(log 19, log 16). -/
def Obligations.EntersStarting : Prop :=
  ∀ s : State, s.woundDown = true → exec .enterStarting s = .next
    { State.cold with
      link := { Link.atReset with sending := s.link.sending.map Sending.disown }
      store := s.store
      clock := ⟨s.clock.value, s.clock.isSet, none, none⟩
      lanes := s.poweredOn.lanes
      free := s.free
      pending := s.pending }.arbitrate

/-- A header read whose bytes are judged good (R172): its values are held and not applied, and the mirror read of
locker 0 follows. The bytes are those the memory answers (log 11). A header read whose bytes are not good puts the
part in NO_STORE (R172, R176): queue, cache and port at their reset values, the default settings, the locker table at
its reset values, strings 0 to 7 ESTABLISHING, and no notice. -/
def Obligations.HeaderReadCompletes : Prop :=
  (∀ (s : State) (seen : Option (List Byte)) (r : Bool) (held : Settings), s.band.inFlight = some ⟨.headerRead, r⟩ →
     judgeHeader ((s.store.seen 0 256 seen).bytes 0 256) = some held →
     exec (.headerReadComplete seen) s =
       .next (((s.setStore (s.store.seen 0 256 seen)).portReady).setPart
         { s.part with startup := .mirrorRead 0 held }).arbitrate) ∧
  (∀ (s : State) (seen : Option (List Byte)) (r : Bool), s.band.inFlight = some ⟨.headerRead, r⟩ →
     judgeHeader ((s.store.seen 0 256 seen).bytes 0 256) = none →
     ∃ t : State, exec (.headerReadComplete seen) s = .next t.arbitrate ∧
       t.part = ⟨.noStore, false, .done⟩ ∧ t.band = BandUnit.atReset ∧ t.settings = Settings.default ∧
       (∀ k, t.locker k = Locker.atReset) ∧ t.lockers.closed = s.lockers.closed ∧
       (∀ i : StringNo, i.val < 8 → t.string i = ⟨.establishing, [], .idle⟩ ∧ t.contacts i = StringContacts.atReset) ∧
       t.link = s.link ∧ t.store = s.store.seen 0 256 seen ∧ t.pres = s.pres ∧ t.clock = s.clock ∧
       t.journal = s.journal ∧ t.reader = s.reader ∧ t.free = s.free)

/-- A mirror read of a locker below 255 (R173): a good record is taken into the locker record; one that is not good is
taken as VACANT without owner and companions, marked dirty, and RECORD_DAMAGED is posted for the locker. The next
locker's record is read. Behind the last mirror read, good or not (`read` is the state with that record taken), the
ownership check begins (R174): the lowest-numbered locker with an owner or companions sends one band operation for each
of them, in an empty cache each with an entry and a FETCH of its own, and the sequence waits for all of them; that the
owner's comes before the companion's is the model's choice (log 44). Where no
locker has an owner or a companion no check is to be made, and the held settings are applied (R175). The bytes, and the
store behind the read, are those the memory answers, which is the model's choice (log 11); so is that lockers on unfitted
strings become VACANT (log 36), and that the lanes read their beams (log 18), at the apply step. -/
def Obligations.MirrorReadCompletes : Prop :=
  (∀ (s : State) (seen : Option (List Byte)) (k : LockerNo) (held : Settings) (j : LockerNo) (r : Bool)
     (h : k.val + 1 < 256), s.band.inFlight = some ⟨.mirrorRead j, r⟩ → s.part.startup = .mirrorRead k held →
     let a := 256 + 32 * held.tableLength + 16 * k.val
     let judged := judgeMirror ((s.store.seen a 16 seen).bytes a 16) held.tableLength s.takenOwners s.takenCompanions
     let u := (s.setStore (s.store.seen a 16 seen)).portReady
     let next : Part := { s.part with startup := .mirrorRead ⟨k.val + 1, h⟩ held }
     (∀ m, judged = some m → exec (.mirrorReadComplete seen) s = .next ((u.setLocker k { s.locker k with
       state := m.state, owner := m.owner, companions := m.companions }).setPart next).arbitrate) ∧
     (judged = none → exec (.mirrorReadComplete seen) s = .next (((u.setLocker k { s.locker k with
       state := .vacant, owner := none, companions := [], dirty := true }).post .recordDamaged
         (.locker k)).setPart next).arbitrate)) ∧
  (∀ (s read : State) (seen : Option (List Byte)) (held : Settings) (j : LockerNo) (r : Bool),
     s.band.inFlight = some ⟨.mirrorRead j, r⟩ → s.part = ⟨.starting, false, .mirrorRead 255 held⟩ →
     let a := 256 + 32 * held.tableLength + 16 * 255
     let judged := judgeMirror ((s.store.seen a 16 seen).bytes a 16) held.tableLength s.takenOwners s.takenCompanions
     let u := (s.setStore (s.store.seen a 16 seen)).portReady
     (∀ m, judged = some m → read = u.setLocker 255 { s.locker 255 with
       state := m.state, owner := m.owner, companions := m.companions }) →
     (judged = none → read = (u.setLocker 255 { s.locker 255 with
       state := .vacant, owner := none, companions := [], dirty := true }).post .recordDamaged (.locker 255)) →
     let sent (cache : Vector CacheEntry 32) (k : LockerNo) (fetches : List EntryNo) : State :=
       (read.setBand { read.band with
         cache := cache
         lastUse := s.band.lastUse.filter (fun f => f ∉ fetches)
         queue := s.band.queue ++ fetches.map .fetch }).setPart
           { s.part with startup := .ownership k fetches.length held }
     (1 ≤ held.fittedStrings → (∀ k, (read.locker k).owner = none ∧ (read.locker k).companions = []) →
       ∃ t : State, exec (.mirrorReadComplete seen) s = .next t.arbitrate ∧ read.Applied t held) ∧
     (∀ (k : LockerNo) (b : BandNo), s.band.format = none → s.band.cache = BandUnit.atReset.cache →
       (∀ i, i < k → (read.locker i).owner = none ∧ (read.locker i).companions = []) →
       (read.locker k).owner = some b → b.val < s.tableLength →
       ((read.locker k).companions = [] → exec (.mirrorReadComplete seen) s =
         .next (sent (s.band.cache.set 0 ⟨.filling b, [.ownerCheck k], false⟩) k [0]).arbitrate) ∧
       (∀ c : BandNo, (read.locker k).companions = [c] → c ≠ b → c.val < s.tableLength →
         exec (.mirrorReadComplete seen) s = .next (sent ((s.band.cache.set 0 ⟨.filling b, [.ownerCheck k],
           false⟩).set 1 ⟨.filling c, [.companionCheck k], false⟩) k [0, 1]).arbitrate)))

/-! ### The host link -/

/-- The bytes of a frame, received from the start byte on or behind bytes none of which is a start byte, are taken as
one frame of that kind, tag and body, and nothing is kept (10.1.1, R160). -/
def Obligations.FrameRoundTrip : Prop :=
  ∀ (gap : Bool) (noise : List Byte) (kind tag : Byte) (body : List Byte), body.length ≤ 248 →
    (∀ b ∈ noise, b ≠ 0x5C) →
    huntFrames gap (noise ++ frameBytes kind tag body).length (noise ++ frameBytes kind tag body) =
      ([⟨kind, tag, body⟩], [])

/-- What the receive side keeps and discards, in silence (R160): bytes without a start byte are gone; a frame not yet
complete is kept until the gap expires; a length byte out of range and a check that does not agree discard the frame.
In the last three of these clauses no byte behind the start byte is one. A good frame that the hunt finds among the
bytes is taken as the arrival of its request, or of an unknown kind, and then the bytes behind it are kept. Which of the
two events carries the bytes is the model's choice (log 8). -/
def Obligations.ReceiveDiscards : Prop :=
  ∀ (s : State) (bytes : List Byte),
    let dropped : State := (s.setLink { s.link with kept := [] }).arbitrate
    ((∀ b ∈ s.link.kept ++ bytes, b ≠ 0x5C) →
      exec (.frameDiscard bytes) s = .next dropped ∧ exec (.frameGapExpiry bytes) s = .next dropped) ∧
    (∀ len rest, s.link.kept ++ bytes = 0x5C :: len :: rest → 2 ≤ len.toNat → len.toNat ≤ 250 →
      rest.length < len.toNat + 2 → len ≠ 0x5C → (∀ b ∈ rest, b ≠ 0x5C) →
      exec (.frameDiscard bytes) s =
        .next (s.setLink { s.link with kept := s.link.kept ++ bytes }).arbitrate ∧
      exec (.frameGapExpiry bytes) s = .next dropped) ∧
    (∀ len rest, s.link.kept ++ bytes = 0x5C :: len :: rest → len.toNat < 2 ∨ 250 < len.toNat →
      (∀ b ∈ rest, b ≠ 0x5C) →
      exec (.frameDiscard bytes) s = .next dropped ∧ exec (.frameGapExpiry bytes) s = .next dropped) ∧
    (∀ len covered check, s.link.kept ++ bytes = 0x5C :: len :: (covered ++ check) → 2 ≤ len.toNat →
      len.toNat ≤ 250 → covered.length = len.toNat → check.length = 2 → check ≠ crc16Bytes (len :: covered) →
      len ≠ 0x5C → (∀ b ∈ covered ++ check, b ≠ 0x5C) →
      exec (.frameDiscard bytes) s = .next dropped ∧ exec (.frameGapExpiry bytes) s = .next dropped) ∧
    (∀ (f : Received) (rest : List Byte) (u : State),
      (∀ r : Request, r.code = f.kind → exec (r.command f.tag f.body) s = .next u) →
      ((∀ r : Request, r.code ≠ f.kind) → exec (.unknownRequest f.kind f.tag f.body) s = .next u) →
      let taken : State := (u.setLink { u.link with kept := rest }).arbitrate
      (huntFrames false (s.link.kept ++ bytes).length (s.link.kept ++ bytes) = ([f], rest) →
        exec (.frameDiscard bytes) s = .next taken) ∧
      (huntFrames true (s.link.kept ++ bytes).length (s.link.kept ++ bytes) = ([f], rest) →
        exec (.frameGapExpiry bytes) s = .next taken))

/-- The tests at the arrival of a request with a known code, in their order, for each of the 49 requests (R161, R163):
another request outstanding, a wrong body length, the part state, and else the hand-over to the owning block. In the
winding-down interval the part shows STARTING. A kind that is no request code (R161, test 2): it becomes the
outstanding request and is replied UNKNOWN, or is turned away as any other while one is outstanding. -/
def Obligations.RequestTests : Prop :=
  (∀ (r : Request) (tag : Byte) (body : List Byte) (s : State),
     (s.link.outstanding.isSome = true → exec (r.command tag body) s = .next (s.turnedAway tag).arbitrate) ∧
     (s.link.outstanding = none → body.length ≠ r.bodyLength →
       exec (r.command tag body) s = .next ((s.taken r tag).replied tag .malformed .none).arbitrate) ∧
     (s.link.outstanding = none → body.length = r.bodyLength →
       (s.shownPart = .starting → r ∉ [Request.status, .clockSet] →
         exec (r.command tag body) s = .next ((s.taken r tag).replied tag .starting .none).arbitrate) ∧
       (s.shownPart = .noStore → r ∉ [Request.status, .clockSet, .clockRead, .storeFormat, .restart] →
         exec (r.command tag body) s = .next ((s.taken r tag).replied tag .store .none).arbitrate) ∧
       (s.shownPart = .running ∨ r ∈ [Request.status, .clockSet] ∨
           (s.shownPart = .noStore ∧ r ∈ [Request.clockRead, .storeFormat, .restart]) →
         exec (r.command tag body) s = .next ((s.taken r tag).serveHostRequest r body).arbitrate))) ∧
  (∀ (kind tag : Byte) (body : List Byte) (s : State), (∀ r : Request, r.code ≠ kind) →
     (s.link.outstanding = none → exec (.unknownRequest kind tag body) s =
       .next ((s.setLink { s.link with kept := [], outstanding := some ⟨kind, tag⟩ }).replied tag .unknown
         .none).arbitrate) ∧
     (s.link.outstanding.isSome = true → exec (.unknownRequest kind tag body) s = .next (s.turnedAway tag).arbitrate))

/-- The end of a frame (R164): of a notice, the transmit side is free; of the outstanding request's reply, its
outstanding state ends too; of a reply built by the link controller, it does not. With no frame being sent the event
changes nothing (log 3). -/
def Obligations.FrameEnds : Prop :=
  ∀ s : State,
    (∀ n flags, s.link.sending = some ⟨.notice n, flags⟩ →
      exec .transmitEnd s = .next (s.setLink { s.link with sending := none }).arbitrate) ∧
    (∀ tag res data flags, s.link.sending = some ⟨.reply ⟨tag, res, data, true, false⟩, flags⟩ →
      exec .transmitEnd s = .next (s.setLink { s.link with sending := none, outstanding := none }).arbitrate) ∧
    (∀ tag res data flags, s.link.sending = some ⟨.reply ⟨tag, res, data, false, false⟩, flags⟩ →
      exec .transmitEnd s = .next (s.setLink { s.link with sending := none }).arbitrate) ∧
    (s.link.sending = none → exec .transmitEnd s = .next s.arbitrate)

/-- The end of the reply of RESTART or of STORE FORMAT begins the winding-down interval (R170, R171, R177): the
request is no longer outstanding, every presentation record is dropped (R29), every lane is DISARMED with no commit
pending (R125). The FETCH requests leave the queue, and the waiters of each end BUSY and its entry is emptied (R4): with
the presentations dropped and no request outstanding such an end places no verdict and gives no reply. In FAULT the held
writes go too, with the cache (R4). That arms and commits go at this event, and not at the entry into STARTING, is the
model's choice (log 22), and so is that the FETCHes go at it, and not behind the transfer in flight (log 46). -/
def Obligations.WindingBegins : Prop :=
  ∀ (s : State) (tag : Byte) (res : Result) (data : ReplyData) (flags : Byte),
    s.link.sending = some ⟨.reply ⟨tag, res, data, true, true⟩, flags⟩ → s.part.startup = .done →
    (∀ e h p, Waiter.lookup h p ∈ (s.entry e).waiters →
      p.superseded = true ∨ ∃ q, s.slot h = some q ∧ q.decided = false) →
    ∃ t : State, exec .transmitEnd s = .next t.arbitrate ∧ t.part = { s.part with winding := true } ∧
      t.link = { s.link with outstanding := none, sending := none } ∧
      (∀ h, t.slot h = none) ∧ (∀ h, (t.head h).verdict = none) ∧
      (∀ l, (t.lane l).arm = none ∧ (t.lane l).commit = none) ∧
      (∀ e, .fetch e ∉ t.band.queue) ∧
      (∀ e, .fetch e ∈ s.band.queue → t.entry e = CacheEntry.atReset ∧ e ∉ t.band.lastUse) ∧
      (s.band.port ≠ .fault → t.band.queue = s.band.queue.filter (fun q => ∀ e, q ≠ .fetch e) ∧
        ∀ e, .fetch e ∉ s.band.queue → (t.entry e).content = (s.entry e).content ∧
          (t.entry e).waiters.length = (s.entry e).waiters.length ∧
          (t.entry e).writePending = (s.entry e).writePending) ∧
      (s.band.port = .fault → t.band.queue = [] ∧ ∀ e, t.entry e = CacheEntry.atReset) ∧ t.band.format = none ∧
      t.strings = s.strings ∧ t.store = s.store ∧ t.settings = s.settings ∧ t.clock = s.clock ∧
      t.band.inFlight = if s.band.port = .fault then none else s.band.inFlight

/-- The posting of a notice (R165): with fewer than 32 held it joins the queue; with 32 held and its level above the
lowest held, the oldest at that level goes and it joins; with 32 held and its level not above, it is discarded; with
32 held the overflow mark is set. The stamp is the site clock at the posting. After power-on, the reset pin and the
entry into STARTING the queue is empty, the floor is 0 and the mark is clear. -/
def Obligations.NoticePosting : Prop :=
  ∀ (s : State) (kind : NoticeKind) (sub : NoticeSubject),
    let n : Notice := ⟨kind, sub, s.clock.value⟩
    (s.link.notices.length < 32 →
      s.post kind sub = s.setLink { s.link with notices := s.link.notices ++ [n] }) ∧
    (∀ before old behind, s.link.notices.length = 32 → s.link.notices = before ++ old :: behind →
      (∀ m ∈ before, old.kind.level < m.kind.level) → (∀ m ∈ behind, old.kind.level ≤ m.kind.level) →
      old.kind.level < kind.level →
      s.post kind sub = s.setLink { s.link with notices := before ++ behind ++ [n], overflow := true }) ∧
    (s.link.notices.length = 32 → (∀ m ∈ s.link.notices, kind.level ≤ m.kind.level) →
      s.post kind sub = s.setLink { s.link with overflow := true }) ∧
    (s.link.notices.length ≤ 32 → (s.post kind sub).link.notices.length ≤ 32) ∧
    (∀ m flags, s.link.sending = none → s.arbitrate.link.sending = some ⟨.notice m, flags⟩ →
      s.link.floor.val < m.kind.level) ∧
    (∀ t, exec .powerOn s = .next t ∨ exec .resetPin s = .next t ∨
        (s.woundDown = true ∧ exec .enterStarting s = .next t) →
      t.link.notices = [] ∧ t.link.floor = 0 ∧ t.link.overflow = false)

/-- SET FLOOR (R168): a value above 7 is replied RANGE and the floor is unchanged; another is taken, and the request
is replied OK with the number of notices held, none of which is discarded. -/
def Obligations.SetFloor : Prop :=
  ∀ (s : State) (tag : Byte) (body : List Byte), s.takes .setFloor body →
    (7 < argByte body 0 →
      exec (.setFloor tag body) s = .next ((s.taken .setFloor tag).replied tag .range .none).arbitrate) ∧
    (∀ f : Fin 8, argByte body 0 = f.val →
      exec (.setFloor tag body) s = .next (((s.taken .setFloor tag).setLink
        { (s.taken .setFloor tag).link with floor := f }).replied tag .ok
          (.noticesHeld s.link.notices.length)).arbitrate)

/-- STATUS (R169): taken in every part state; the data of the blocks, the overflow mark as it stood before this STATUS
cleared it. -/
def Obligations.Status : Prop :=
  ∀ (s : State) (tag : Byte), s.link.outstanding = none →
    exec (.status tag []) s = .next (((s.taken .status tag).setLink
      { (s.taken .status tag).link with overflow := false }).replied tag .ok (.status {
        part := if s.part.winding then .starting else s.part.part
        clock := s.clock.value
        clockSet := s.clock.isSet
        overflow := s.link.overflow
        held := s.link.notices.length
        floor := s.link.floor
        port := s.band.port
        queueLength := s.band.queue.length
        entriesInUse := ((allFin 32).filter (fun e => (s.entry e).content != .empty)).length
        tableLength := 256 * (s.settings.tableUnits.val + 1)
        stringsFitted := s.settings.fittedStrings
        lanesFitted := s.settings.fittedLanes
        occupancy := s.lanes.occupancy
        full := s.lanes.full })).arbitrate

/-- RESTART and STORE RESTART at their service (R170, R178, R17): RESTART is replied OK, and the reply is the one
behind which the part winds down; STORE RESTART takes the port out of FAULT, READY with fairness count 0, and is
replied OK, or STATE with no change while the port is READY or in TRANSFER. -/
def Obligations.Restarts : Prop :=
  ∀ (s : State) (tag : Byte),
    (s.takes .restart [] → exec (.restart tag []) s = .next ((s.taken .restart tag).setLink
      { (s.taken .restart tag).link with
        replies := s.link.replies ++ [⟨tag, .ok, .none, true, true⟩] }).arbitrate) ∧
    (s.takes .storeRestart [] → s.band.port = .fault → exec (.storeRestart tag []) s =
      .next (((s.taken .storeRestart tag).setBand
        { s.band with port := .ready, fairness := 0 }).replied tag .ok .none).arbitrate) ∧
    (s.takes .storeRestart [] → s.band.port ≠ .fault → exec (.storeRestart tag []) s =
      .next ((s.taken .storeRestart tag).replied tag .state .none).arbitrate)

/-! ### Band records and band requests -/

/-- A band record with the values and presences of R1, as stored, is judged good and read back as it was (R1, R2,
1.1.1). -/
def Obligations.BandRecordRoundTrip : Prop :=
  ∀ r : BandRecord, r.Good → judgeRecord r.encode = some r

/-- Stored settings in their ranges, written as the header and read back, are judged good and are what they were. The
place of each field behind the signature is the model's (log 12). The mirror image of a locker, written as a mirror
record and read back, is judged good and is what it was, where it meets the conditions of R173. The place of each
field is the model's (log 12). -/
def Obligations.StoredRecordsRoundTrip : Prop :=
  (∀ x : Settings, x.inRange = true → judgeHeader x.encodeHeader = some x) ∧
  (∀ (m : MirrorImage) (tableLength : Nat) (owners companions : List BandNo),
     m.state ≠ .locking → m.state ≠ .unlocking →
     (m.state = .locked ∨ m.state = .opened → m.owner.isSome = true) →
     (m.state = .vacant ∨ m.state = .abandoned ∨ m.state = .suspended → m.owner = none) →
     (m.owner = none → m.companions = []) → m.companions.length ≤ 3 → m.companions.Nodup →
     (∀ b, m.owner = some b → b ∉ m.companions ∧ b.val < tableLength ∧ b ∉ owners) →
     (∀ b ∈ m.companions, b.val < tableLength ∧ b ∉ companions) →
     judgeMirror m.encode tableLength owners companions = some m)

/-- The bytes written to the band store are read back, and every other byte reads as before (R3), where the cells are in
canonical form, which every step keeps. -/
def Obligations.StoreReadsBack : Prop :=
  ∀ (st : Store) (a : Nat) (bs : List Byte) (x : Nat), Memory.wf st.cells →
    (st.write a bs).byte x = if h : a ≤ x ∧ x < a + bs.length then bs[x - a]'(by omega) else st.byte x

/-- BAND READ at a band whose record is held (R19): OK with the band number and the 32 bytes of the record as held;
nothing of the band changes, and the entry of a FREE or RETURNED band is emptied (R7). -/
def Obligations.BandRead : Prop :=
  ∀ (s : State) (tag : Byte) (body : List Byte) (n : BandNo) (e : EntryNo) (rec : BandRecord),
    s.Asks .bandRead body 0 n e rec →
    let t := ((s.taken .bandRead tag).usedLast e).replied tag .ok (.bandRecord n rec.encode)
    exec (.bandRead tag body) s = .next (if (rec.state = .free ∨ rec.state = .returned) ∧ (s.entry e).waiters = [] ∧
        (s.entry e).writePending = false
      then t.setBand { t.band with
        cache := s.band.cache.set e.val CacheEntry.atReset
        lastUse := s.band.lastUse.filter (fun f => f ≠ e) }
      else t).arbitrate

/-- BAND ISSUE at a band whose record is held (R20): an argument out of range is replied RANGE, and a band in use, an
owner, a companion or a holder of a cabin STATE, with no change; else the record is the issued one, written by R9, and
the reply waits for its WRITE or is STORE in FAULT (R10, R16). -/
def Obligations.BandIssue : Prop :=
  ∀ (s : State) (tag : Byte) (body : List Byte) (n : BandNo) (e : EntryNo) (rec : BandRecord),
    s.Asks .bandIssue body 0 n e rec →
    let u := (s.taken .bandIssue tag).usedLast e
    (argLong body 2 = 0 ∨ 7 < argByte body 6 ∨ 1440 < argWord body 7 ∨ 3 < argByte body 12 →
      exec (.bandIssue tag body) s = .next ((u.replied tag .range .none).emptyTest e).arbitrate) ∧
    (argLong body 2 ≠ 0 → argByte body 6 ≤ 7 → argWord body 7 ≤ 1440 → argByte body 12 ≤ 3 →
      (rec.state = .issued ∨ rec.state = .inside ∨ rec.state = .barred ∨ (∃ k, (s.locker k).owner = some n) ∨
          (∃ k, n ∈ (s.locker k).companions) ∨ (∃ c, (s.cabin c).holder = some n) →
        exec (.bandIssue tag body) s = .next ((u.replied tag .state .none).emptyTest e).arbitrate) ∧
      (rec.state = .free ∨ rec.state = .returned → (∀ k, (s.locker k).owner ≠ some n) →
          (∀ k, n ∉ (s.locker k).companions) → (∀ c, (s.cabin c).holder ≠ some n) →
        exec (.bandIssue tag body) s = .next ((u.changed e n {
          state := .issued
          beforeBar := none
          serial := argLong body 2
          cls := Fin.ofNat 8 (argByte body 6)
          paid := argWord body 7
          entry := none
          credit := argWord body 9
          settled := 0
          mask := byteAt body 11
          cabinRight := (byteAt body 12).getLsbD 0
          master := (byteAt body 12).getLsbD 1 }).replyStored tag e .none).arbitrate))

/-- BAND AMEND at a band whose record is held (R21): the five fields of a band in use take the values sent and the
others are kept; values equal to those held are replied OK at once; else RANGE or STATE with no change. -/
def Obligations.BandAmend : Prop :=
  ∀ (s : State) (tag : Byte) (body : List Byte) (n : BandNo) (e : EntryNo) (rec : BandRecord),
    s.Asks .bandAmend body 0 n e rec →
    let u := (s.taken .bandAmend tag).usedLast e
    let now : BandRecord := { rec with
      cls := Fin.ofNat 8 (argByte body 2)
      paid := argWord body 3
      mask := byteAt body 5
      cabinRight := (byteAt body 6).getLsbD 0
      master := (byteAt body 6).getLsbD 1 }
    (7 < argByte body 2 ∨ 1440 < argWord body 3 ∨ 3 < argByte body 6 →
      exec (.bandAmend tag body) s = .next ((u.replied tag .range .none).emptyTest e).arbitrate) ∧
    (argByte body 2 ≤ 7 → argWord body 3 ≤ 1440 → argByte body 6 ≤ 3 →
      (rec.state = .free ∨ rec.state = .returned →
        exec (.bandAmend tag body) s = .next ((u.replied tag .state .none).emptyTest e).arbitrate) ∧
      (rec.state ≠ .free → rec.state ≠ .returned → now = rec →
        exec (.bandAmend tag body) s = .next (u.replied tag .ok .none).arbitrate) ∧
      (rec.state ≠ .free → rec.state ≠ .returned → now ≠ rec →
        exec (.bandAmend tag body) s = .next ((u.changed e n now).replyStored tag e .none).arbitrate))

/-- BAND TOPUP and BAND SETTLE at a band whose record is held (R22): credit, or settled, becomes the smaller of 65535
and its value plus the amount, replied with the amount applied and the new value; an applied amount of 0 is replied OK
at once; a FREE or RETURNED band is replied STATE. `v` and `w` are the new values. -/
def Obligations.BandTopupSettle : Prop :=
  ∀ (s : State) (tag : Byte) (body : List Byte) (n : BandNo) (e : EntryNo) (rec : BandRecord),
    let v := min 65535 (rec.credit + argWord body 2)
    let w := min 65535 (rec.settled + argWord body 2)
    let u := (s.taken .bandTopup tag).usedLast e
    let x := (s.taken .bandSettle tag).usedLast e
    (s.Asks .bandTopup body 0 n e rec →
      (rec.state = .free ∨ rec.state = .returned →
        exec (.bandTopup tag body) s = .next ((u.replied tag .state .none).emptyTest e).arbitrate) ∧
      (rec.state ≠ .free → rec.state ≠ .returned → v = rec.credit →
        exec (.bandTopup tag body) s = .next (u.replied tag .ok (.money 0 v)).arbitrate) ∧
      (rec.state ≠ .free → rec.state ≠ .returned → v ≠ rec.credit →
        exec (.bandTopup tag body) s =
          .next ((u.changed e n { rec with credit := v }).replyStored tag e (.money (v - rec.credit) v)).arbitrate)) ∧
    (s.Asks .bandSettle body 0 n e rec →
      (rec.state = .free ∨ rec.state = .returned →
        exec (.bandSettle tag body) s = .next ((x.replied tag .state .none).emptyTest e).arbitrate) ∧
      (rec.state ≠ .free → rec.state ≠ .returned → w = rec.settled →
        exec (.bandSettle tag body) s = .next (x.replied tag .ok (.money 0 w)).arbitrate) ∧
      (rec.state ≠ .free → rec.state ≠ .returned → w ≠ rec.settled →
        exec (.bandSettle tag body) s =
          .next ((x.changed e n { rec with settled := w }).replyStored tag e (.money (w - rec.settled) w)).arbitrate))

/-- BAND BAR and BAND UNBAR at a band whose record is held (R23): BAR sets the state before bar to the present state
and the state to BARRED, and the cabin unit and the lane unit react at the same service; UNBAR sets the state back and
removes that field, and no other block reacts; from any other state, STATE with no change. BAND RETURN at a band whose
record is held (R24): STATE from FREE or RETURNED, and while the locker the band owns is LOCKING or UNLOCKING; else the
state is RETURNED, the entry stamp and the state before bar are absent, and the locker engine, the cabin unit and the
lane unit react at the same service. The reactions: at a RETURN (R63) an owned OPENED locker is VACANT, a LOCKED one
ABANDONED with LOCKER_ABANDONED, a FORCED or JAMMED one ownerless; at an exit (R62) an owned OPENED locker is VACANT; at
either the band leaves a companion list; at a RETURN or BAR a cabin the band holds is released or its claim cancelled
(R106), and an entry lane armed with the band is disarmed, its entry closed CANCELLED (R136). -/
def Obligations.BandBarUnbarReturn : Prop :=
  (∀ (s : State) (tag : Byte) (body : List Byte) (n : BandNo) (e : EntryNo) (rec : BandRecord),
     let u := (s.taken .bandBar tag).usedLast e
     let x := (s.taken .bandUnbar tag).usedLast e
     (s.Asks .bandBar body 0 n e rec →
       (∀ b : BeforeBar, (rec.state = .issued ∧ b = .issued) ∨ (rec.state = .inside ∧ b = .inside) →
         exec (.bandBar tag body) s = .next ((((u.cabinBandLeaves n).laneBandLeaves n).changed e n
           { rec with state := .barred, beforeBar := some b }).replyStored tag e .none).arbitrate) ∧
       (rec.state ≠ .issued → rec.state ≠ .inside →
         exec (.bandBar tag body) s = .next ((u.replied tag .state .none).emptyTest e).arbitrate)) ∧
     (s.Asks .bandUnbar body 0 n e rec →
       (∀ st : BandState, (rec.beforeBar = some .issued ∧ st = .issued) ∨
           (rec.beforeBar = some .inside ∧ st = .inside) → rec.state = .barred →
         exec (.bandUnbar tag body) s =
           .next ((x.changed e n { rec with state := st, beforeBar := none }).replyStored tag e .none).arbitrate) ∧
       (rec.state ≠ .barred →
         exec (.bandUnbar tag body) s = .next ((x.replied tag .state .none).emptyTest e).arbitrate))) ∧
  (∀ (s : State) (tag : Byte) (body : List Byte) (n : BandNo) (e : EntryNo) (rec : BandRecord),
     s.Asks .bandReturn body 0 n e rec →
     let u := (s.taken .bandReturn tag).usedLast e
     (rec.state = .free ∨ rec.state = .returned ∨
         (∃ k, s.ownedLocker n = some k ∧ ((s.locker k).state = .locking ∨ (s.locker k).state = .unlocking)) →
       exec (.bandReturn tag body) s = .next ((u.replied tag .state .none).emptyTest e).arbitrate) ∧
     (rec.state ≠ .free → rec.state ≠ .returned →
       (∀ k, s.ownedLocker n = some k → (s.locker k).state ≠ .locking ∧ (s.locker k).state ≠ .unlocking) →
       exec (.bandReturn tag body) s = .next (((((u.lockerReturn n).cabinBandLeaves n).laneBandLeaves n).changed e n
         { rec with state := .returned, entry := none, beforeBar := none }).replyStored tag e .none).arbitrate)) ∧
  (∀ (s : State) (b : BandNo),
     let gone (k : LockerNo) (st : LockerState) : State :=
       s.setLocker k { s.locker k with state := st, owner := none, companions := [], dirty := true }
     ((∀ k, (s.locker k).owner ≠ some b) → (∀ k, b ∉ (s.locker k).companions) →
       s.lockerReturn b = s ∧ s.lockerExit b = s) ∧
     (∀ k, (s.locker k).owner = some b → (∀ j, j ≠ k → (s.locker j).owner ≠ some b) →
       (∀ j, b ∉ (s.locker j).companions) →
       ((s.locker k).state = .opened → s.lockerReturn b = gone k .vacant ∧ s.lockerExit b = gone k .vacant) ∧
       ((s.locker k).state = .locked → s.lockerReturn b = (gone k .abandoned).post .lockerAbandoned (.locker k)) ∧
       ((s.locker k).state = .forced ∨ (s.locker k).state = .jammed →
         s.lockerReturn b = gone k (s.locker k).state)) ∧
     (∀ k, b ∈ (s.locker k).companions → (∀ j, j ≠ k → b ∉ (s.locker j).companions) →
       (∀ j, (s.locker j).owner ≠ some b) →
       let left := s.setLocker k { s.locker k with
         companions := (s.locker k).companions.filter (fun c => c ≠ b), dirty := true }
       s.lockerReturn b = left ∧ s.lockerExit b = left) ∧
     (∀ k j, (s.locker k).owner = some b → (∀ i, i ≠ k → (s.locker i).owner ≠ some b) →
       b ∈ (s.locker j).companions → (∀ i, i ≠ j → b ∉ (s.locker i).companions) → j ≠ k →
       let left (t : State) : State := t.setLocker j { s.locker j with
         companions := (s.locker j).companions.filter (fun c => c ≠ b), dirty := true }
       ((s.locker k).state = .opened →
         s.lockerReturn b = left (gone k .vacant) ∧ s.lockerExit b = left (gone k .vacant)) ∧
       ((s.locker k).state = .locked →
         s.lockerReturn b = left ((gone k .abandoned).post .lockerAbandoned (.locker k))) ∧
       ((s.locker k).state = .forced ∨ (s.locker k).state = .jammed →
         s.lockerReturn b = left (gone k (s.locker k).state)))) ∧
  (∀ (s : State) (b : BandNo),
     ((∀ c, (s.cabin c).holder ≠ some b) → s.cabinBandLeaves b = s) ∧
     (∀ c, (s.cabin c).holder = some b → (∀ d, d ≠ c → (s.cabin d).holder ≠ some b) →
       let x := s.cabin c
       (∀ w, x.state = .closing → x.work = some w → w.sub = .queued → s.cabinBandLeaves b =
         ((s.setString 8 { s.string 8 with
           queue := s.pulsesWithout 8 (cabinPosition c) }).setCabin c
             ⟨.free, none, none, false, none, none, false, false, none, none⟩).journalClose x.link (.cabin c)
               .cancelled) ∧
       (∀ w, x.state = .closing → x.work = some w → w.sub ≠ .queued →
         s.cabinBandLeaves b = s.setCabin c { x with releaseMark := true }) ∧
       (x.state = .held ∨ x.state = .overdue → s.cabinBandLeaves b = (s.setCabin c { x with
         state := .opening
         work := some ⟨.release, none, .desk, s.clock.value, x.state, .queued⟩
         retryUsed := false
         expiryMark := false
         releaseMark := false
         window := none }).setString 8 { s.string 8 with
           queue := s.pulsesWith 8 (cabinPosition c) .withdraw }) ∧
       (∀ w, x.state = .opening → x.work = some w →
         (w.action = .opn → s.cabinBandLeaves b = s.setCabin c { x with work := some { w with
           action := .release, party := .desk, stamp := s.clock.value, band := none } }) ∧
         (w.action ≠ .opn → s.cabinBandLeaves b = s))) ∧
     let armed (l : LaneNo) : Prop := s.settings.roles[l.val] = .entry ∧ ∃ a, (s.lane l).arm = some a ∧ a.band = some b
     ((∀ l, ¬armed l) → s.laneBandLeaves b = s) ∧
     (∀ l, armed l → (∀ m, m ≠ l → ¬armed m) → s.laneBandLeaves b = (s.setLane l { s.lane l with
       arm := none, link := none, turnstile := (s.lane l).service && (s.lane l).turnstile }).journalClose
         (s.lane l).link (.lane l) .cancelled))

/-- The eight band requests, STAY QUERY with the clock set (R124), and LOCKER ASSIGN and LOCKER SHARE at a locker on a
FITTED string (R65), at a band the cache does not hold (R5, R6, R18), while the band unit takes operations: a number at
or above the table length is replied RANGE; in FAULT, STORE; with all 320 wait list items held, or no entry to take,
BUSY; else the lowest-numbered EMPTY entry, or without one the least recently used that may be evicted, becomes FILLING
with the request as its first waiter, and a FETCH joins the tail of the queue. At a FILLING entry the request joins the
wait list, or is replied BUSY with all 320 items held. While a STORE FORMAT runs (R177) every band operation ends BUSY,
whatever its number; such a request meets the outstanding format first, and the commit of a lane is kept and sent again
(R131). -/
def Obligations.BandFill : Prop :=
  (∀ (s : State) (q : Request) (tag : Byte) (body : List Byte) (i : Nat) (w : BandRequest),
     s.takes q body → s.AsksFor q body i w → s.bandService = true →
     let u := s.taken q tag
     (s.tableLength ≤ argWord body i →
       exec (q.command tag body) s = .next (u.replied tag .range .none).arbitrate) ∧
     (∀ n : BandNo, argWord body i = n.val → n.val < s.tableLength → s.entryOf n = none →
       (s.band.port = .fault → exec (q.command tag body) s = .next (u.replied tag .store .none).arbitrate) ∧
       (s.band.port ≠ .fault → 320 ≤ s.itemsHeld →
         exec (q.command tag body) s = .next (u.replied tag .busy .none).arbitrate) ∧
       (s.band.port ≠ .fault → (∀ e, (s.entry e).content ≠ .empty ∧ (s.entry e).evictable = false) →
         exec (q.command tag body) s = .next (u.replied tag .busy .none).arbitrate) ∧
       (∀ e, s.band.port ≠ .fault → s.itemsHeld < 320 → (s.entry e).content = .empty →
         (∀ f, f < e → (s.entry f).content ≠ .empty) →
         exec (q.command tag body) s = .next (u.setBand { s.band with
           cache := s.band.cache.set e.val ⟨.filling n, [.request w], false⟩
           lastUse := s.band.lastUse.filter (fun f => f ≠ e)
           queue := s.band.queue ++ [.fetch e] }).arbitrate) ∧
       (∀ older e newer, s.band.port ≠ .fault → s.itemsHeld < 320 → (∀ f, (s.entry f).content ≠ .empty) →
         s.band.lastUse = older ++ e :: newer → (∀ f ∈ older, (s.entry f).evictable = false) →
         (s.entry e).evictable = true →
         exec (q.command tag body) s = .next (u.setBand { s.band with
           cache := s.band.cache.set e.val ⟨.filling n, [.request w], false⟩
           lastUse := s.band.lastUse.filter (fun f => f ≠ e)
           queue := s.band.queue ++ [.fetch e] }).arbitrate)) ∧
     (∀ (n : BandNo) (e : EntryNo), argWord body i = n.val → n.val < s.tableLength →
       s.entryOf n = some e → (s.entry e).content = .filling n → s.itemsHeld < 320 →
       exec (q.command tag body) s = .next (u.setBand { s.band with
         cache := s.band.cache.set e.val { s.entry e with
           waiters := (s.entry e).waiters ++ [.request w] } }).arbitrate) ∧
     (∀ (n : BandNo) (e : EntryNo), argWord body i = n.val → n.val < s.tableLength →
       s.entryOf n = some e → (s.entry e).content = .filling n → 320 ≤ s.itemsHeld →
       exec (q.command tag body) s = .next (u.replied tag .busy .none).arbitrate)) ∧
  (∀ (s : State) (l : LaneNo) (b : BandNo) (stamp : Stamp), s.bandService = false →
     (s.lane l).commit = some ⟨b, stamp, true⟩ → exec (.commitRetryExpiry l) s = .next s.arbitrate)

/-! ### Store transfers -/

/-- A FETCH that completes with a good record (R7): the entry becomes VALID at the most recently used end, its waiters
are served in their order, and the emptying test is made behind the last, as written out for one BAND READ and for one
superseded lookup (R19, R27). At its service (R5) a lookup is decided (R32), a commit admits the band (R131), and a
change is written through (R9); a band request, a STAY QUERY, a LOCKER ASSIGN and a LOCKER SHARE are served at a fill
as where the record is held. A FETCH that ends in the winding-down interval or while a STORE FORMAT runs (R4, R177):
its record is not taken, the entry is emptied and the waiters end BUSY in their order. The bytes are those the memory
answers (log 11). A FETCH that completes with a DAMAGED record (R8): RECORD_DAMAGED is posted for the band; a request
that waits, but for a BAND ISSUE, is replied STORE, a lookup refused STORE, a commit abandoned (R131), and the entry is
emptied; a BAND ISSUE with arguments in range, for a band that owns and holds nothing, is served against a FREE record,
and its record is written by R9. The damaged bytes stay in the store. At the ownership check of start-up (R174): the
owner of an ISSUED, INSIDE or BARRED band is kept, and a companion of an ISSUED or INSIDE one; any other owner is
cleared with the companions, LOCKED going to ABANDONED and OPENED to VACANT, and any other companion is removed; a
DAMAGED record counts as such a band. While operations are left the sequence waits; behind the last one of the last
locker to be checked the held settings are applied (R175); what the apply step does to unfitted lockers and to the
beams is the model's choice (logs 36, 18). -/
def Obligations.FetchCompletes : Prop :=
  (∀ (s : State) (seen : Option (List Byte)) (e : EntryNo) (n : BandNo) (r : Bool) (rec : BandRecord),
     let st := s.store.seen (256 + 32 * n.val) 32 seen
     s.band.inFlight = some ⟨.fetch e n, r⟩ → s.bandService = true → s.part.startup = .done →
     judgeRecord (st.bytes (256 + 32 * n.val) 32) = some rec →
     let filled : State := (s.setStore st).setBand { s.band with
       port := .ready
       inFlight := none
       cache := s.band.cache.set e.val ⟨.valid n rec, [], false⟩
       lastUse := s.band.lastUse.filter (fun f => f ≠ e) ++ [e] }
     let emptied : State := (s.setStore st).setBand { s.band with
       port := .ready
       inFlight := none
       cache := s.band.cache.set e.val CacheEntry.atReset
       lastUse := s.band.lastUse.filter (fun f => f ≠ e) }
     let left := if rec.state = .free ∨ rec.state = .returned then emptied else filled
     (∀ o, s.link.outstanding = some o → (s.entry e).waiters = [.request .read] →
       exec (.fetchComplete seen) s =
         .next (left.replied o.tag .ok (.bandRecord n rec.encode)).arbitrate) ∧
     (∀ h p, p.superseded = true → (s.entry e).waiters = [.lookup h p] →
       exec (.fetchComplete seen) s = .next left.arbitrate) ∧
     exec (.fetchComplete seen) s = .next
       (((s.entry e).waiters.foldl (fun t w => t.serveAt e w) filled).emptyTest e).arbitrate) ∧
  (∀ (s : State) (e : EntryNo) (n : BandNo) (rec : BandRecord), (s.entry e).content = .valid n rec →
     let u := s.usedLast e
     (∀ h p, let d := u.decidePresentation h p rec
       s.serveAt e (.lookup h p) = if d.2 = rec then d.1 else d.1.changed e n d.2) ∧
     (∀ l stamp, let c := u.setLane l { s.lane l with commit := none }
       (rec.state = .issued → s.serveAt e (.commit l stamp) =
         c.changed e n { rec with state := .inside, entry := some stamp }) ∧
       (rec.state = .barred → rec.beforeBar = some .issued → s.serveAt e (.commit l stamp) =
         c.changed e n { rec with beforeBar := some .inside, entry := some stamp }) ∧
       (rec.state ≠ .issued → ¬(rec.state = .barred ∧ rec.beforeBar = some .issued) →
         s.serveAt e (.commit l stamp) = c)) ∧
     (∀ q tag body i w, s.AsksFor q body i w → s.Asks q body i n e rec →
       exec (q.command tag body) s = .next (((s.taken q tag).serveAt e (.request w)).emptyTest e).arbitrate)) ∧
  (∀ (s : State) (seen : Option (List Byte)) (e : EntryNo) (n : BandNo) (r : Bool),
     s.band.inFlight = some ⟨.fetch e n, r⟩ → s.part.winding = true ∨ s.band.format.isSome = true →
     (∀ w ∈ (s.entry e).waiters, w.isCheck = false) →
     exec (.fetchComplete seen) s = .next
       (((s.setStore (s.store.seen (256 + 32 * n.val) 32 seen)).portReady).droppedBusy e).arbitrate) ∧
  (∀ (s : State) (seen : Option (List Byte)) (e : EntryNo) (n : BandNo) (r : Bool) (o : Outstanding),
     let st := s.store.seen (256 + 32 * n.val) 32 seen
     s.band.inFlight = some ⟨.fetch e n, r⟩ → s.bandService = true → s.part.startup = .done →
     s.link.outstanding = some o → judgeRecord (st.bytes (256 + 32 * n.val) 32) = none →
     let u : State := ((s.setStore st).portReady).post .recordDamaged (.band n)
     (∀ w, (s.entry e).waiters = [w] → w.isIssue = false → w.isCheck = false →
       exec (.fetchComplete seen) s = .next ((u.dropped e).endedWith .store w).arbitrate) ∧
     (∀ w, (s.entry e).waiters = [.request w] → Waiter.isIssue (.request w) = false →
       exec (.fetchComplete seen) s = .next ((u.setBand { u.band with
         cache := s.band.cache.set e.val CacheEntry.atReset
         lastUse := s.band.lastUse.filter (fun f => f ≠ e) }).replied o.tag .store .none).arbitrate) ∧
     (∀ serial cls paid credit mask rights, (s.entry e).waiters = [.request (.issue serial cls paid credit mask rights)] →
       serial ≠ 0 → cls ≤ 7 → paid ≤ 1440 → rights.toNat ≤ 3 → (∀ k, (s.locker k).owner ≠ some n) →
       (∀ k, n ∉ (s.locker k).companions) → (∀ c, (s.cabin c).holder ≠ some n) → .write e ∉ s.band.queue →
       exec (.fetchComplete seen) s = .next (u.setBand { u.band with
         cache := s.band.cache.set e.val ⟨.valid n ⟨.issued, none, serial, Fin.ofNat 8 cls, paid, none, credit, 0, mask,
           rights.getLsbD 0, rights.getLsbD 1⟩, [], true⟩
         lastUse := s.band.lastUse.filter (fun f => f ≠ e) ++ [e]
         queue := s.band.queue ++ [.write e]
         replyWait := some ⟨.entry e, .none, false⟩ }).arbitrate)) ∧
  (∀ (s : State) (seen : Option (List Byte)) (e : EntryNo) (n : BandNo) (r : Bool) (k : LockerNo) (left : Nat)
     (held : Settings),
     let st := s.store.seen (256 + 32 * n.val) 32 seen
     let judged := judgeRecord (st.bytes (256 + 32 * n.val) 32)
     s.band.inFlight = some ⟨.fetch e n, r⟩ → s.bandService = true →
     s.part = ⟨.starting, false, .ownership k (left + 1) held⟩ →
     let l := s.locker k
     let u := ((s.setStore st).portReady).setPart ⟨.starting, false, .ownership k left held⟩
     let valid (t : State) (rec : BandRecord) : State := t.setBand { t.band with
       cache := s.band.cache.set e.val ⟨.valid n rec, [], false⟩
       lastUse := s.band.lastUse.filter (fun f => f ≠ e) ++ [e] }
     let emptied (t : State) : State := t.setBand { t.band with
       cache := s.band.cache.set e.val CacheEntry.atReset
       lastUse := s.band.lastUse.filter (fun f => f ≠ e) }
     let cleared : State := u.setLocker k { l with
       state := if l.state = .locked then .abandoned else if l.state = .opened then .vacant else l.state
       owner := none
       companions := []
       dirty := true }
     let removed : State := if n ∈ l.companions
       then u.setLocker k { l with companions := l.companions.filter (fun c => c ≠ n), dirty := true } else u
     (1 ≤ left →
       ((s.entry e).waiters = [.ownerCheck k] →
         (∀ rec, judged = some rec → rec.state = .issued ∨ rec.state = .inside ∨ rec.state = .barred →
           exec (.fetchComplete seen) s = .next (valid u rec).arbitrate) ∧
         (∀ rec, judged = some rec → rec.state = .free ∨ rec.state = .returned →
           exec (.fetchComplete seen) s = .next (emptied cleared).arbitrate) ∧
         (judged = none →
           exec (.fetchComplete seen) s = .next (emptied (cleared.post .recordDamaged (.band n))).arbitrate)) ∧
       ((s.entry e).waiters = [.companionCheck k] →
         (∀ rec, judged = some rec → rec.state = .issued ∨ rec.state = .inside →
           exec (.fetchComplete seen) s = .next (valid u rec).arbitrate) ∧
         (∀ rec, judged = some rec → rec.state = .barred →
           exec (.fetchComplete seen) s = .next (valid removed rec).arbitrate) ∧
         (∀ rec, judged = some rec → rec.state = .free ∨ rec.state = .returned →
           exec (.fetchComplete seen) s = .next (emptied removed).arbitrate) ∧
         (judged = none →
           exec (.fetchComplete seen) s = .next (emptied (removed.post .recordDamaged (.band n))).arbitrate))) ∧
     (∀ rec, left = 0 → (s.entry e).waiters = [.ownerCheck k] → judged = some rec →
       rec.state = .issued ∨ rec.state = .inside ∨ rec.state = .barred → 1 ≤ held.fittedStrings →
       (∀ j, k < j → (s.locker j).owner = none ∧ (s.locker j).companions = []) →
       ∃ t : State, exec (.fetchComplete seen) s = .next t.arbitrate ∧ (valid u rec).Applied t held))

/-- A WRITE completes (R10): the bytes captured at its start stand in the store, the port is READY, and where no other
WRITE for the entry waits the write-pending mark is clear and the emptying test of R7 made. The reply that waited on this
WRITE is sent, OK with the data fixed at its service, also where another WRITE for the entry waits; a reply that waits
on another write waits on. A HEADER WRITE, a MIRROR WRITE and a write of the format sequence complete (R11, R13, R177):
the bytes captured at the start stand in the store and the port is READY; the reply that waited on the header is sent
OK; a MIRROR WRITE changes nothing else; the format goes on to its next write, or after the last one empties the cache
and is replied OK. -/
def Obligations.WritesComplete : Prop :=
  (∀ (s : State) (e : EntryNo) (n : BandNo) (bs : List Byte) (r : Bool), s.band.inFlight = some ⟨.write e n bs, r⟩ →
     let u := (s.setStore (s.store.write (256 + 32 * n.val) bs)).portReady
     let clear := u.setBand { u.band with cache := s.band.cache.set e.val { s.entry e with writePending := false } }
     let waits : Prop := ∀ w, s.band.replyWait = some w → w.target ≠ .entry e ∨ w.started = false
     (.write e ∉ s.band.queue → waits → exec .writeComplete s = .next (clear.emptyTest e).arbitrate) ∧
     (.write e ∈ s.band.queue → waits → exec .writeComplete s = .next u.arbitrate) ∧
     (∀ o data, s.band.replyWait = some ⟨.entry e, data, true⟩ → s.link.outstanding = some o →
       (.write e ∉ s.band.queue → exec .writeComplete s =
         .next (((clear.setBand { clear.band with replyWait := none }).replied o.tag .ok data).emptyTest e).arbitrate) ∧
       (.write e ∈ s.band.queue → exec .writeComplete s =
         .next ((u.setBand { u.band with replyWait := none }).replied o.tag .ok data).arbitrate))) ∧
  (∀ (s : State) (r : Bool),
     (∀ bs, s.band.inFlight = some ⟨.headerWrite bs, r⟩ →
       (∀ o data, s.link.outstanding = some o → s.band.replyWait = some ⟨.header, data, true⟩ →
         exec .headerWriteComplete s = .next ((((s.setStore (s.store.write 0 bs)).portReady).setBand
           { s.band with port := .ready, inFlight := none, replyWait := none }).replied o.tag .ok data).arbitrate) ∧
       ((∀ w, s.band.replyWait = some w → w.target ≠ .header ∨ w.started = false) → exec .headerWriteComplete s =
         .next ((s.setStore (s.store.write 0 bs)).portReady).arbitrate)) ∧
     (∀ k a bs, s.band.inFlight = some ⟨.mirrorWrite k a bs, r⟩ → exec .mirrorWriteComplete s =
       .next ((s.setStore (s.store.write a bs)).portReady).arbitrate) ∧
     (∀ a bs i, s.band.inFlight = some ⟨.formatWrite a bs, r⟩ → s.band.format = some (.writing i) →
       (i < s.tableLength + 256 → exec .formatWriteComplete s = .next ((s.setStore (s.store.write a bs)).setBand
         { s.band with port := .ready, inFlight := none, format := some (.writing (i + 1)) }).arbitrate) ∧
       (∀ o, s.tableLength + 256 ≤ i → s.link.outstanding = some o → exec .formatWriteComplete s =
         .next (((s.setStore (s.store.write a bs)).setBand { s.band with
           port := .ready
           inFlight := none
           cache := Vector.replicate 32 CacheEntry.atReset
           lastUse := []
           format := some .ended }).setLink { s.link with
             replies := s.link.replies ++ [⟨o.tag, .ok, .none, true, true⟩] }).arbitrate)))

/-- STORE FORMAT at its service (R177): a table length below 256, above 2048 or not a whole multiple of 256 is replied
RANGE; another is held at once, the queue and the dirty marks are emptied, the waiters of each queued FETCH end BUSY
and its entry is emptied, a port in FAULT becomes READY with fairness count 0, and the sequence starts. That the table
length is held, and queue and dirty marks are emptied, at the service, also while a transfer is in flight, is the
model's choice (log 26), and so is that several queued FETCHes end in the order of the queue (log 39). The writes of
the format sequence in their order, started by a free port (R177): first the header, then every band record as 32 bytes
of 00h, then every mirror record as VACANT with no owner and no companions. -/
def Obligations.StoreFormats : Prop :=
  (∀ (s : State) (tag : Byte) (body : List Byte), s.takes .storeFormat body →
     let u := s.taken .storeFormat tag
     (argWord body 0 < 256 ∨ 2048 < argWord body 0 ∨ argWord body 0 % 256 ≠ 0 →
       exec (.storeFormat tag body) s = .next (u.replied tag .range .none).arbitrate) ∧
     (∀ units : Fin 8, argWord body 0 = 256 * (units.val + 1) → (∀ e, .fetch e ∉ s.band.queue) →
       exec (.storeFormat tag body) s = .next (((u.setSettings { s.settings with tableUnits := units }).setBand
         { s.band with
           queue := []
           format := some .draining
           port := if s.band.port = .fault then .ready else s.band.port
           fairness := if s.band.port = .fault then 0 else s.band.fairness }).setLockers { s.lockers with
             table := s.lockers.table.map (fun l => { l with dirty := false }) }).arbitrate) ∧
     (∀ units : Fin 8, argWord body 0 = 256 * (units.val + 1) →
       (∀ e, ∀ w ∈ (s.entry e).waiters, w.isCheck = false) →
       let fetches := s.band.queue.filterMap (fun q => match q with
         | .fetch e => some e
         | _ => none)
       let ended := fetches.foldl State.droppedBusy ((u.setSettings { s.settings with tableUnits := units }).setBand
         { s.band with
           queue := []
           format := some .draining
           port := if s.band.port = .fault then .ready else s.band.port
           fairness := if s.band.port = .fault then 0 else s.band.fairness })
       exec (.storeFormat tag body) s = .next (ended.setLockers { ended.lockers with
         table := ended.lockers.table.map (fun l => { l with dirty := false }) }).arbitrate)) ∧
  (∀ s : State, s.band.port = .ready → s.band.inFlight = none → s.part.startup = .done →
     (s.band.format = some .draining → s.arbitrate.band = { s.band with
       port := .transfer, format := some (.writing 0)
       inFlight := some ⟨.formatWrite 0 s.settings.encodeHeader, false⟩ }) ∧
     (∀ n : Nat, n < s.tableLength → s.band.format = some (.writing (n + 1)) → s.arbitrate.band = { s.band with
       port := .transfer
       inFlight := some ⟨.formatWrite (256 + 32 * n) (List.replicate 32 0), false⟩ }) ∧
     (∀ k : LockerNo, s.band.format = some (.writing (s.tableLength + 1 + k.val)) → s.arbitrate.band = { s.band with
       port := .transfer
       inFlight := some ⟨.formatWrite (256 + 32 * s.tableLength + 16 * k.val)
         (MirrorImage.encode ⟨.vacant, none, []⟩), false⟩ }))

/-- A transfer ends with no response (R14, R15). The first time it is started again with the same content. The second
time the port enters FAULT and STORE_FAULT is posted. While start-up reads (R172 to R174, R176), NO_STORE: queue, cache
and port are at their reset values, the default settings and the locker table's reset values stand. Past the reads,
with no format: a FETCH's request, its presentation or its commit, which is abandoned (R131), ends STORE and its entry
is emptied; a WRITE or HEADER WRITE returns to the head of the queue in place of one that waits behind it; a MIRROR
WRITE's locker is dirty again; a reply waiting on a held write is STORE at once with its data; a FETCH still queued is
removed, its request, presentation or commit ends STORE and its entry is emptied. A write of the format sequence ends
the format, which is replied STORE (R177). A FETCH in flight at the service of STORE FORMAT or at the beginning of the
winding-down interval ends its waiters BUSY also where it fails, which is the model's choice (log 47). So is that the
store is as it was: what an unanswered write has left in the memory the next state does not show (log 14). So is that
STORE_FAULT is posted before the journal unit's notices of the refusal entries (log 45). -/
def Obligations.NoResponse : Prop :=
  ∀ (s : State) (x : Transfer),
    (s.band.inFlight = some ⟨x, false⟩ → exec .transferTimeout s =
      .next (s.setBand { s.band with inFlight := some ⟨x, true⟩ }).arbitrate) ∧
    (s.band.inFlight = some ⟨x, true⟩ → s.part.startup ≠ .establishing → s.part.startup ≠ .done →
      ∃ t : State, exec .transferTimeout s = .next t.arbitrate ∧ t.part = ⟨.noStore, false, .done⟩ ∧
        t.band = BandUnit.atReset ∧ t.settings = Settings.default ∧ (∀ k, t.locker k = Locker.atReset) ∧
        t.link = (s.post .storeFault .none).link ∧ t.store = s.store) ∧
    (s.band.inFlight = some ⟨x, true⟩ → s.part.startup = .establishing ∨ s.part.startup = .done →
      s.part.winding = false →
      let u := (s.setBand { s.band with port := .fault, inFlight := none }).post .storeFault .none
      let answered (t : State) : State := match s.band.replyWait, s.link.outstanding with
        | some w, some o => (t.setBand { t.band with replyWait := none }).replied o.tag .store w.data
        | _, _ => t
      (s.band.format = none → s.band.replyWait.isSome = true → s.link.outstanding.isSome = true →
        (∀ e, .fetch e ∉ s.band.queue) →
        (∀ e n bs, x = .write e n bs → exec .transferTimeout s = .next (answered (u.setBand { u.band with
          queue := .write e :: s.band.queue.filter (fun q => q ≠ .write e) })).arbitrate) ∧
        (∀ bs, x = .headerWrite bs → exec .transferTimeout s = .next (answered (u.setBand { u.band with
          queue := .headerWrite :: s.band.queue.filter (fun q => q ≠ .headerWrite) })).arbitrate) ∧
        (∀ k a bs, x = .mirrorWrite k a bs → exec .transferTimeout s = .next (answered (u.setLockers { s.lockers with
          table := s.lockers.table.set k.val { s.locker k with dirty := true } })).arbitrate)) ∧
      (∀ e n, s.band.format = none → (s.band.replyWait.isSome = true → s.link.outstanding.isSome = true) →
        (∀ e, .fetch e ∉ s.band.queue) → x = .fetch e n →
        (∀ h p, (s.entry e).waiters = [.lookup h p] → exec .transferTimeout s = .next (answered (if p.superseded = true
          then u.dropped e else (u.dropped e).conclude h p (.refuse .store) .owner)).arbitrate) ∧
        (∀ l stamp, (s.entry e).waiters = [.commit l stamp] → exec .transferTimeout s = .next (answered
          ((u.dropped e).setLane l { s.lane l with commit := none })).arbitrate)) ∧
      (s.band.format = none → s.band.replyWait = none → (∀ e, .fetch e ∉ s.band.queue) →
        (∀ e n o w, x = .fetch e n → s.link.outstanding = some o → (s.entry e).waiters = [.request w] →
          exec .transferTimeout s = .next ((u.setBand { u.band with
            cache := s.band.cache.set e.val CacheEntry.atReset
            lastUse := s.band.lastUse.filter (fun f => f ≠ e) }).replied o.tag .store .none).arbitrate) ∧
        (∀ e n bs, x = .write e n bs → exec .transferTimeout s = .next (u.setBand { u.band with
          queue := .write e :: s.band.queue.filter (fun q => q ≠ .write e) }).arbitrate) ∧
        (∀ bs, x = .headerWrite bs → exec .transferTimeout s = .next (u.setBand { u.band with
          queue := .headerWrite :: s.band.queue.filter (fun q => q ≠ .headerWrite) }).arbitrate) ∧
        (∀ k a bs, x = .mirrorWrite k a bs → exec .transferTimeout s =
          .next (u.setLockers { s.lockers with
            table := s.lockers.table.set k.val { s.locker k with dirty := true } }).arbitrate)) ∧
      (∀ k a bs e before behind, s.band.format = none → s.band.replyWait = none → x = .mirrorWrite k a bs →
        s.band.queue = before ++ .fetch e :: behind → (∀ f, .fetch f ∉ before ++ behind) →
        let emptied : State := (u.setBand { u.band with
          cache := s.band.cache.set e.val CacheEntry.atReset
          lastUse := s.band.lastUse.filter (fun f => f ≠ e)
          queue := before ++ behind }).setLockers { s.lockers with
            table := s.lockers.table.set k.val { s.locker k with dirty := true } }
        (∀ o w, s.link.outstanding = some o → (s.entry e).waiters = [.request w] →
          exec .transferTimeout s = .next (emptied.replied o.tag .store .none).arbitrate) ∧
        (∀ h p, (s.entry e).waiters = [.lookup h p] → exec .transferTimeout s = .next (if p.superseded = true
          then emptied else emptied.conclude h p (.refuse .store) .owner).arbitrate) ∧
        (∀ l stamp, (s.entry e).waiters = [.commit l stamp] → exec .transferTimeout s =
          .next (emptied.setLane l { s.lane l with commit := none }).arbitrate)) ∧
      (∀ e n o, x = .fetch e n → s.band.format = some .draining → s.band.replyWait = none →
        (∀ e, .fetch e ∉ s.band.queue) → (∀ w ∈ (s.entry e).waiters, w.isCheck = false ∧ ∀ q, w ≠ .request q) →
        s.link.outstanding = some o →
        let t := u.droppedBusy e
        exec .transferTimeout s = .next ((t.setBand { t.band with format := some .ended }).setLink { t.link with
          replies := t.link.replies ++ [⟨o.tag, .store, .none, true, true⟩] }).arbitrate) ∧
      (∀ a bs i o, x = .formatWrite a bs → s.band.format = some (.writing i) → s.band.replyWait = none →
        (∀ e, .fetch e ∉ s.band.queue) → s.link.outstanding = some o →
        exec .transferTimeout s = .next ((u.setBand { u.band with format := some .ended }).setLink { u.link with
          replies := u.link.replies ++ [⟨o.tag, .store, .none, true, true⟩] }).arbitrate)) ∧
    (∀ e n, s.band.inFlight = some ⟨.fetch e n, true⟩ → s.part.startup = .establishing ∨ s.part.startup = .done →
      s.part.winding = true → s.band.format = none → s.band.replyWait = none → (∀ e, .fetch e ∉ s.band.queue) →
      (∀ w ∈ (s.entry e).waiters, w.isCheck = false ∧ ∀ q, w ≠ .request q) →
      let u := (s.setBand { s.band with port := .fault, inFlight := none }).post .storeFault .none
      exec .transferTimeout s =
        .next ((u.droppedBusy e).setBand { BandUnit.atReset with port := .fault }).arbitrate)

/-! ### Presentations and reader lines -/

/-- The check order at the service of a lookup (R27, R32 to R35): a superseded presentation is not decided; else the
first of VOID, BARRED, TAG and ZONE that applies refuses it, with no change to the record, and a band that passes is
handed to the target block, a master without the zone check. The party of a refusal's entry (R40, R49) is MASTER for a
master past the TAG check, COMPANION for a companion of the locker that does not own it, OWNER otherwise; that a master
who is a companion of the locker is MASTER there is the model's choice (log 21). What a decision does at a head that is
on a line (R38, R40, R134, R156): the verdict is pending, in place of an older one, and a poll of the head in flight no
longer clears it; the record is DECIDED; a refusal with the refusals option on writes its closed entry, and at an exit
lane pulses the eject line. At an OFFLINE head no verdict is pending (R154). -/
def Obligations.CheckOrder : Prop :=
  (∀ (s : State) (h : HeadNo) (p : Presentation) (rec : BandRecord),
     (p.superseded = true → s.decidePresentation h p rec = (s, rec)) ∧
     (p.superseded = false → rec.state = .free ∨ rec.state = .returned →
       s.decidePresentation h p rec = (s.conclude h p (.refuse .void) .owner, rec)) ∧
     (p.superseded = false → rec.state = .barred →
       s.decidePresentation h p rec = (s.conclude h p (.refuse .barred) .owner, rec)) ∧
     (p.superseded = false → rec.state = .issued ∨ rec.state = .inside → rec.serial ≠ p.serial →
       s.decidePresentation h p rec = (s.conclude h p (.refuse .tag) .owner, rec)) ∧
     (p.superseded = false → rec.state = .issued ∨ rec.state = .inside → rec.serial = p.serial →
       rec.master = false →
       (∀ k : LockerNo, h.val = k.val → rec.mask.getLsbD (k.val / 32) = false →
         s.decidePresentation h p rec = (s.conclude h p (.refuse .zone) .owner, rec)) ∧
       (256 ≤ h.val → h.val < 280 → rec.cabinRight = false →
         s.decidePresentation h p rec = (s.conclude h p (.refuse .zone) .owner, rec))) ∧
     (p.superseded = false → rec.state = .issued ∨ rec.state = .inside → rec.serial = p.serial →
       (rec.master = true ∨ 280 ≤ h.val ∨ (h.val < 256 ∧ rec.mask.getLsbD (h.val / 32) = true) ∨
         (256 ≤ h.val ∧ h.val < 280 ∧ rec.cabinRight = true)) →
       ∀ party : Party, (rec.master = true → party = .master) →
         (∀ k : LockerNo, h.val = k.val → rec.master = false → (s.locker k).owner ≠ some p.band →
           p.band ∈ (s.locker k).companions → party = .companion) →
         (rec.master = false → (∀ k : LockerNo, h.val = k.val → (s.locker k).owner = some p.band ∨
           p.band ∉ (s.locker k).companions) → party = .owner) →
         let d := s.targetRules (headTarget h) p.band rec p.arrival
         s.decidePresentation h p rec = (d.2.1.conclude h p d.1 party, d.2.2))) ∧
  (∀ h : HeadNo, (∀ k : LockerNo, h.val = k.val → headTarget h = .locker k) ∧
     (∀ c : CabinNo, h.val = 256 + c.val → headTarget h = .cabin c) ∧
     (∀ l : LaneNo, h.val = 280 + l.val → headTarget h = .lane l)) ∧
  (∀ (s : State) (h : HeadNo) (p : Presentation) (v : Verdict) (party : Party),
     let u (on : Bool) : State :=
       let t := if on = true then s.setReader { s.reader with
         roster := s.reader.roster.set h.val { s.head h with verdict := some v }
         engineA := { s.reader.engineA with poll := s.reader.engineA.poll.map (fun q =>
           { q with clears := q.clears && decide (q.head ≠ h) }) }
         engineB := { s.reader.engineB with poll := s.reader.engineB.poll.map (fun q =>
           { q with clears := q.clears && decide (q.head ≠ h) }) } } else s
       t.setSlot h (some { p with decided := true })
     let on : Bool := decide ((s.head h).state ≠ .offline)
     (v = .grant ∨ v = .cancelled → s.conclude h p v party = u on) ∧
     (∀ r, v = .refuse r →
       let journaled : State := if s.settings.refusals = true
         then (u on).journalClosed (headTarget h) (some p.band) party (.refused r) p.arrival .done else u on
       ((∀ l, headTarget h = .lane l → s.settings.roles[l.val] = .entry) → s.conclude h p v party = journaled) ∧
       (∀ l, headTarget h = .lane l → s.settings.roles[l.val] = .exit →
         s.conclude h p v party = journaled.setLane l { s.lane l with eject := true })))

/-- An answer to a roster poll or a probe in flight, from the head polled, when the head is in service and the part is
not winding down (R154, R155, R26, R28, R158): the exchange ends; a poll clears the head's misses, its tried mark and
the verdict it carried; a probe restores the head to the line. Then an IDLE discards a DECIDED record, and a PRESENT
that repeats the held reading is ignored. An answer that is discarded ends no poll and changes nothing (R154): one that
comes late, and one whose check does not agree, that names another head, carries a band number above 2047 or finds no
such exchange in flight. What the check of an answer covers, byte by byte, is the model's choice (log 37). -/
def Obligations.AnswersTaken : Prop :=
  (∀ (s : State) (line : Line) (p : Poll), (s.engine line).poll = some p → s.part.winding = false → p.stale = false →
     let ended := s.setEngine line { s.engine line with poll := none }
     let x := s.head p.head
     let u : State := if p.probe = true then
         (ended.setHead p.head { x with
           state := .on line, miss := 0, tried := false, verdict := none, probe := .none }).post .headRestored
             (.head p.head)
       else ended.setHead p.head { x with
         miss := 0, tried := false, verdict := if p.clears = true then none else x.verdict }
     let run (a : AnswerKind) : Host.Outcome State Fault Refusal :=
       if p.probe = true then exec (.probeAnswer line p.head.val (goodAnswer p.head a)) s
       else exec (.pollAnswer line p.head.val (goodAnswer p.head a)) s
     (∀ q, s.slot p.head = some q → q.decided = true → run .idle = .next (u.setSlot p.head none).arbitrate) ∧
     (s.slot p.head = none ∨ (∃ q, s.slot p.head = some q ∧ q.decided = false) → run .idle = .next u.arbitrate) ∧
     (∀ q, s.slot p.head = some q → s.inService p.head = true →
       run (.present q.band.val q.serial) = .next u.arbitrate)) ∧
  (∀ (s : State) (line : Line) (head : Nat) (a : Answer),
     exec (.answerDiscard line) s = .next s.arbitrate ∧
     ((s.engine line).poll = none →
       exec (.pollAnswer line head a) s = .next s.arbitrate ∧
       exec (.probeAnswer line head a) s = .next s.arbitrate) ∧
     (∀ p, (s.engine line).poll = some p → head ≠ p.head.val ∨ a.check ≠ crc8 (answerCovered head a.kind) ∨
         (∃ b serial, a.kind = .present b serial ∧ 2047 < b) →
       exec (.pollAnswer line head a) s = .next s.arbitrate ∧
       exec (.probeAnswer line head a) s = .next s.arbitrate))

/-- A PRESENT answer from a head that holds no record, refused at its arrival (R26, R30, R38, R40, R155): BUSY in
STARTING and while a STORE FORMAT runs, STORE in NO_STORE, RANGE for a band number at or above the table length. The
presentation is opened with the arrival stamp now, refused at that event with no lookup, and left DECIDED, with the
verdict pending at the head; with the refusals option off nothing is journaled. A PRESENT answer for a band below the
table length that the cache does not hold (R26, R27, R31, R6, R155): the presentation is opened, and its lookup is the
first waiter of the entry taken. Wherever the band is held, and whatever the store is, the lookup is sent as a band
operation and is served, waits or is refused by R5 and R6. A DECIDED record the head held is discarded; a pending
presentation is superseded: its lookups stay where they wait and carry the superseded mark. -/
def Obligations.PresentationOpens : Prop :=
  (∀ (s : State) (line : Line) (h : HeadNo) (b : BandNo) (serial : Serial) (carried : Option Verdict) (clears : Bool)
     (w : Nat) (r : Reason), (s.engine line).poll = some ⟨h, false, carried, clears, false, w⟩ →
     (∀ q, (s.engine (otherLine line)).poll = some q → q.head ≠ h) → s.part.winding = false →
     (r = .busy ∧ (s.part.part = .starting ∨ s.band.format.isSome = true)) ∨
       (r = .store ∧ s.part.part = .noStore ∧ s.band.format = none) ∨
       (r = .range ∧ s.part.part = .running ∧ s.band.format = none ∧ s.tableLength ≤ b.val) →
     s.inService h = true → h.val < 280 → (∃ l, (s.head h).state = .on l) → s.slot h = none →
     s.settings.refusals = false →
     exec (.pollAnswer line h.val (goodAnswer h (.present b.val serial))) s =
       .next (((s.setEngine line { s.engine line with poll := none }).setHead h
         { s.head h with miss := 0, tried := false, verdict := some (.refuse r) }).setSlot h
           (some ⟨b, serial, s.clock.value, true, false⟩)).arbitrate) ∧
  (∀ (s : State) (line : Line) (h : HeadNo) (b : BandNo) (serial : Serial) (carried : Option Verdict) (clears : Bool)
     (w : Nat) (e : EntryNo), (s.engine line).poll = some ⟨h, false, carried, clears, false, w⟩ →
     s.part = ⟨.running, false, .done⟩ → s.band.format = none → s.inService h = true →
     (∀ q, s.slot h = some q → q.band ≠ b ∨ q.serial ≠ serial) →
     b.val < s.tableLength → s.entryOf b = none → s.band.port ≠ .fault → s.itemsHeld < 320 →
     (s.entry e).content = .empty → (∀ f, f < e → (s.entry f).content ≠ .empty) →
     let p : Presentation := ⟨b, serial, s.clock.value, false, false⟩
     exec (.pollAnswer line h.val (goodAnswer h (.present b.val serial))) s =
       .next ((((s.setEngine line { s.engine line with poll := none }).setHead h { s.head h with
         miss := 0, tried := false, verdict := if clears = true then none else (s.head h).verdict }).setSlot h
           (some p)).setBand { s.band with
             cache := (s.band.cache.map (fun x => { x with
               waiters := x.waiters.map (s.markWaiter (fun g => decide (g = h))) })).set e.val
                 ⟨.filling b, [.lookup h p], false⟩
             lastUse := s.band.lastUse.filter (fun f => f ≠ e)
             queue := s.band.queue ++ [.fetch e] }).arbitrate) ∧
  (∀ (s : State) (line : Line) (h : HeadNo) (b : BandNo) (serial : Serial) (carried : Option Verdict) (clears : Bool)
     (w : Nat), (s.engine line).poll = some ⟨h, false, carried, clears, false, w⟩ →
     s.part = ⟨.running, false, .done⟩ → s.band.format = none → s.inService h = true →
     (∀ q, s.slot h = some q → q.band ≠ b ∨ q.serial ≠ serial) → b.val < s.tableLength →
     let p : Presentation := ⟨b, serial, s.clock.value, false, false⟩
     let opened : State := (((s.setEngine line { s.engine line with poll := none }).setHead h { s.head h with
       miss := 0, tried := false, verdict := if clears = true then none else (s.head h).verdict }).setSlot h
         (some p)).setBand { s.band with
           cache := s.band.cache.map (fun x => { x with
             waiters := x.waiters.map (s.markWaiter (fun g => decide (g = h))) }) }
     ∃ t : State, exec (.pollAnswer line h.val (goodAnswer h (.present b.val serial))) s = .next t.arbitrate ∧
       opened.OpSent b (.lookup h p) t)

/-- A roster poll that goes unanswered (R157): the miss count goes up; at the miss limit the head moves to the other
line with its tried mark set and keeps its verdict, or, with the tried mark set already, becomes OFFLINE, its verdict
gone, its probe line the other line and its presentation dropped (R29). The probe timer and an unanswered probe
(R158): at the timer's expiry every OFFLINE head in service with probe status none becomes DUE, and no other; an
unanswered probe moves to the other line and counts no miss. -/
def Obligations.PollsUnanswered : Prop :=
  (∀ (s : State) (line : Line) (h : HeadNo) (carried : Option Verdict) (clears : Bool) (w : Nat),
     (s.engine line).poll = some ⟨h, false, carried, clears, false, w⟩ → s.part.winding = false →
     let ended := s.setEngine line { s.engine line with poll := none }
     let x := s.head h
     (x.miss + 1 < s.settings.missLimit →
       exec (.pollWindowExpiry line) s = .next (ended.setHead h { x with miss := x.miss + 1 }).arbitrate) ∧
     (s.settings.missLimit ≤ x.miss + 1 → x.tried = false → exec (.pollWindowExpiry line) s =
       .next ((ended.setHead h { x with state := .on (otherLine line), miss := 0, tried := true }).post .lineSwitched
         (.head h)).arbitrate) ∧
     (s.settings.missLimit ≤ x.miss + 1 → x.tried = true → s.slot h = none ∨
         (∃ q, s.slot h = some q ∧ q.decided = true) → exec (.pollWindowExpiry line) s =
       .next (((ended.setHead h ⟨.offline, 0, false, none, otherLine line, .none⟩).post .headOffline
         (.head h)).setSlot h none).arbitrate)) ∧
  (∀ s : State,
     (∃ t : State, exec .probeTimerExpiry s = .next t.arbitrate ∧ t = s.setReader t.reader ∧
       t.reader.engineA = s.reader.engineA ∧ t.reader.engineB = s.reader.engineB ∧
       ∀ h, t.head h = if (s.head h).state = .offline ∧ (s.head h).probe = .none ∧ s.inService h = true
         then { s.head h with probe := .due } else s.head h) ∧
     (∀ line h carried clears w, (s.engine line).poll = some ⟨h, true, carried, clears, false, w⟩ →
       s.part.winding = false → exec (.probeWindowExpiry line) s =
         .next ((s.setEngine line { s.engine line with poll := none }).setHead h { s.head h with
           probeLine := otherLine (s.head h).probeLine, probe := .none }).arbitrate))

/-! ### Lockers -/

/-- Every locker request at a number above 255, or at a locker whose string is not fitted, is replied RANGE (R65). That
LOCKER ASSIGN and LOCKER SHARE are so replied at their arrival, before a lookup that could end BUSY or STORE, is the
model's choice (log 29).
LOCKER UNSHARE (R67): a band number at or above the table length is replied RANGE; a band in the locker's list is
removed and the others keep their order; any other is replied STATE. LOCKER WATCH, STRING CLOSE and STRING OPEN (R72,
R73): the flag takes the value asked, in every state, and the request is replied OK; an on or off byte other than 00h
and 01h, string 8 or above, or a string not fitted, is replied RANGE. -/
def Obligations.LockerRangeAndFlags : Prop :=
  (∀ (s : State) (q : Request) (tag : Byte) (body : List Byte),
     q ∈ [Request.lockerAssign, .lockerShare, .lockerUnshare, .lockerOpen, .lockerRelease, .lockerReset,
       .lockerSuspend, .lockerResume, .lockerWatch, .lockerRead] → s.takes q body →
     255 < argWord body 0 ∨ (∃ k : LockerNo, argWord body 0 = k.val ∧ (s.string (lockerString k)).fitting ≠ .fitted) →
     exec (q.command tag body) s = .next ((s.taken q tag).replied tag .range .none).arbitrate) ∧
  ((∀ (s : State) (tag : Byte) (body : List Byte) (k : LockerNo), s.takes .lockerUnshare body →
      argWord body 0 = k.val → (s.string (lockerString k)).fitting = .fitted →
      let u := s.taken .lockerUnshare tag
      (s.tableLength ≤ argWord body 2 →
        exec (.lockerUnshare tag body) s = .next (u.replied tag .range .none).arbitrate) ∧
      (∀ b : BandNo, argWord body 2 = b.val → b.val < s.tableLength →
        (b ∈ (s.locker k).companions → exec (.lockerUnshare tag body) s = .next ((u.setLocker k { s.locker k with
          companions := (s.locker k).companions.filter (fun c => c ≠ b), dirty := true }).replied tag .ok
            .none).arbitrate) ∧
        (b ∉ (s.locker k).companions →
          exec (.lockerUnshare tag body) s = .next (u.replied tag .state .none).arbitrate))) ∧
   (∀ (s : State) (tag : Byte) (body : List Byte),
      (∀ k : LockerNo, s.takes .lockerWatch body → argWord body 0 = k.val →
        (s.string (lockerString k)).fitting = .fitted →
        (1 < argByte body 2 →
          exec (.lockerWatch tag body) s = .next ((s.taken .lockerWatch tag).replied tag .range .none).arbitrate) ∧
        (argByte body 2 ≤ 1 → exec (.lockerWatch tag body) s =
          .next (((s.taken .lockerWatch tag).setLocker k { s.locker k with
            watch := decide (argByte body 2 = 1) }).replied tag .ok .none).arbitrate)) ∧
      (7 < argByte body 0 ∨ (∃ i : Fin 8, argByte body 0 = i.val ∧ (s.string (lockerStringNo i)).fitting ≠ .fitted) →
        (s.takes .stringClose body →
          exec (.stringClose tag body) s = .next ((s.taken .stringClose tag).replied tag .range .none).arbitrate) ∧
        (s.takes .stringOpen body →
          exec (.stringOpen tag body) s = .next ((s.taken .stringOpen tag).replied tag .range .none).arbitrate)) ∧
      (∀ i : Fin 8, argByte body 0 = i.val → (s.string (lockerStringNo i)).fitting = .fitted →
        (s.takes .stringClose body → exec (.stringClose tag body) s =
          .next (((s.taken .stringClose tag).setLockers { s.lockers with
            closed := s.lockers.closed.set i.val true }).replied tag .ok .none).arbitrate) ∧
        (s.takes .stringOpen body → exec (.stringOpen tag body) s =
          .next (((s.taken .stringOpen tag).setLockers { s.lockers with
            closed := s.lockers.closed.set i.val false }).replied tag .ok .none).arbitrate))))

/-- LOCKER ASSIGN and LOCKER SHARE at a band whose record is held (R66, R67): the tests in their order, and when all
pass the locker is OPENED with the band as owner and a closed CLAIM entry of the desk written, or the band joins the
tail of the companion list. The band's record does not change. -/
def Obligations.LockerAssignShare : Prop :=
  ∀ (s : State) (tag : Byte) (body : List Byte) (n : BandNo) (e : EntryNo) (rec : BandRecord) (k : LockerNo),
    argWord body 0 = k.val → (s.string (lockerString k)).fitting = .fitted →
    let l := s.locker k
    let u := (s.taken .lockerAssign tag).usedLast e
    let x := (s.taken .lockerShare tag).usedLast e
    (s.Asks .lockerAssign body 2 n e rec →
      (l.state ≠ .vacant ∨ (rec.state ≠ .issued ∧ rec.state ≠ .inside) ∨ (∃ j, (s.locker j).owner = some n) →
        exec (.lockerAssign tag body) s = .next ((u.replied tag .state .none).emptyTest e).arbitrate) ∧
      (l.state = .vacant → rec.state = .issued ∨ rec.state = .inside → (∀ j, (s.locker j).owner ≠ some n) →
        exec (.lockerAssign tag body) s = .next (((u.setLocker k { l with
          state := .opened, owner := some n, companions := [], dirty := true }).journalClosed (.locker k) (some n)
            .desk .claim s.clock.value .done).replied tag .ok .none).arbitrate)) ∧
    (s.Asks .lockerShare body 2 n e rec →
      (l.owner = none ∨ (rec.state ≠ .issued ∧ rec.state ≠ .inside) ∨ l.owner = some n ∨
          (∃ j, n ∈ (s.locker j).companions) →
        exec (.lockerShare tag body) s = .next ((x.replied tag .state .none).emptyTest e).arbitrate) ∧
      (∀ b, l.owner = some b → b ≠ n → rec.state = .issued ∨ rec.state = .inside →
        (∀ j, n ∉ (s.locker j).companions) →
        (3 ≤ l.companions.length →
          exec (.lockerShare tag body) s = .next (x.replied tag .full .none).arbitrate) ∧
        (l.companions.length < 3 →
          exec (.lockerShare tag body) s = .next ((x.setLocker k { l with
            companions := l.companions ++ [n], dirty := true }).replied tag .ok .none).arbitrate)))

/-- LOCKER OPEN, LOCKER RELEASE and LOCKER RESET at a locker on a fitted string (R68, R69, R70, R50): each is taken
from the states its rule names and begins a desk action there, UNLOCKING with the pulse at the tail of the string's
queue and an open entry; a RELEASE of an OPENED locker makes it VACANT at once with a closed entry; from any other
state, STATE with no change. -/
def Obligations.LockerDesk : Prop :=
  ∀ (s : State) (q : Request) (tag : Byte) (body : List Byte) (k : LockerNo), s.takes q body →
    argWord body 0 = k.val → (s.string (lockerString k)).fitting = .fitted →
    let l := s.locker k
    let u := s.taken q tag
    let begun (a : LockerAction) : State :=
      let t := (u.setLocker k { l with
        state := .unlocking
        work := some ⟨a, none, .desk, l.state, .queued⟩
        retryUsed := false
        doorOpened := false
        window := none
        dirty := true }).setString (lockerString k) { s.string (lockerString k) with
          queue := (s.string (lockerString k)).queue ++ [⟨lockerPosition k, .withdraw⟩] }
      let j := t.journalOpen (.locker k) l.owner .desk a.journal s.clock.value
      (j.2.setLocker k { j.2.locker k with link := j.1 }).replied tag .ok .none
    (q = .lockerOpen → exec (.lockerOpen tag body) s = .next
      (if l.state = .locked then begun .deskOpen else u.replied tag .state .none).arbitrate) ∧
    (q = .lockerReset → exec (.lockerReset tag body) s = .next
      (if l.state = .forced ∨ l.state = .jammed then begun .reset else u.replied tag .state .none).arbitrate) ∧
    (q = .lockerRelease → exec (.lockerRelease tag body) s = .next
      (if l.state = .locked ∨ l.state = .abandoned then begun .release
        else if l.state = .opened then ((u.setLocker k { l with
          state := .vacant, owner := none, companions := [], dirty := true }).journalClosed (.locker k) l.owner .desk
            .release s.clock.value .done).replied tag .ok .none
        else u.replied tag .state .none).arbitrate)

/-- LOCKER SUSPEND and LOCKER RESUME (R71), at a locker on a fitted string: VACANT becomes SUSPENDED and SUSPENDED
VACANT, with the mirror dirty mark set and OK; from any other state, a LOCKING one among them, STATE with no change.
A claim at a SUSPENDED locker is refused LOCKER_SUSPENDED, with no change. -/
def Obligations.LockerSuspendResume : Prop :=
  (∀ (s : State) (k : LockerNo) (b : BandNo) (rec : BandRecord) (arrival : Stamp), (s.locker k).state = .suspended →
    s.targetRules (.locker k) b rec arrival = (.refuse .lockerSuspended, s, rec)) ∧
  ∀ (s : State) (tag : Byte) (body : List Byte) (k : LockerNo), argWord body 0 = k.val →
    (s.string (lockerString k)).fitting = .fitted →
    (s.takes .lockerSuspend body → exec (.lockerSuspend tag body) s = .next
      (if (s.locker k).state = .vacant
        then ((s.taken .lockerSuspend tag).setLocker k { s.locker k with
          state := .suspended, dirty := true }).replied tag .ok .none
        else (s.taken .lockerSuspend tag).replied tag .state .none).arbitrate) ∧
    (s.takes .lockerResume body → exec (.lockerResume tag body) s = .next
      (if (s.locker k).state = .suspended
        then ((s.taken .lockerResume tag).setLocker k { s.locker k with
          state := .vacant, dirty := true }).replied tag .ok .none
        else (s.taken .lockerResume tag).replied tag .state .none).arbitrate)

/-- The expiry of a locker's confirm window while it is CONFIRMING (R58): with retry used no, the same pulse joins the
tail of the string's queue and the sub-phase is QUEUED; with retry used yes the locker is JAMMED, a claim's owner and
companions go, its entry is closed JAMMED and LOCKER_JAMMED is posted. The confirmation of a locker's action (R57,
R59, R50): an undo returns the locker to its prior state and closes the entry DOOR_OPEN; a throw whose door opened is
undone; every other action ends in the state of R50's table, the owner and companions going where that state is
VACANT, with the entry closed DONE. In the winding-down interval the queue stays as it is (R83); that the locker reacts
there is the model's choice (log 22), and so is that a WATCH of the close comes before LOCKER_JAMMED (log 45). -/
def Obligations.LockerActionEnds : Prop :=
  (∀ (s : State) (k : LockerNo) (w : LockerWork) (ms : Nat), (s.locker k).work = some w → w.sub = .confirming →
     (s.locker k).window = some ms →
     let l := s.locker k
     (l.retryUsed = false → exec (.lockerConfirmExpiry k) s = .next ((s.setLocker k { l with
       work := some { w with sub := .queued }, retryUsed := true, window := none }).setString (lockerString k)
         { s.string (lockerString k) with
           queue := s.pulsesWith (lockerString k) (lockerPosition k)
             (if l.state = .locking then .throw else .withdraw) }).arbitrate) ∧
     (l.retryUsed = true → exec (.lockerConfirmExpiry k) s = .next (((s.setLocker k { l with
       state := .jammed
       owner := if w.action = .claim then none else l.owner
       companions := if w.action = .claim then [] else l.companions
       work := none
       retryUsed := false
       doorOpened := false
       window := none
       link := none
       dirty := true }).journalClose l.link (.locker k) .jammed).post .lockerJammed (.locker k)).arbitrate)) ∧
  (∀ (s : State) (k : LockerNo) (w : LockerWork), (s.locker k).work = some w →
     let l := s.locker k
     let rests (st : LockerState) (gone : Bool) (o : EntryOutcome) : State := (s.setLocker k { l with
       state := st
       owner := if gone = true then none else l.owner
       companions := if gone = true then [] else l.companions
       work := none
       retryUsed := false
       doorOpened := false
       window := none
       link := none
       dirty := true }).journalClose l.link (.locker k) o
     (l.state = .unlocking → w.action = .claim → s.confirmLocker k = rests w.prior true .doorOpen) ∧
     (l.state = .unlocking → w.action = .lock → s.confirmLocker k = rests w.prior false .doorOpen) ∧
     (l.state = .locking → l.doorOpened = true → s.confirmLocker k = (s.setLocker k { l with
       state := .unlocking
       work := some { w with party := .desk, band := none, sub := .queued }
       retryUsed := false
       doorOpened := false
       window := none
       dirty := true }).setString (lockerString k) { s.string (lockerString k) with
         queue := s.pulsesWith (lockerString k) (lockerPosition k) .withdraw }) ∧
     (l.state = .locking → l.doorOpened = false → w.action = .claim ∨ w.action = .lock →
       s.confirmLocker k = rests .locked false .done) ∧
     (l.state = .unlocking → l.doorOpened = false →
       (w.action = .unlock ∨ w.action = .deskOpen ∨ (w.action = .masterOpen ∧ w.prior ≠ .abandoned) ∨
           (w.action = .reset ∧ l.owner.isSome = true) →
         s.confirmLocker k = rests .opened false .done) ∧
       (w.action = .release ∨ (w.action = .masterOpen ∧ w.prior = .abandoned) ∨
           (w.action = .reset ∧ l.owner = none) →
         s.confirmLocker k = rests .vacant true .done)))

/-- The door and bolt reactions of a locker (R60, R61, R56): LOCKED, ABANDONED and UNLOCKING QUEUED are forced by a door
opening and by a bolt withdrawal, keeping owner and companions; LOCKING QUEUED returns to its prior state at a door
opening; LOCKING beyond QUEUED takes the door-opened mark; a bolt change to the pulse's target while CONFIRMING confirms
the action, THROW for LOCKING and WITHDRAW for UNLOCKING; every other change, and every change in the states at rest,
sets the accepted level and does nothing more. In the winding-down interval the queue stays as it is (R83); that the
locker reacts there is the model's choice (log 22), and so is the place of LOCKER_FORCED among the notices of the journal
unit (log 45). -/
def Obligations.LockerContacts : Prop :=
  ∀ (s : State) (k : LockerNo),
    let l := s.locker k
    let forced (t : State) : State := (((t.setLocker k { l with
      state := .forced
      work := none
      retryUsed := false
      doorOpened := false
      window := none
      link := none
      dirty := true }).journalClose l.link (.locker k) .forced).post .lockerForced (.locker k)).journalClosed
        (.locker k) l.owner .desk .forced s.clock.value .done
    let removed : State := s.setString (lockerString k) { s.string (lockerString k) with
      queue := s.pulsesWithout (lockerString k) (lockerPosition k) }
    (l.state = .locked ∨ l.state = .abandoned → l.work = none →
      s.lockerDoorOpened k = forced s ∧ s.lockerBoltChange k false = forced s) ∧
    (∀ w, l.state = .unlocking → l.work = some w → w.sub = .queued →
      s.lockerDoorOpened k = forced removed ∧ s.lockerBoltChange k false = forced removed) ∧
    (∀ w, l.state = .locking → l.work = some w → w.sub = .queued → s.lockerDoorOpened k =
      (removed.setLocker k { l with
        state := w.prior
        owner := if w.action = .claim then none else l.owner
        companions := if w.action = .claim then [] else l.companions
        work := none
        retryUsed := false
        doorOpened := false
        window := none
        link := none
        dirty := true }).journalClose l.link (.locker k) .doorOpen) ∧
    (∀ w, l.state = .locking → l.work = some w → w.sub ≠ .queued →
      s.lockerDoorOpened k = s.setLocker k { l with doorOpened := true }) ∧
    (∀ w, l.state = .locking → l.work = some w → s.lockerBoltChange k false = s ∧
      s.lockerBoltChange k true = if w.sub = .confirming then s.confirmLocker k else s) ∧
    (∀ w, l.state = .unlocking → l.work = some w → s.lockerBoltChange k true = s ∧
      (w.sub ≠ .queued → s.lockerDoorOpened k = s ∧
        s.lockerBoltChange k false = if w.sub = .confirming then s.confirmLocker k else s)) ∧
    (l.state = .locked ∨ l.state = .abandoned → l.work = none → s.lockerBoltChange k true = s) ∧
    (l.work = none → l.state ∈ [LockerState.vacant, .opened, .suspended, .forced, .jammed] →
      s.lockerDoorOpened k = s ∧ ∀ thrown, s.lockerBoltChange k thrown = s)

/-! ### Latch strings and contacts -/

/-- A pulse start (R81, R56, R99): a FITTED string's IDLE driver takes the head of its queue, drives it for the pulse
length held, and the owner's record moves to IN_FLIGHT; a driver that is not IDLE, a string not FITTED, an empty queue
and the winding-down interval (R83) take no start. The pulse timer's expiry (R82, R56, R99): the coil goes off and the
driver rests for the rest held, or is IDLE where that is 0; the owner's record is CONFIRMING with the confirm window
held, and where the bolt already stands at the target the action is confirmed at once. In the winding-down interval
the end is reported to no block (R83). The rest timer's expiry (R82): the driver is IDLE, and nothing else changes. A
driver that neither rests nor pulses meets neither timer (log 3). -/
def Obligations.PulsesRun : Prop :=
  (∀ (s : State) (i : StringNo),
     (∀ p rest, (s.string i).driver = .idle → (s.string i).fitting = .fitted → (s.string i).queue = p :: rest →
       s.part.winding = false →
       let u := s.setString i { s.string i with queue := rest, driver := .pulsing p s.settings.strings[i.val].pulse }
       (∀ (k : LockerNo) w, lockerString k = i → lockerPosition k = p.position → (s.locker k).work = some w →
         exec (.pulseStart i) s =
           .next (u.setLocker k { s.locker k with work := some { w with sub := .inFlight } }).arbitrate) ∧
       (∀ (c : CabinNo) w, i = 8 → cabinPosition c = p.position → (s.cabin c).work = some w →
         exec (.pulseStart i) s =
           .next (u.setCabin c { s.cabin c with work := some { w with sub := .inFlight } }).arbitrate)) ∧
     ((s.string i).driver ≠ .idle ∨ (s.string i).fitting ≠ .fitted ∨ (s.string i).queue = [] ∨
         s.part.winding = true → exec (.pulseStart i) s = .next s.arbitrate)) ∧
  (∀ (s : State) (i : StringNo) (p : Pulse) (ms : Nat), (s.string i).driver = .pulsing p ms →
     let g := s.settings.strings[i.val]
     let u := s.setString i { s.string i with driver := if 0 < g.rest then .resting g.rest else .idle }
     (s.part.winding = true → exec (.pulseEnd i) s = .next u.arbitrate) ∧
     (∀ (k : LockerNo) w, s.part.winding = false → lockerString k = i → lockerPosition k = p.position →
       (s.locker k).work = some w →
       let v := u.setLocker k { s.locker k with work := some { w with sub := .confirming }, window := some g.window }
       exec (.pulseEnd i) s = .next (if s.boltThrown i p.position = some (decide (p.direction = .throw))
         then v.confirmLocker k else v).arbitrate) ∧
     (∀ (c : CabinNo) w, s.part.winding = false → i = 8 → cabinPosition c = p.position →
       (s.cabin c).work = some w →
       let v := u.setCabin c { s.cabin c with work := some { w with sub := .confirming }, window := some g.window }
       exec (.pulseEnd i) s = .next (if s.boltThrown i p.position = some (decide (p.direction = .throw))
         then v.confirmCabin c else v).arbitrate)) ∧
  (∀ (s : State) (i : StringNo),
     (∀ ms, (s.string i).driver = .resting ms →
       exec (.restExpiry i) s = .next (s.setString i { s.string i with driver := .idle }).arbitrate) ∧
     ((∀ ms, (s.string i).driver ≠ .resting ms) → exec (.restExpiry i) s = .next s.arbitrate) ∧
     ((∀ p ms, (s.string i).driver ≠ .pulsing p ms) → exec (.pulseEnd i) s = .next s.arbitrate))

/-- The debouncing of one contact (R86, R88): a change of a known level is accepted when two scans in a row read it;
an unknown level is established by two scans in a row that agree, or by the 25th scan, and the count goes up while it
stays unknown. A string that is NOT_FITTED is not scanned (R75). A scan updates what is kept of each contact of the
string (`x`), and at a FITTED string in which no known level changes nothing else (R86, R87). Where the contacts of one
position change, its locker or cabin takes the report of the door opening before that of the bolt; a door closing sets
the level and does nothing more (R87, R60, R104). At an ESTABLISHING string nothing is reported, and with a contact still
unknown it stays so (R88). With every contact established it is FITTED: in the start-up sequence the lockers of a locker
string are reconciled by R175's table, and a cabin whose bolt is thrown begins its RESTORE opening, in NO_STORE too
(R175, R176); and once every string of the fitted count is FITTED the part enters RUNNING and posts START_COMPLETE. In
the winding-down interval the queues stay as they are (R83), and that the owners react there is the model's choice
(log 22). -/
def Obligations.ScanSamples : Prop :=
  (∀ (v a : Bool) (n : Nat) (previous : Option Bool),
     ((⟨some a, previous, n⟩ : Contact).sample v).accepted = some (if previous = some v then v else a) ∧
     (((⟨some a, previous, n⟩ : Contact).changes v = true) ↔ v ≠ a ∧ previous = some v) ∧
     ((⟨none, previous, n⟩ : Contact).sample v).accepted = (if previous = some v ∨ n = 24 then some v else none) ∧
     ((⟨none, previous, n⟩ : Contact).sample v).count = (if previous = some v ∨ n = 24 then n else n + 1) ∧
     ∀ accepted, ((⟨accepted, previous, n⟩ : Contact).sample v).previous = some v) ∧
  (∀ (s : State) (i : StringNo) (doors bolts : BitVec 32) (x : StringContacts),
     ((s.string i).fitting = .notFitted → exec (.stringScan i doors bolts) s = .next s.arbitrate) ∧
     ((∀ p : Position, (i.val < 8 ∨ p.val < 24) →
         x.doors[p.val] = ((s.contacts i).doors[p.val]).sample (doors.getLsbD p.val) ∧
         x.bolts[p.val] = ((s.contacts i).bolts[p.val]).sample (bolts.getLsbD p.val)) →
       (∀ p : Position, (i.val = 8 ∧ 24 ≤ p.val) →
         x.doors[p.val] = (s.contacts i).doors[p.val] ∧ x.bolts[p.val] = (s.contacts i).bolts[p.val]) →
       let run := exec (.stringScan i doors bolts) s
       let u := s.setContacts i x
       let doorChanges (p : Position) : Bool := ((s.contacts i).doors[p.val]).changes (doors.getLsbD p.val)
       let boltChanges (p : Position) : Bool := ((s.contacts i).bolts[p.val]).changes (bolts.getLsbD p.val)
       ((s.string i).fitting = .fitted → (∀ p, doorChanges p = false ∧ boltChanges p = false) →
         run = .next u.arbitrate) ∧
       (∀ p : Position, (s.string i).fitting = .fitted →
         (∀ q, q ≠ p → doorChanges q = false ∧ boltChanges q = false) →
         let opened : Bool := doorChanges p && doors.getLsbD p.val
         (∀ k : LockerNo, lockerString k = i → lockerPosition k = p →
           let d : State := if opened = true then u.lockerDoorOpened k else u
           run = .next (if boltChanges p = true then d.lockerBoltChange k (bolts.getLsbD p.val) else d).arbitrate) ∧
         (∀ c : CabinNo, i = 8 → cabinPosition c = p →
           let y : State := s.setContacts 8 { x with bolts := x.bolts.set p.val (s.contacts 8).bolts[p.val] }
           let d : State := if opened = true then (y.cabinDoorOpened c).setContacts 8 x else u
           run = .next (if boltChanges p = true then d.cabinBoltChange c (bolts.getLsbD p.val) else d).arbitrate)) ∧
       ((s.string i).fitting = .establishing →
         let known (p : Position) : Prop := x.doors[p.val].accepted.isSome = true ∧ x.bolts[p.val].accepted.isSome = true
         let fit : State := u.setString i { s.string i with fitting := .fitted }
         let starts : Prop := s.part.part = .starting ∧ s.part.startup = .establishing
         let finished : Prop := starts ∧ ∀ j : StringNo, j.val = 8 ∨ j.val < s.settings.fittedStrings →
           j = i ∨ (s.string j).fitting = .fitted
         let up (t : State) : State :=
           (t.setPart { t.part with part := .running, startup := .done }).post .startComplete .none
         ((∃ p : Position, (i.val < 8 ∨ p.val < 24) ∧ ¬known p) → run = .next u.arbitrate) ∧
         ((∀ p : Position, (i.val < 8 ∨ p.val < 24) → known p) →
           (i.val < 8 → ¬starts → run = .next fit.arbitrate) ∧
           (∀ table : Vector Locker 256, i.val < 8 → starts →
             (∀ k : LockerNo,
               let l := s.locker k
               let thrown : Bool := x.bolts[k.val % 32].accepted == some true
               let st : LockerState := if l.state = .vacant ∧ thrown = true then .abandoned
                 else if l.state = .opened ∧ thrown = true then .locked
                 else if l.state = .locked ∧ thrown = false then .opened
                 else if l.state = .abandoned ∧ thrown = false then .vacant
                 else l.state
               table[k.val] = if lockerString k = i ∧ st ≠ l.state then { l with state := st, dirty := true } else l) →
             let settled := fit.setLockers { s.lockers with table := table }
             (finished → run = .next (up settled).arbitrate) ∧ (¬finished → run = .next settled.arbitrate)) ∧
           (i = 8 →
             (starts ∨ s.part.part = .noStore → ∀ c : CabinNo, x.bolts[c.val].accepted = some true →
               (∀ d : CabinNo, d ≠ c → x.bolts[d.val].accepted ≠ some true) →
               let restoring := (fit.setCabin c { s.cabin c with
                 state := .opening
                 work := some ⟨.restore, none, .desk, s.clock.value, .free, .queued⟩
                 retryUsed := false
                 expiryMark := false
                 releaseMark := false
                 window := none }).setString 8 { s.string 8 with
                   fitting := .fitted, queue := s.pulsesWith 8 (cabinPosition c) .withdraw }
               (finished → run = .next (up restoring).arbitrate) ∧
               (¬finished → run = .next restoring.arbitrate)) ∧
             ((∀ c : CabinNo, x.bolts[c.val].accepted ≠ some true) ∨ (¬starts ∧ s.part.part ≠ .noStore) →
               (finished → run = .next (up fit).arbitrate) ∧ (¬finished → run = .next fit.arbitrate)))))))

/-- STRINGS FITTED (R76): a count of 0 or above 8 is replied RANGE; a lower count while a locker of the strings that
would go is neither VACANT nor SUSPENDED, STATE; the present count is replied OK at once; a raised count puts the new
strings into ESTABLISHING with every contact unknown and asks for the HEADER WRITE; a lowered one puts the strings that
go into NOT_FITTED, with every contact unknown and the driver IDLE, and asks for it too. The heads of their lockers that
were in service leave it (R29, R152), and no other head does. -/
def Obligations.StringsFitted : Prop :=
  ∀ (s : State) (tag : Byte) (body : List Byte), s.takes .stringsFitted body →
    let u := s.taken .stringsFitted tag
    (argByte body 0 = 0 ∨ 8 < argByte body 0 →
      exec (.stringsFitted tag body) s = .next (u.replied tag .range .none).arbitrate) ∧
    (∀ k : LockerNo, 1 ≤ argByte body 0 → argByte body 0 ≤ k.val / 32 → k.val / 32 < s.settings.fittedStrings →
      (s.locker k).state ≠ .vacant → (s.locker k).state ≠ .suspended →
      exec (.stringsFitted tag body) s = .next (u.replied tag .state .none).arbitrate) ∧
    (1 ≤ argByte body 0 → argByte body 0 ≤ 8 → argByte body 0 = s.settings.fittedStrings →
      exec (.stringsFitted tag body) s = .next (u.replied tag .ok .none).arbitrate) ∧
    (argByte body 0 ≤ 8 → argByte body 0 = s.settings.fittedStrings + 1 →
      (∀ i : StringNo, i.val = s.settings.fittedStrings → (s.string i).fitting ≠ .fitted →
        exec (.stringsFitted tag body) s = .next (((u.setString i ⟨.establishing, [], .idle⟩).setContacts i
          StringContacts.atReset).tookSettings tag { s.settings with fittedStrings := argByte body 0 }).arbitrate)) ∧
    (1 ≤ argByte body 0 → argByte body 0 < s.settings.fittedStrings → s.settings.fittedStrings ≤ 8 →
      (∀ k : LockerNo, argByte body 0 ≤ k.val / 32 → k.val / 32 < s.settings.fittedStrings →
        (s.locker k).state = .vacant ∨ (s.locker k).state = .suspended) →
      let goes (i : StringNo) : Bool := decide (argByte body 0 ≤ i.val ∧ i.val < s.settings.fittedStrings)
      let left (h : HeadNo) : Bool := decide (∃ k : LockerNo, h.val = k.val ∧ goes (lockerString k) = true ∧
        (s.string (lockerString k)).fitting = .fitted)
      ∀ t : State, s.HeadsLeft t left →
        t = { u with
          pres := t.pres, reader := t.reader, strings := t.strings, scanner := t.scanner
          band := { s.band with cache := t.band.cache } } →
        (∀ i, t.string i = if goes i = true then ⟨.notFitted, [], .idle⟩ else s.string i) →
        (∀ i, t.contacts i = if goes i = true then StringContacts.atReset else s.contacts i) →
        exec (.stringsFitted tag body) s =
          .next (t.tookSettings tag { s.settings with fittedStrings := argByte body 0 }).arbitrate)

/-! ### Settings requests -/

/-- STRING SETTINGS, CABIN SETTINGS and JOURNAL OPTIONS (R77, R108, R149, R11): values in range are held at the
service and the reply is that of a settings request; a number or a value out of range is replied RANGE and none
changes. READER SETTINGS (R159): values out of range are replied RANGE; values in range are held, and every miss count
is held below the new limit. -/
def Obligations.SettingsRequests : Prop :=
  (∀ (s : State) (tag : Byte) (body : List Byte),
     (s.takes .stringSettings body →
       let x : StringSettings := ⟨argWord body 1, argWord body 3, argWord body 5⟩
       let good : Prop := 20 ≤ x.pulse ∧ x.pulse ≤ 500 ∧ x.pulse % 10 = 0 ∧ x.rest ≤ 1000 ∧ x.rest % 10 = 0 ∧
         100 ≤ x.window ∧ x.window ≤ 3000 ∧ x.window % 10 = 0
       (8 < argByte body 0 ∨ ¬good → exec (.stringSettings tag body) s =
         .next ((s.taken .stringSettings tag).replied tag .range .none).arbitrate) ∧
       (∀ i : StringNo, argByte body 0 = i.val → good → exec (.stringSettings tag body) s =
         .next ((s.taken .stringSettings tag).tookSettings tag { s.settings with
           strings := s.settings.strings.set i.val x }).arbitrate)) ∧
     (s.takes .cabinSettings body →
       let good : Prop := 60 ≤ argWord body 0 ∧ argWord body 0 ≤ 3600 ∧ argWord body 2 ≤ 1800 ∧
         100 ≤ argWord body 4 ∧ argWord body 4 ≤ 1000 ∧ argWord body 4 % 10 = 0
       (¬good → exec (.cabinSettings tag body) s =
         .next ((s.taken .cabinSettings tag).replied tag .range .none).arbitrate) ∧
       (good → exec (.cabinSettings tag body) s = .next ((s.taken .cabinSettings tag).tookSettings tag { s.settings with
         cabinLimit := argWord body 0, cabinGrace := argWord body 2, halfPeriod := argWord body 4 }).arbitrate)) ∧
     (s.takes .journalOptions body →
       (1 < argByte body 0 → exec (.journalOptions tag body) s =
         .next ((s.taken .journalOptions tag).replied tag .range .none).arbitrate) ∧
       (argByte body 0 ≤ 1 → exec (.journalOptions tag body) s =
         .next ((s.taken .journalOptions tag).tookSettings tag { s.settings with
           refusals := decide (argByte body 0 = 1) }).arbitrate))) ∧
  (∀ (s : State) (tag : Byte) (body : List Byte), s.takes .readerSettings body →
     let good : Prop := 2 ≤ argByte body 0 ∧ argByte body 0 ≤ 20 ∧ 1 ≤ argByte body 1 ∧ argByte body 1 ≤ 7
     (¬good → exec (.readerSettings tag body) s =
       .next ((s.taken .readerSettings tag).replied tag .range .none).arbitrate) ∧
     (good → exec (.readerSettings tag body) s =
       .next (((s.taken .readerSettings tag).tookSettings tag { s.settings with
         pollWindow := argByte body 0, missLimit := argByte body 1 }).setReader { s.reader with
           roster := s.reader.roster.map (fun x => { x with
             miss := if argByte body 1 ≤ x.miss then argByte body 1 - 1 else x.miss }) }).arbitrate))

/-- The reads of the requests that change nothing (R74, R89, R109, R113, R119, R140, R159): a subject in range is
replied OK with the items of its rule as they stand, one out of range RANGE. Which of two polls in flight to one head
HEAD READ shows is the model's choice (log 38). -/
def Obligations.Reads : Prop :=
  ∀ (s : State) (tag : Byte) (body : List Byte),
    (∀ k : LockerNo, s.takes .lockerRead body → argWord body 0 = k.val →
      (s.string (lockerString k)).fitting = .fitted →
      let l := s.locker k
      exec (.lockerRead tag body) s = .next ((s.taken .lockerRead tag).replied tag .ok (.locker {
        number := k
        state := l.state
        owner := l.owner
        companions := l.companions
        work := l.work
        retryUsed := l.retryUsed
        doorOpened := l.doorOpened
        doorOpen := s.doorOpen (lockerString k) (lockerPosition k)
        boltThrown := s.boltThrown (lockerString k) (lockerPosition k)
        closed := s.lockers.closed[k.val / 32]
        watch := l.watch
        dirty := l.dirty
        link := l.link })).arbitrate) ∧
    (s.takes .stringRead body →
      (8 < argByte body 0 → exec (.stringRead tag body) s =
        .next ((s.taken .stringRead tag).replied tag .range .none).arbitrate) ∧
      (∀ i : StringNo, argByte body 0 = i.val →
        let x := s.string i
        exec (.stringRead tag body) s = .next ((s.taken .stringRead tag).replied tag .ok (.string {
          number := i
          fitting := x.fitting
          closed := if h : i.val < 8 then some s.lockers.closed[i.val] else none
          settings := s.settings.strings[i.val]
          driver := match x.driver with
            | .idle => .idle
            | .pulsing _ _ => .pulsing
            | .resting _ => .resting
          current := match x.driver with
            | .pulsing p _ => some p
            | _ => none
          queue := x.queue
          levels := ((List.finRange 32).filter (fun p => decide (i.val < 8 ∨ p.val < 24))).map
            (fun p => (s.doorOpen i p, s.boltThrown i p)) })).arbitrate)) ∧
    (s.takes .cabinRead body →
      (23 < argByte body 0 → exec (.cabinRead tag body) s =
        .next ((s.taken .cabinRead tag).replied tag .range .none).arbitrate) ∧
      (∀ c : CabinNo, argByte body 0 = c.val →
        let x := s.cabin c
        exec (.cabinRead tag body) s = .next ((s.taken .cabinRead tag).replied tag .ok (.cabin {
          number := c
          state := x.state
          lampMode := match x.state with
            | .free => .off
            | .closing => .steady
            | .held => .steady
            | .overdue => .slow
            | .opening => .off
            | .suspended => .fast
          lamp := match x.state with
            | .free => false
            | .closing => true
            | .held => true
            | .overdue => s.cabins.blink.slow
            | .opening => false
            | .suspended => s.cabins.blink.fast
          holder := x.holder
          work := x.work
          retryUsed := x.retryUsed
          expiryMark := x.expiryMark
          releaseMark := x.releaseMark
          due1 := x.due1
          due2 := x.due2
          doorOpen := s.doorOpen 8 (cabinPosition c)
          boltThrown := s.boltThrown 8 (cabinPosition c)
          link := x.link
          limit := s.settings.cabinLimit
          grace := s.settings.cabinGrace
          halfPeriod := s.settings.halfPeriod })).arbitrate)) ∧
    (s.takes .laneRead body →
      (3 < argByte body 0 → exec (.laneRead tag body) s =
        .next ((s.taken .laneRead tag).replied tag .range .none).arbitrate) ∧
      (∀ l : LaneNo, argByte body 0 = l.val →
        let x := s.lane l
        exec (.laneRead tag body) s = .next ((s.taken .laneRead tag).replied tag .ok (.lane {
          number := l
          fitted := decide (l.val < s.settings.fittedLanes)
          role := s.settings.roles[l.val]
          service := x.service
          beams := x.beams
          phase := x.phase
          arm := match x.arm with
            | none => none
            | some a => some ⟨a.band, a.expiry, a.inbound⟩
          commit := match x.commit with
            | none => none
            | some c => some (c.band, c.stamp)
          link := x.link
          turnstile := x.turnstile
          swallow := x.swallow
          eject := x.eject
          armWindow := s.settings.armWindow
          occupancy := s.lanes.occupancy
          capacity := s.settings.capacity
          margin := s.settings.margin
          full := s.lanes.full })).arbitrate)) ∧
    (s.takes .headRead body →
      (283 < argWord body 0 → exec (.headRead tag body) s =
        .next ((s.taken .headRead tag).replied tag .range .none).arbitrate) ∧
      (∀ h : HeadNo, argWord body 0 = h.val →
        let x := s.head h
        let polled (line : Line) : Option (Line × Bool) :=
          ((s.engine line).poll.filter (fun p => decide (p.head = h))).map (fun p => (line, p.probe))
        exec (.headRead tag body) s = .next ((s.taken .headRead tag).replied tag .ok (.head {
          number := h
          inService := if h1 : h.val < 256
            then decide ((s.string (lockerString ⟨h.val, h1⟩)).fitting = .fitted)
            else if h.val < 280 then decide ((s.string 8).fitting = .fitted)
            else decide (h.val - 280 < s.settings.fittedLanes)
          state := x.state
          miss := x.miss
          tried := x.tried
          verdict := x.verdict
          poll := (polled .a).or (polled .b)
          probeLine := x.probeLine
          probe := x.probe
          presentation := s.slot h
          pollWindow := s.settings.pollWindow
          missLimit := s.settings.missLimit })).arbitrate)) ∧
    (s.takes .clockRead body → exec (.clockRead tag body) s =
      .next ((s.taken .clockRead tag).replied tag .ok (.clock s.clock.value s.clock.isSet)).arbitrate) ∧
    (s.takes .tariffRead body → exec (.tariffRead tag body) s =
      .next ((s.taken .tariffRead tag).replied tag .ok
        (.tariff s.settings.tariff s.clock.pendingTable s.clock.switchStamp)).arbitrate)

/-! ### Cabins -/

/-- CABIN RELEASE, CABIN SUSPEND and CABIN RESUME (R107, R106): a number above 23 is replied RANGE; RELEASE opens a HELD
or OVERDUE cabin, with a WITHDRAW at the tail of string 8's queue; SUSPEND takes a FREE cabin out of service; RESUME
returns a SUSPENDED one to FREE, or begins the RESTORE opening where the bolt is thrown; from any other state, STATE
with no change. -/
def Obligations.CabinRequests : Prop :=
  ∀ (s : State) (tag : Byte) (body : List Byte),
    (23 < argByte body 0 → ∀ q ∈ [Request.cabinRelease, .cabinSuspend, .cabinResume], s.takes q body →
      exec (q.command tag body) s = .next ((s.taken q tag).replied tag .range .none).arbitrate) ∧
    (∀ c : CabinNo, argByte body 0 = c.val →
      let x := s.cabin c
      let opened (u : State) (a : CabinAction) (prior : CabinState) : State := ((u.setCabin c { x with
        state := .opening
        work := some ⟨a, none, .desk, s.clock.value, prior, .queued⟩
        retryUsed := false
        expiryMark := false
        releaseMark := false
        window := none }).setString 8 { s.string 8 with
          queue := (s.string 8).queue ++ [⟨cabinPosition c, .withdraw⟩] }).replied tag .ok .none
      (s.takes .cabinRelease body → exec (.cabinRelease tag body) s = .next
        (if x.state = .held ∨ x.state = .overdue then opened (s.taken .cabinRelease tag) .release x.state
          else (s.taken .cabinRelease tag).replied tag .state .none).arbitrate) ∧
      (s.takes .cabinSuspend body → exec (.cabinSuspend tag body) s = .next
        (if x.state = .free
          then ((s.taken .cabinSuspend tag).setCabin c { x with state := .suspended }).replied tag .ok .none
          else (s.taken .cabinSuspend tag).replied tag .state .none).arbitrate) ∧
      (s.takes .cabinResume body →
        (x.state ≠ .suspended → exec (.cabinResume tag body) s =
          .next ((s.taken .cabinResume tag).replied tag .state .none).arbitrate) ∧
        (x.state = .suspended → s.boltThrown 8 (cabinPosition c) = some true → exec (.cabinResume tag body) s =
          .next (opened (s.taken .cabinResume tag) .restore .free).arbitrate) ∧
        (x.state = .suspended → s.boltThrown 8 (cabinPosition c) = some false → exec (.cabinResume tag body) s =
          .next (((s.taken .cabinResume tag).setCabin c { x with state := .free }).replied tag .ok .none).arbitrate)))

/-- The ends of a cabin's action (R99 to R102). The confirm window's expiry queues the pulse again, and after a retry
jams the cabin: SUSPENDED with every field at its reset value, the hold entry closed JAMMED, CABIN_JAMMED posted. A
THROW confirmed with the door closed makes the cabin HELD with both due stamps, held at the largest clock value, the
due tests made at once (R100, R103), or with the release mark set begins a RELEASE; with the door open it is undone. A
WITHDRAW confirmed makes it FREE, and what is journaled goes by the action. The contact scanner's reports at a held
cabin (R104): a bolt withdrawal makes it FREE at once, with the hold entry closed HANDLE; a door opening with the bolt
thrown forces it: CABIN_FORCED is posted, the hold entry closed FORCED, and the cabin is OPENING with a WITHDRAW at the
tail of the queue. The reports at a CLOSING or OPENING cabin (R105, R99): a bolt change to the target while CONFIRMING
confirms; while QUEUED a door opening returns a CLOSING cabin to FREE with the entry closed DOOR_OPEN, and turns an
OPEN or RELEASE with the bolt thrown into a FORCED_OPEN, and a bolt withdrawal makes an OPENING cabin FREE as the
handle does. Every other report, and every one at a FREE or SUSPENDED cabin, sets the level and does nothing more. In
the winding-down interval the queue stays as it is (R83), and that the cabin reacts there is the model's choice (log
22). -/
def Obligations.CabinActionEnds : Prop :=
  (∀ (s : State) (c : CabinNo) (w : CabinWork), (s.cabin c).work = some w →
     let x := s.cabin c
     let queued (t : State) (d : Direction) : State := t.setString 8 { s.string 8 with
       queue := s.pulsesWith 8 (cabinPosition c) d }
     let rests (st : CabinState) (o : EntryOutcome) : State :=
       (s.setCabin c ⟨st, none, none, false, none, none, false, false, none, none⟩).journalClose x.link (.cabin c) o
     (∀ ms, w.sub = .confirming → x.window = some ms →
       (x.retryUsed = false → exec (.cabinConfirmExpiry c) s = .next (queued (s.setCabin c { x with
         work := some { w with sub := .queued }, retryUsed := true, window := none })
           (if x.state = .closing then .throw else .withdraw)).arbitrate) ∧
       (x.retryUsed = true → exec (.cabinConfirmExpiry c) s =
         .next ((rests .suspended .jammed).post .cabinJammed (.cabin c)).arbitrate)) ∧
     (x.state = .closing → s.doorOpen 8 (cabinPosition c) = some true → s.confirmCabin c =
       queued (((s.setCabin c { x with link := none }).journalClose x.link (.cabin c) .doorOpen).setCabin c { x with
         state := .opening
         work := some ⟨.undo, none, .desk, s.clock.value, .free, .queued⟩
         retryUsed := false
         expiryMark := false
         releaseMark := false
         window := none
         link := none }) .withdraw) ∧
     (∀ due1 due2 : Stamp, x.state = .closing → s.doorOpen 8 (cabinPosition c) = some false → x.releaseMark = false →
       due1.toNat = min 4294967295 (s.clock.value.toNat + s.settings.cabinLimit) →
       due2.toNat = min 4294967295 (due1.toNat + s.settings.cabinGrace) → s.clock.value.toNat < due1.toNat →
       s.confirmCabin c = s.setCabin c { x with
         state := .held
         work := none
         retryUsed := false
         window := none
         due1 := some due1
         due2 := some due2 }) ∧
     (∀ due1 due2 : Stamp, x.state = .closing → s.doorOpen 8 (cabinPosition c) = some false → x.releaseMark = false →
       due1.toNat = min 4294967295 (s.clock.value.toNat + s.settings.cabinLimit) →
       due2.toNat = min 4294967295 (due1.toNat + s.settings.cabinGrace) →
       s.confirmCabin c = (s.setCabin c { x with
         state := .held
         work := none
         retryUsed := false
         window := none
         due1 := some due1
         due2 := some due2 }).dueTests c) ∧
     (x.state = .closing → s.doorOpen 8 (cabinPosition c) = some false → x.releaseMark = true →
       s.confirmCabin c = queued (s.setCabin c { x with
         state := .opening
         work := some ⟨.release, none, .desk, s.clock.value, .free, .queued⟩
         retryUsed := false
         expiryMark := false
         releaseMark := false
         window := none }) .withdraw) ∧
     (x.state = .opening →
       (w.action = .opn → w.party ≠ .master → s.confirmCabin c = rests .free .done) ∧
       (w.action = .opn → w.party = .master → s.confirmCabin c = (rests .free .done).journalClosed (.cabin c) w.band
         .master .cabinRelease w.stamp .done) ∧
       (w.action = .release → x.expiryMark = false → s.confirmCabin c = (rests .free .done).journalClosed (.cabin c)
         x.holder .desk .cabinRelease w.stamp .done) ∧
       (w.action = .release → x.expiryMark = true → s.confirmCabin c =
         (rests .free .expired).post .cabinExpired (.cabin c)) ∧
       (w.action ∈ [CabinAction.undo, .forcedOpen, .restore] → x.link = none → s.confirmCabin c = rests .free .done))) ∧
  (∀ (s : State) (c : CabinNo),
     let x := s.cabin c
     (x.state = .held ∨ x.state = .overdue →
       s.cabinBoltChange c false =
         (s.setCabin c ⟨.free, none, none, false, none, none, false, false, none, none⟩).journalClose x.link (.cabin c)
           .handle ∧
       s.cabinBoltChange c true = s ∧
       (s.boltThrown 8 (cabinPosition c) = some true → s.cabinDoorOpened c =
         ((((s.post .cabinForced (.cabin c)).setCabin c { x with link := none }).journalClose x.link (.cabin c)
           .forced).setCabin c { x with
             state := .opening
             work := some ⟨.forcedOpen, none, .desk, s.clock.value, x.state, .queued⟩
             retryUsed := false
             expiryMark := false
             releaseMark := false
             window := none
             link := none }).setString 8 { s.string 8 with
               queue := s.pulsesWith 8 (cabinPosition c) .withdraw })) ∧
     (∀ w, x.work = some w →
       let removed : State := s.setString 8 { s.string 8 with
         queue := s.pulsesWithout 8 (cabinPosition c) }
       let freed (o : EntryOutcome) : State :=
         (removed.setCabin c ⟨.free, none, none, false, none, none, false, false, none, none⟩).journalClose x.link
           (.cabin c) o
       (x.state = .closing → s.cabinBoltChange c false = s ∧
         (s.cabinBoltChange c true = if w.sub = .confirming then s.confirmCabin c else s) ∧
         s.cabinDoorOpened c = if w.sub = .queued then freed .doorOpen else s) ∧
       (x.state = .opening → s.cabinBoltChange c true = s ∧
         (w.sub = .queued → s.cabinBoltChange c false = freed .handle) ∧
         (w.sub = .confirming → s.cabinBoltChange c false = s.confirmCabin c) ∧
         (w.sub = .inFlight → s.cabinBoltChange c false = s) ∧
         (w.sub = .queued → w.action = .opn ∨ w.action = .release →
           s.boltThrown 8 (cabinPosition c) = some true → s.cabinDoorOpened c =
             ((s.setCabin c { x with
               work := some ⟨.forcedOpen, none, .desk, s.clock.value, w.prior, .queued⟩
               expiryMark := false
               link := none }).post .cabinForced (.cabin c)).journalClose x.link (.cabin c) .forced) ∧
         (w.sub ≠ .queued ∨ (w.action ≠ .opn ∧ w.action ≠ .release) ∨
             s.boltThrown 8 (cabinPosition c) ≠ some true → s.cabinDoorOpened c = s))) ∧
     (x.state = .free ∨ x.state = .suspended → s.cabinDoorOpened c = s ∧ ∀ thrown, s.cabinBoltChange c thrown = s))

/-! ### The site clock and the tariff -/

/-- The blink generator's expiry (R94) and the steps of the clock (R110, R112, R114, R111, R103, R118): the second
timer counts the clock up by 1, from 4,294,967,295 to 0; a minute pulse with the set flag clear is ignored, and else
snaps the clock to the nearest whole minute, a remainder of 30 taken forwards, posting CLOCK_ADJUSTED where that
changes it; CLOCK SET loads its value and sets the flag, in every part state. Where a step reaches a due stamp the
cabin becomes OVERDUE, or begins its expiry opening, or does both at once, each cabin by its own due tests and, by the
model's choice (log 31), in rising order and before the switch; where it reaches the switch stamp the pending tariff
becomes active. In the winding-down interval the queue stays as it is (R83); that a cabin expires there is the model's
choice (log 22), and so is that no exit is decided between a step's new value and its switch (log 40). -/
def Obligations.TimersTick : Prop :=
  ∀ s : State,
    let b := s.cabins.blink
    let up : Stamp := s.clock.value + 1
    let now (v : Stamp) : State := s.setClock { s.clock with value := v }
    let tested (v : Stamp) : State := (allFin 24).foldl State.dueTests (now v)
    (exec .blinkExpiry s = .next (s.setCabins { s.cabins with
      blink := ⟨b.count + 1, !b.fast, if b.count = 3 then !b.slow else b.slow, s.settings.halfPeriod⟩ }).arbitrate) ∧
    ((∀ c, s.cabinQuiet c up) → s.switchQuiet up → exec .secondTimerExpiry s = .next (now up).arbitrate) ∧
    (∀ c x, (∀ d, d ≠ c → s.cabinQuiet d up) → s.switchQuiet up → (s.cabin c).state = .held →
      (s.cabin c).due1 = some x → x.toNat ≤ up.toNat → (∀ y ∈ (s.cabin c).due2, up.toNat < y.toNat) →
      exec .secondTimerExpiry s =
        .next (((now up).setCabin c { s.cabin c with state := .overdue }).post .cabinOverdue (.cabin c)).arbitrate) ∧
    (∀ c x, (∀ d, d ≠ c → s.cabinQuiet d up) → s.switchQuiet up → (s.cabin c).state = .overdue →
      (s.cabin c).due2 = some x → x.toNat ≤ up.toNat →
      exec .secondTimerExpiry s = .next ((((now up).setCabin c { s.cabin c with
        state := .opening
        work := some ⟨.release, none, .desk, up, .overdue, .queued⟩
        retryUsed := false
        expiryMark := true
        releaseMark := false
        window := none }).setString 8 { s.string 8 with
          queue := s.pulsesWith 8 (cabinPosition c) .withdraw }).journalClosed (.cabin c)
            (s.cabin c).holder .desk .cabinExpire up .done).arbitrate) ∧
    (∀ c, let x := s.cabin c
      let is (due : Option Stamp) : Bool := due.any (fun d => decide (d.toNat ≤ s.clock.value.toNat))
      let first : State := if x.state = .held ∧ is x.due1 = true
        then (s.setCabin c { x with state := .overdue }).post .cabinOverdue (.cabin c) else s
      s.dueTests c = if (first.cabin c).state = .overdue ∧ is x.due2 = true then ((first.setCabin c { x with
        state := .opening
        work := some ⟨.release, none, .desk, s.clock.value, .overdue, .queued⟩
        retryUsed := false
        expiryMark := true
        releaseMark := false
        window := none }).setString 8 { s.string 8 with
          queue := s.pulsesWith 8 (cabinPosition c) .withdraw }).journalClosed (.cabin c) x.holder .desk .cabinExpire
            s.clock.value .done else first) ∧
    (s.switchQuiet up → exec .secondTimerExpiry s = .next (tested up).arbitrate) ∧
    (∀ table x, s.clock.pendingTable = some table → s.clock.switchStamp = some x → x.toNat ≤ up.toNat →
      exec .secondTimerExpiry s = .next ((tested up).switchedTo table).arbitrate) ∧
    (∀ table x, (∀ c, s.cabinQuiet c up) → s.clock.pendingTable = some table → s.clock.switchStamp = some x →
      x.toNat ≤ up.toNat → exec .secondTimerExpiry s = .next ((now up).switchedTo table).arbitrate) ∧
    (s.clock.isSet = false → exec .minutePulse s = .next s.arbitrate) ∧
    (∀ v : Stamp, s.clock.isSet = true →
      v.toNat = (if s.clock.value.toNat % 60 < 30 then s.clock.value.toNat - s.clock.value.toNat % 60
        else s.clock.value.toNat + 60 - s.clock.value.toNat % 60) →
      (v = s.clock.value → exec .minutePulse s = .next s.arbitrate) ∧
      (v ≠ s.clock.value → (∀ c, s.cabinQuiet c v) → s.switchQuiet v →
        exec .minutePulse s = .next ((now v).post .clockAdjusted .none).arbitrate) ∧
      (v ≠ s.clock.value → (s.switchQuiet v →
          exec .minutePulse s = .next ((tested v).post .clockAdjusted .none).arbitrate) ∧
        (∀ table x, s.clock.pendingTable = some table → s.clock.switchStamp = some x → x.toNat ≤ v.toNat →
          exec .minutePulse s = .next (((tested v).switchedTo table).post .clockAdjusted .none).arbitrate))) ∧
    (∀ tag body, s.link.outstanding = none → body.length = 4 → (∀ c, s.cabinQuiet c (argLong body 0)) →
      s.switchQuiet (argLong body 0) → exec (.clockSet tag body) s = .next (((s.taken .clockSet tag).setClock
        { s.clock with value := argLong body 0, isSet := true }).replied tag .ok .none).arbitrate) ∧
    (∀ tag body, s.link.outstanding = none → body.length = 4 →
      let t := (allFin 24).foldl State.dueTests ((s.taken .clockSet tag).setClock
        { s.clock with value := argLong body 0, isSet := true })
      (argLong body 0 = s.clock.value → exec (.clockSet tag body) s = .next (((s.taken .clockSet tag).setClock
        { s.clock with isSet := true }).replied tag .ok .none).arbitrate) ∧
      (argLong body 0 ≠ s.clock.value → s.switchQuiet (argLong body 0) →
        exec (.clockSet tag body) s = .next (t.replied tag .ok .none).arbitrate) ∧
      (∀ table x, argLong body 0 ≠ s.clock.value → s.clock.pendingTable = some table →
        s.clock.switchStamp = some x → x.toNat ≤ (argLong body 0).toNat →
        exec (.clockSet tag body) s = .next ((t.switchedTo table).replied tag .ok .none).arbitrate))

/-- TARIFF STAGE, TARIFF SWITCH and TARIFF DISCARD (R116 to R119). STAGE: a value out of range is replied RANGE; else
the record replaces that of its class in the pending table, which is a copy of the active one where it was absent.
SWITCH: STATE with no pending table; the switch is made for "now" and for a stamp already reached, and replied as a
settings request; a stamp with the clock unset is replied CLOCK_UNSET, and one above the clock is kept. DISCARD: the
pending table and the stamp become absent, or STATE where there is none. That a mode byte out of range is
replied RANGE before STATE is the model's choice (log 29), so is that no pending table is replied STATE also for a stamp
with the clock unset (log 42), and so is that a switch asks for the HEADER WRITE, and its
reply waits for it, also where the two tables are equal (log 28). -/
def Obligations.TariffRequests : Prop :=
  ∀ (s : State) (tag : Byte) (body : List Byte),
    (s.takes .tariffStage body →
      let x : TariffClass := ⟨argWord body 1, argByte body 3, argWord body 4, argWord body 6⟩
      let u := s.taken .tariffStage tag
      let good : Prop := x.grace ≤ 900 ∧ 1 ≤ x.block ∧ x.block ≤ 120 ∧ x.price ≤ 5000
      (7 < argByte body 0 ∨ ¬good →
        exec (.tariffStage tag body) s = .next (u.replied tag .range .none).arbitrate) ∧
      (∀ c : ClassNo, argByte body 0 = c.val → good →
        (∀ table, s.clock.pendingTable = some table → exec (.tariffStage tag body) s = .next ((u.setClock
          { s.clock with pendingTable := some (table.set c.val x) }).replied tag .ok .none).arbitrate) ∧
        (s.clock.pendingTable = none → exec (.tariffStage tag body) s = .next ((u.setClock
          { s.clock with pendingTable := some (s.settings.tariff.set c.val x) }).replied tag .ok
            .none).arbitrate))) ∧
    (s.takes .tariffSwitch body →
      let u := s.taken .tariffSwitch tag
      let made (table : TariffTable) : State := if s.band.port = .fault
        then (u.switchedTo table).replied tag .store .none
        else (u.switchedTo table).setBand { (u.switchedTo table).band with
          replyWait := some ⟨.header, .none, false⟩ }
      (1 < argByte body 0 → exec (.tariffSwitch tag body) s = .next (u.replied tag .range .none).arbitrate) ∧
      (argByte body 0 ≤ 1 → s.clock.pendingTable = none →
        exec (.tariffSwitch tag body) s = .next (u.replied tag .state .none).arbitrate) ∧
      (∀ table, s.clock.pendingTable = some table →
        (argByte body 0 = 1 → exec (.tariffSwitch tag body) s = .next (made table).arbitrate) ∧
        (argByte body 0 = 0 → s.clock.isSet = false →
          exec (.tariffSwitch tag body) s = .next (u.replied tag .clockUnset .none).arbitrate) ∧
        (argByte body 0 = 0 → s.clock.isSet = true → (argLong body 1).toNat ≤ s.clock.value.toNat →
          exec (.tariffSwitch tag body) s = .next (made table).arbitrate) ∧
        (argByte body 0 = 0 → s.clock.isSet = true → s.clock.value.toNat < (argLong body 1).toNat →
          exec (.tariffSwitch tag body) s = .next ((u.setClock { s.clock with
            switchStamp := some (argLong body 1) }).replied tag .ok .none).arbitrate))) ∧
    (s.takes .tariffDiscard body →
      let u := s.taken .tariffDiscard tag
      (s.clock.pendingTable.isSome = true → exec (.tariffDiscard tag body) s = .next ((u.setClock
        { s.clock with pendingTable := none, switchStamp := none }).replied tag .ok .none).arbitrate) ∧
      (s.clock.pendingTable = none →
        exec (.tariffDiscard tag body) s = .next (u.replied tag .state .none).arbitrate))

/-- The stay arithmetic (R120, R121, R122) and STAY QUERY at a band whose record is held (R124). `f` holds the figures:
the blocks are the smallest number whose seconds are the excess or more, held at 65535. An exit's debit keeps both
amounts in their range. -/
def Obligations.StayArithmetic : Prop :=
  (∀ (now e : Stamp) (paid settled credit : Nat) (t : TariffClass), 1 ≤ t.block →
    let f := stayFigures now e paid settled credit t
    (e.toNat ≤ now.toNat → f.elapsed = now.toNat - e.toNat) ∧ (now.toNat < e.toNat → f.elapsed = 0) ∧
    f.allowance = paid * 60 + t.grace ∧ (f.elapsed ≤ f.allowance → f.excess = 0) ∧
    (f.allowance < f.elapsed → f.excess = f.elapsed - f.allowance) ∧
    f.blocks ≤ 65535 ∧ (f.blocks < 65535 → f.excess ≤ f.blocks * t.block * 60) ∧
    (∀ n, f.excess ≤ n * t.block * 60 → f.blocks ≤ n) ∧
    (f.blocks * t.price ≤ t.cap → f.charge = f.blocks * t.price) ∧ (t.cap < f.blocks * t.price → f.charge = t.cap) ∧
    (settled < f.charge → f.owed = f.charge - settled) ∧ (f.charge ≤ settled → f.owed = 0) ∧
    ∀ rec : BandRecord, rec.settled = settled → rec.credit = credit → f.owed ≤ credit → t.cap ≤ 65535 →
      (exitRecord rec f).credit + f.owed = credit ∧ (exitRecord rec f).settled = settled + f.owed ∧
      (settled ≤ 65535 → (exitRecord rec f).settled ≤ 65535)) ∧
  (∀ (s : State) (tag : Byte) (body : List Byte),
    let u := s.taken .stayQuery tag
    (s.takes .stayQuery body → s.tableLength ≤ argWord body 0 →
      exec (.stayQuery tag body) s = .next (u.replied tag .range .none).arbitrate) ∧
    (s.takes .stayQuery body → argWord body 0 < s.tableLength → s.clock.isSet = false →
      exec (.stayQuery tag body) s = .next (u.replied tag .clockUnset .none).arbitrate) ∧
    (∀ n e rec, s.Asks .stayQuery body 0 n e rec → s.clock.isSet = true →
      (rec.state ≠ .inside → exec (.stayQuery tag body) s =
        .next (((u.usedLast e).replied tag .state .none).emptyTest e).arbitrate) ∧
      (∀ entry, rec.state = .inside → rec.entry = some entry → exec (.stayQuery tag body) s =
        .next ((u.usedLast e).replied tag .ok (.stay n (stayFigures s.clock.value entry rec.paid rec.settled rec.credit
          s.settings.tariff[rec.cls.val]))).arbitrate)))

/-! ### Gate lanes and the hall -/

/-- LANE SERVICE and LANE SETTINGS (R137, R138). SERVICE: entering it cancels an arm, with the turnstile on and the
phase count 0; leaving it switches the turnstile off; otherwise no change. SETTINGS: a value out of range is replied
RANGE; an affected lane that is ARMED or has a commit pending, STATE; else a lane that becomes fitted reads its beams,
a lane whose role changes has phase count 0, a lane that ceases to be fitted takes its reset values and its head leaves
service (R29, R152), and the values are taken. CAPACITY SET and OCCUPANCY SET (R139, R129): a capacity or margin out of
range is replied RANGE; a count above 999 is taken as 999; behind either the full flag is evaluated. -/
def Obligations.LaneRequests : Prop :=
  (∀ (s : State) (tag : Byte) (body : List Byte),
     (s.takes .laneService body →
       let u := s.taken .laneService tag
       (3 < argByte body 0 ∨ s.settings.fittedLanes ≤ argByte body 0 ∨ 1 < argByte body 1 →
         exec (.laneService tag body) s = .next (u.replied tag .range .none).arbitrate) ∧
       (∀ l : LaneNo, argByte body 0 = l.val → l.val < s.settings.fittedLanes →
         let x := s.lane l
         (argByte body 1 = 1 → x.service = false → x.arm = none → exec (.laneService tag body) s =
           .next ((u.setLane l { x with service := true, phase := 0, turnstile := true }).replied tag .ok
             .none).arbitrate) ∧
         (argByte body 1 = 1 → x.service = false → x.arm.isSome = true → exec (.laneService tag body) s =
           .next (((u.setLane l { x with
             service := true, phase := 0, turnstile := true, arm := none, link := none }).journalClose x.link (.lane l)
               .cancelled).replied tag .ok .none).arbitrate) ∧
         (argByte body 1 = 0 → x.service = true → exec (.laneService tag body) s =
           .next ((u.setLane l { x with service := false, phase := 0, turnstile := false }).replied tag .ok
             .none).arbitrate) ∧
         ((argByte body 1 = 1 ∧ x.service = true) ∨ (argByte body 1 = 0 ∧ x.service = false) →
           exec (.laneService tag body) s = .next (u.replied tag .ok .none).arbitrate))) ∧
     (s.takes .laneSettings body →
       let u := s.taken .laneSettings tag
       let role (l : LaneNo) : LaneRole := if argByte body (l.val + 1) = 0 then .entry else .exit
       let good : Prop := argByte body 0 ≤ 4 ∧ (∀ l : LaneNo, argByte body (l.val + 1) ≤ 1) ∧ 2 ≤ argByte body 5 ∧
         argByte body 5 ≤ 30
       (¬good → exec (.laneSettings tag body) s = .next (u.replied tag .range .none).arbitrate) ∧
       (∀ l : LaneNo, good → l.val < s.settings.fittedLanes →
         argByte body 0 ≤ l.val ∨ role l ≠ s.settings.roles[l.val] →
         (s.lane l).arm.isSome = true ∨ (s.lane l).commit.isSome = true →
         exec (.laneSettings tag body) s = .next (u.replied tag .state .none).arbitrate) ∧
       (∀ (table : Vector Lane 4) (roles : Vector LaneRole 4), good → s.settings.fittedLanes ≤ argByte body 0 →
         (∀ l : LaneNo, roles[l.val] = role l) →
         (∀ l : LaneNo, l.val < s.settings.fittedLanes → role l ≠ s.settings.roles[l.val] →
           (s.lane l).arm = none ∧ (s.lane l).commit = none) →
         (∀ l : LaneNo, table[l.val] =
           if l.val < s.settings.fittedLanes then
             (if role l = s.settings.roles[l.val] then s.lane l else { s.lane l with phase := 0 })
           else if l.val < argByte body 0 then { Lane.atReset with beams := s.lanes.pins[l.val] } else s.lane l) →
         exec (.laneSettings tag body) s = .next ((u.setLanes { s.lanes with table := table }).tookSettings tag
           { s.settings with
             fittedLanes := argByte body 0, roles := roles, armWindow := argByte body 5 }).arbitrate) ∧
       (∀ (t : State) (roles : Vector LaneRole 4), good → argByte body 0 < s.settings.fittedLanes →
         s.settings.fittedLanes ≤ 4 → (∀ l : LaneNo, roles[l.val] = role l) →
         (∀ l : LaneNo, l.val < s.settings.fittedLanes →
           argByte body 0 ≤ l.val ∨ role l ≠ s.settings.roles[l.val] →
           (s.lane l).arm = none ∧ (s.lane l).commit = none) →
         s.HeadsLeft t (fun h => decide (280 + argByte body 0 ≤ h.val ∧ h.val < 280 + s.settings.fittedLanes)) →
         t = { u with
           pres := t.pres
           reader := t.reader
           lanes := { s.lanes with table := t.lanes.table }
           band := { s.band with cache := t.band.cache } } →
         (∀ l : LaneNo, t.lane l =
           if l.val < argByte body 0 then
             (if role l = s.settings.roles[l.val] then s.lane l else { s.lane l with phase := 0 })
           else if l.val < s.settings.fittedLanes then Lane.atReset else s.lane l) →
         exec (.laneSettings tag body) s = .next (t.tookSettings tag { s.settings with
           fittedLanes := argByte body 0, roles := roles, armWindow := argByte body 5 }).arbitrate))) ∧
  (∀ (s : State) (tag : Byte) (body : List Byte),
     (s.takes .capacitySet body →
       let good : Prop := 1 ≤ argWord body 0 ∧ argWord body 0 ≤ 999 ∧ argByte body 2 ≤ 50
       (¬good → exec (.capacitySet tag body) s =
         .next ((s.taken .capacitySet tag).replied tag .range .none).arbitrate) ∧
       (good → exec (.capacitySet tag body) s = .next (((s.taken .capacitySet tag).tookSettings tag { s.settings with
         capacity := argWord body 0, margin := argByte body 2 }).hallTested).arbitrate)) ∧
     (s.takes .occupancySet body → exec (.occupancySet tag body) s =
       .next ((((s.taken .occupancySet tag).setLanes { s.lanes with
         occupancy := if argWord body 0 ≤ 999 then argWord body 0 else 999 }).hallTested).replied tag .ok
           (.occupancy (if argWord body 0 ≤ 999 then argWord body 0 else 999))).arbitrate))

/-- A change of a beam input (R127, R128, R130, R131): a lane that is not fitted takes no edge, and neither does the
level a beam already has (log 3); in SERVICE mode the level is set and nothing more; else the phase count moves by 1 by
R127's table. At +4 or −4 it is 0 and a passage changes the occupancy, with 999 kept at 999 and 0 at 0, and the full
flag is evaluated; a passage against the role posts WRONG_WAY, one at a DISARMED lane TAILGATE; one in the role's
direction consumes the arm, and at an entry lane the armed band, ISSUED and held, is INSIDE from the clock now. For an
armed band in any state, held or not, the lane records the commit pending with the band and the passage stamp now and
sends it (R131, R5, R6): it is served, joins a wait list or takes an entry with a FETCH, or ends BUSY, to be sent
again, or STORE, abandoned. That a commit out of the band table is abandoned too is the model's choice (log 34). -/
def Obligations.BeamEdges : Prop :=
  ∀ (s : State) (l : LaneNo) (beam : Beam) (broken : Bool),
    let x := s.lane l
    let set (b : Beams) : Beams := match beam with
      | .outer => { b with outer := broken }
      | .inner => { b with inner := broken }
    let level : Bool := match beam with
      | .outer => x.beams.outer
      | .inner => x.beams.inner
    let other : Bool := match beam with
      | .outer => x.beams.inner
      | .inner => x.beams.outer
    let n : Int := x.phase + (if (beam = .outer ∧ broken ≠ other) ∨ (beam = .inner ∧ broken = other) then 1 else -1)
    let pinned : State := s.setLanes { s.lanes with pins := s.lanes.pins.set l.val (set s.lanes.pins[l.val]) }
    (s.settings.fittedLanes ≤ l.val ∨ level = broken → exec (.beamEdge l beam broken) s = .next pinned.arbitrate) ∧
    (l.val < s.settings.fittedLanes → level ≠ broken →
      (x.service = true → exec (.beamEdge l beam broken) s =
        .next (pinned.setLane l { x with beams := set x.beams }).arbitrate) ∧
      (x.service = false → n ≠ 4 → n ≠ -4 → exec (.beamEdge l beam broken) s =
        .next (pinned.setLane l { x with beams := set x.beams, phase := n }).arbitrate) ∧
      (∀ inbound : Bool, x.service = false → n = (if inbound = true then 4 else -4) →
        let at0 := pinned.setLane l { x with beams := set x.beams, phase := 0 }
        let t := (at0.setLanes { at0.lanes with
          occupancy := if inbound = true then (if s.lanes.occupancy < 999 then s.lanes.occupancy + 1 else 999)
            else s.lanes.occupancy - 1 }).hallTested
        let passed := (t.setLane l { x with
          beams := set x.beams, phase := 0, arm := none, link := none, turnstile := false }).journalClose x.link
            (.lane l) .passed
        (s.settings.roles[l.val] = (if inbound = true then .exit else .entry) →
          exec (.beamEdge l beam broken) s = .next (t.post .wrongWay (.lane l)).arbitrate) ∧
        (s.settings.roles[l.val] = (if inbound = true then .entry else .exit) →
          (x.arm = none → exec (.beamEdge l beam broken) s = .next (t.post .tailgate (.lane l)).arbitrate) ∧
          (∀ a, x.arm = some a → a.band = none ∨ inbound = false →
            exec (.beamEdge l beam broken) s = .next passed.arbitrate) ∧
          (∀ a b e rec, x.arm = some a → a.band = some b → inbound = true → b.val < s.tableLength →
            s.bandService = true → s.entryOf b = some e → (s.entry e).content = .valid b rec → rec.state = .issued →
            exec (.beamEdge l beam broken) s = .next (((passed.setLane l { x with
              beams := set x.beams, phase := 0, arm := none, link := none, turnstile := false
              commit := none }).usedLast e).changed e b { rec with
                state := .inside, entry := some s.clock.value }).arbitrate) ∧
          (∀ a b, x.arm = some a → a.band = some b → inbound = true →
            let sent := passed.setLane l { x with
              beams := set x.beams, phase := 0, arm := none, link := none, turnstile := false
              commit := some ⟨b, s.clock.value, false⟩ }
            ∃ v : State, exec (.beamEdge l beam broken) s = .next v.arbitrate ∧
              sent.OpSent b (.commit l s.clock.value) v))))

/-- The timers of a lane (R131, R134, R135): a commit that ended BUSY is sent again with the same passage stamp, and is
served where the band is held, leaving an ISSUED band INSIDE and a band barred while ISSUED inside behind the bar;
where it is not it waits with others for the record, or takes an entry with a FETCH, or ends BUSY again, or STORE,
abandoned (R5, R6; one out of the band table is abandoned too by the model's choice, log 34); the end of a line's pulse
switches that line off and leaves the other; the arm timer's expiry disarms the lane, closes its entry EXPIRED and
posts ARM_EXPIRED. A timer that does not run changes nothing (log 3). -/
def Obligations.LaneTimers : Prop :=
  ∀ (s : State) (l : LaneNo),
    let x := s.lane l
    ((∀ c, x.commit = some c → c.retrying = false) → exec (.commitRetryExpiry l) s = .next s.arbitrate) ∧
    (∀ b stamp e rec, x.commit = some ⟨b, stamp, true⟩ → b.val < s.tableLength → s.bandService = true →
      s.entryOf b = some e → (s.entry e).content = .valid b rec →
      let u := (s.setLane l { x with commit := none }).usedLast e
      (rec.state = .issued → exec (.commitRetryExpiry l) s =
        .next (u.changed e b { rec with state := .inside, entry := some stamp }).arbitrate) ∧
      (rec.state = .barred → rec.beforeBar = some .issued → exec (.commitRetryExpiry l) s =
        .next (u.changed e b { rec with beforeBar := some .inside, entry := some stamp }).arbitrate) ∧
      (rec.state = .inside → exec (.commitRetryExpiry l) s = .next u.arbitrate)) ∧
    (∀ b stamp, x.commit = some ⟨b, stamp, true⟩ → ∃ t : State, exec (.commitRetryExpiry l) s = .next t.arbitrate ∧
      (s.setLane l { x with commit := some ⟨b, stamp, false⟩ }).OpSent b (.commit l stamp) t) ∧
    (∀ b stamp, x.commit = some ⟨b, stamp, true⟩ → s.bandService = true → b.val < s.tableLength →
      s.entryOf b = none →
      (s.band.port = .fault →
        exec (.commitRetryExpiry l) s = .next (s.setLane l { x with commit := none }).arbitrate) ∧
      (s.band.port ≠ .fault → 320 ≤ s.itemsHeld → exec (.commitRetryExpiry l) s = .next s.arbitrate)) ∧
    (exec (.linePulseExpiry l .swallow) s = .next (s.setLane l { x with swallow := false }).arbitrate) ∧
    (exec (.linePulseExpiry l .eject) s = .next (s.setLane l { x with eject := false }).arbitrate) ∧
    (x.arm = none → exec (.armTimerExpiry l) s = .next s.arbitrate) ∧
    (x.arm.isSome = true → exec (.armTimerExpiry l) s = .next (((s.setLane l { x with
      arm := none, link := none, turnstile := x.service && x.turnstile }).journalClose x.link (.lane l) .expired).post
        .armExpired (.lane l)).arbitrate)

/-- Grants at a head (R52, R97, R132, R133, with R36, R38, R50, R62, R122, R126): a band that owns no locker claims a
VACANT one, and a band that holds no cabin a FREE one, which throws its bolt and opens its entry; at an entry lane a
band arms the lane, whatever it owns or holds; at an exit lane that it can pay, a band that holds no cabin and owns no
locker but an OPENED one is RETURNED with the owed amount moved from credit to settled, the locker becomes VACANT and
the band leaves the companion lists as `State.lockerExit` gives (BandBarUnbarReturn says how), the swallow line pulses
and the lane is armed. An expiry stamp past the top of the clock is a free value (log 15). The exit's clause holds also
where an entry lane is armed with the band, which R133 does not test and R126 rules out: that both arms then stand is
the model's choice (log 43). -/
def Obligations.GrantsAtHeads : Prop :=
  ∀ (s : State) (line : Line) (h : HeadNo) (b : BandNo) (rec : BandRecord) (e : EntryNo), s.Presents line h b rec e →
    let u := s.grantedAt line h b rec.serial e
    let run := exec (.pollAnswer line h.val (goodAnswer h (.present b.val rec.serial))) s
    let opens (t : State) (sub : JournalSubject) (a : JournalAction) := t.journalOpen sub (some b) .owner a s.clock.value
    (∀ k : LockerNo, h.val = k.val → (∀ j, (s.locker j).owner ≠ some b) →
      (s.locker k).state = .vacant → s.lockers.closed[k.val / 32] = false →
      s.settings.fittedLanes = 0 ∨ rec.state = .inside → s.doorOpen (lockerString k) (lockerPosition k) = some false →
      let j := opens ((u.setLocker k { s.locker k with
        state := .locking
        owner := some b
        companions := []
        work := some ⟨.claim, some b, .owner, .vacant, .queued⟩
        retryUsed := false
        doorOpened := false
        window := none
        dirty := true }).setString (lockerString k) { s.string (lockerString k) with
          queue := (s.string (lockerString k)).queue ++ [⟨lockerPosition k, .throw⟩] }) (.locker k) .claim
      run = .next (j.2.setLocker k { j.2.locker k with link := j.1 }).arbitrate) ∧
    (∀ c : CabinNo, h.val = 256 + c.val → s.clock.isSet = true → (∀ d, (s.cabin d).holder ≠ some b) →
      (s.cabin c).state = .free →
      s.settings.fittedLanes = 0 ∨ rec.state = .inside → s.doorOpen 8 (cabinPosition c) = some false →
      let j := opens ((u.setCabin c { s.cabin c with
        state := .closing
        holder := some b
        work := some ⟨.claim, some b, .owner, s.clock.value, .free, .queued⟩
        retryUsed := false
        expiryMark := false
        releaseMark := false }).setString 8 { s.string 8 with
          queue := (s.string 8).queue ++ [⟨cabinPosition c, .throw⟩] }) (.cabin c) .cabinClaim
      run = .next (j.2.setCabin c { j.2.cabin c with link := j.1 }).arbitrate) ∧
    (∀ l : LaneNo, h.val = 280 + l.val → s.clock.isSet = true → (s.lane l).service = false → (s.lane l).arm = none →
      let arm (inbound : Bool) : Arm := ⟨some b, s.expiryStamp, inbound, s.settings.armWindow⟩
      (s.settings.roles[l.val] = .entry → (s.lane l).commit = none → rec.state = .issued → s.lanes.full = false →
        (∀ m, m ≠ l → ∀ a, (s.lane m).arm = some a → a.band ≠ some b) →
        let j := opens (u.stampTaken.setLane l { s.lane l with arm := some (arm true), turnstile := true }) (.lane l)
          .admission
        run = .next (j.2.setLane l { j.2.lane l with link := j.1 }).arbitrate) ∧
      (∀ entry, s.settings.roles[l.val] = .exit → rec.state = .inside → rec.entry = some entry →
        (∀ c, (s.cabin c).holder ≠ some b) → (∀ k, (s.locker k).owner = some b → (s.locker k).state = .opened) →
        let f := stayFigures s.clock.value entry rec.paid rec.settled rec.credit s.settings.tariff[rec.cls.val]
        f.owed ≤ rec.credit →
        let j := opens ((u.stampTaken.lockerExit b).setLane l { s.lane l with
          arm := some (arm false), turnstile := true, swallow := true }) (.lane l) .exit
        run = .next ((j.2.setLane l { j.2.lane l with link := j.1 }).changed e b { rec with
          credit := rec.credit - f.owed
          settled := rec.settled + f.owed
          state := .returned
          entry := none
          beforeBar := none }).arbitrate))

/-! ### The journal -/

/-- The writes and closes of the journal (R143 to R147), and JOURNAL READ (R148). A write puts the entry into the slot
at the write position with the present lap and advances the position, posting JOURNAL_HALF behind slot 255 and
JOURNAL_WRAP behind slot 511; an open entry in the slot is kept, closed OVERTAKEN now, as the overtaken copy. A close
sets end stamp and outcome in the slot that still holds the subject's open entry of the link's lap, and writes nothing
otherwise. WATCH is posted, with the locker as subject, each time an entry of a locker whose watch flag is on is closed
in place, closed OVERTAKEN or written closed (R147): for the overtaken entry first, then for the new one, then
JOURNAL_HALF or JOURNAL_WRAP. -/
def Obligations.JournalWrites : Prop :=
  ∀ (s : State) (sub : JournalSubject), s.part.winding = false →
    let j := s.journal
    let tell (t : State) (o : Option JournalSubject) : State := match o with
      | some (.locker k) => if (s.locker k).watch = true then t.post .watch (.locker k) else t
      | _ => t
    (∀ (band : Option BandNo) (party : Party) (action : JournalAction) (start : Stamp) (o : EntryOutcome)
      (copy : Option (SlotNo × JournalEntry)) (lost : Option JournalSubject),
      (∀ x, j.ring[j.pos.val] = some x → x.finish = none → lost = some x.subject ∧
        copy = some (j.pos, { x with finish := some (s.clock.value, .overtaken) })) →
      (∀ x, j.ring[j.pos.val] = some x → x.finish.isSome = true → lost = none ∧ copy = j.overtaken) →
      (j.ring[j.pos.val] = none → lost = none ∧ copy = j.overtaken) →
      let written (finish : Option (Stamp × EntryOutcome)) (told : Option JournalSubject) : State :=
        let t := tell (tell (s.setJournal
          ⟨j.ring.set j.pos.val (some ⟨j.lap, sub, band, party, action, start, finish⟩),
            if j.pos = 511 then 0 else j.pos + 1, if j.pos = 511 then j.lap + 1 else j.lap, copy⟩) lost) told
        if j.pos = 255 then t.post .journalHalf (.lap j.lap)
        else if j.pos = 511 then t.post .journalWrap (.lap (j.lap + 1)) else t
      s.journalOpen sub band party action start = (some ⟨j.pos, j.lap⟩, written none none) ∧
      s.journalClosed sub band party action start o = written (some (s.clock.value, o)) (some sub)) ∧
    (∀ (k : JournalLink) (o : EntryOutcome),
      (∀ x, j.ring[k.slot.val] = some x → x.lap = k.lap → x.subject = sub → x.finish = none →
        s.journalClose (some k) sub o = tell (s.setJournal { j with
          ring := j.ring.set k.slot.val (some { x with finish := some (s.clock.value, o) }) }) (some sub)) ∧
      ((∀ x, j.ring[k.slot.val] = some x → x.lap ≠ k.lap ∨ x.subject ≠ sub ∨ x.finish.isSome = true) →
        s.journalClose (some k) sub o = s)) ∧
    (∀ tag body, s.takes .journalRead body →
      let u := s.taken .journalRead tag
      (511 < argWord body 0 ∨ argByte body 2 = 0 ∨ 8 < argByte body 2 →
        exec (.journalRead tag body) s = .next (u.replied tag .range .none).arbitrate) ∧
      (∀ slot : SlotNo, argWord body 0 = slot.val → 1 ≤ argByte body 2 → argByte body 2 ≤ 8 →
        ∃ entries : List (List Byte), entries.length = argByte body 2 ∧
          (∀ i (h : i < entries.length), entries[i] =
            slotBytes (slot + Fin.ofNat 512 i) j.ring[(slot + Fin.ofNat 512 i).val]) ∧
          exec (.journalRead tag body) s = .next (u.replied tag .ok (.journal
            (toBe16 j.pos.val ++ toBe16 j.lap.toNat ++ [BitVec.ofNat 8 (argByte body 2)] ++
              overtakenBytes j.overtaken ++ entries.flatten))).arbitrate))

/-! ### The target rules -/

/-- The target rules but for the grants of a band that holds nothing: what a locker head (R49 to R55), a cabin head
(R95 to R98) and a lane head (R132, R133) answers to a band that has passed the common checks. A refusal changes
nothing. A locker: OUT_OF_ORDER when FORCED or JAMMED; while an action runs, CANCELLED for its action band while QUEUED
(the pulse is removed, the prior state returns, the entry is closed CANCELLED), else BUSY; VACANT, the tests of R52 in
order; LOCKED, ABANDONED and OPENED, by the band's party. A cabin likewise: a cancelled claim leaves it FREE, a
cancelled OPEN leaves the prior state with the due tests made again (R103); FREE, the tests of R97 in order; HELD or
OVERDUE, its holder or a master opens it. A lane: the tests of R132 or R133 in order; a master arms it with the master
mark, and at an exit lane pulses the eject line. In the winding-down interval a pulse queue stays as it is (R83). An
arm's expiry stamp past the top of the clock is a free value (log 15). -/
def Obligations.TargetRules : Prop :=
  (∀ (s : State) (k : LockerNo) (b : BandNo) (rec : BandRecord) (arrival : Stamp),
     let l := s.locker k
     let run := s.targetRules (.locker k) b rec arrival
     let refused (r : Reason) : Verdict × State × BandRecord := (.refuse r, s, rec)
     let isOpen : Bool := s.doorOpen (lockerString k) (lockerPosition k) == some true
     let begun (t : State) (st : LockerState) (a : LockerAction) (p : Party) (d : Direction) :
         Verdict × State × BandRecord :=
       let j := ((t.setLocker k { t.locker k with
         state := st
         work := some ⟨a, some b, p, l.state, .queued⟩
         retryUsed := false
         doorOpened := false
         window := none
         dirty := true }).setString (lockerString k) { s.string (lockerString k) with
           queue := s.pulsesWith (lockerString k) (lockerPosition k) d }).journalOpen (.locker k) (some b) p
             a.journal arrival
       (.grant, j.2.setLocker k { j.2.locker k with link := j.1 }, rec)
     let removed : State := s.setString (lockerString k) { s.string (lockerString k) with
       queue := s.pulsesWithout (lockerString k) (lockerPosition k) }
     let acts (p : Party) : Prop := (p = .owner ∧ l.owner = some b) ∨
       (p = .companion ∧ l.owner ≠ some b ∧ b ∈ l.companions) ∨
       (p = .master ∧ l.owner ≠ some b ∧ b ∉ l.companions ∧ rec.master = true)
     (l.state = .forced ∨ l.state = .jammed → run = refused .outOfOrder) ∧
     (∀ w, l.state = .locking ∨ l.state = .unlocking → l.work = some w →
       (w.sub ≠ .queued ∨ w.band ≠ some b → run = refused .busy) ∧
       (w.sub = .queued → w.band = some b → run = (.cancelled, (removed.setLocker k { l with
             state := w.prior
             owner := if w.action = .claim then none else l.owner
             companions := if w.action = .claim then [] else l.companions
             work := none
             retryUsed := false
             doorOpened := false
             window := none
             link := none
             dirty := true }).journalClose l.link (.locker k) .cancelled, rec))) ∧
     (l.state = .vacant → run =
       if s.lockers.closed[k.val / 32] = true then refused .stringClosed
       else if 0 < s.settings.fittedLanes ∧ rec.state ≠ .inside ∧ rec.master = false then refused .notAdmitted
       else if ∃ j, (s.locker j).owner = some b then refused .holdsLocker
       else if rec.master = true then refused .notYours
       else if isOpen = true then refused .doorOpen
       else begun (s.setLocker k { l with owner := some b, companions := [] }) .locking .claim .owner .throw) ∧
     (l.state = .locked →
       (∀ p, acts p → p = .owner ∨ p = .companion → run = begun s .unlocking .unlock p .withdraw) ∧
       (acts .master → run = begun s .unlocking .masterOpen .master .withdraw) ∧
       ((∀ p, ¬acts p) → run = refused .notYours)) ∧
     (l.state = .opened →
       (∀ p, acts p → p = .owner ∨ p = .companion →
         run = if isOpen = true then refused .doorOpen else begun s .locking .lock p .throw) ∧
       (acts .master ∨ (∀ p, ¬acts p) → run = refused .notYours)) ∧
     (l.state = .abandoned →
       (acts .master → run = begun s .unlocking .masterOpen .master .withdraw) ∧
       (¬acts .master → run = refused .notYours))) ∧
  (∀ (s : State) (c : CabinNo) (b : BandNo) (rec : BandRecord) (arrival : Stamp),
     let x := s.cabin c
     let run := s.targetRules (.cabin c) b rec arrival
     let refused (r : Reason) : Verdict × State × BandRecord := (.refuse r, s, rec)
     let removed : State := s.setString 8 { s.string 8 with
       queue := s.pulsesWithout 8 (cabinPosition c) }
     let opens (p : Party) : Verdict × State × BandRecord := (.grant, (s.setCabin c { x with
       state := .opening
       work := some ⟨.opn, some b, p, arrival, x.state, .queued⟩
       retryUsed := false }).setString 8 { s.string 8 with
         queue := s.pulsesWith 8 (cabinPosition c) .withdraw }, rec)
     (x.state = .suspended → run = refused .cabinSuspended) ∧
     (∀ w, x.state = .closing ∨ x.state = .opening → x.work = some w →
       (w.sub ≠ .queued ∨ w.band ≠ some b → run = refused .busy) ∧
       (w.sub = .queued → w.band = some b → w.action = .claim → run = (.cancelled, (removed.setCabin c
         ⟨.free, none, none, false, none, none, false, false, none, none⟩).journalClose x.link (.cabin c) .cancelled,
           rec)) ∧
       (w.sub = .queued → w.band = some b → w.action = .opn →
         (∀ y ∈ x.due1, s.clock.value.toNat < y.toNat) → (∀ y ∈ x.due2, s.clock.value.toNat < y.toNat) →
         run = (.cancelled, removed.setCabin c { x with
           state := w.prior, work := none, retryUsed := false, window := none }, rec)) ∧
       (w.sub = .queued → w.band = some b → w.action = .opn → run = (.cancelled, (removed.setCabin c { x with
         state := w.prior, work := none, retryUsed := false, window := none }).dueTests c, rec))) ∧
     (x.state = .free →
       (s.clock.isSet = false → run = refused .clockUnset) ∧
       (s.clock.isSet = true →
         (0 < s.settings.fittedLanes → rec.state ≠ .inside → run = refused .notAdmitted) ∧
         (s.settings.fittedLanes = 0 ∨ rec.state = .inside →
           ((∃ d, (s.cabin d).holder = some b) → run = refused .holdsCabin) ∧
           ((∀ d, (s.cabin d).holder ≠ some b) →
             (s.doorOpen 8 (cabinPosition c) = some true → run = refused .doorOpen) ∧
             (s.doorOpen 8 (cabinPosition c) = some false → rec.master = true → run = refused .notYours))))) ∧
     (x.state = .held ∨ x.state = .overdue →
       run = if x.holder = some b then opens .owner else if rec.master = true then opens .master
         else refused .notYours)) ∧
  (∀ (s : State) (l : LaneNo) (b : BandNo) (rec : BandRecord) (arrival : Stamp),
     let x := s.lane l
     let run := s.targetRules (.lane l) b rec arrival
     let refused (r : Reason) : Verdict × State × BandRecord := (.refuse r, s, rec)
     let masterArm (t : State) (inbound : Bool) (a : JournalAction) : Verdict × State × BandRecord :=
       let j := (t.setLane l { t.lane l with
         arm := some ⟨none, s.expiryStamp, inbound, s.settings.armWindow⟩
         turnstile := true }).journalOpen (.lane l) (some b) .master a arrival
       (.grant, j.2.setLane l { j.2.lane l with link := j.1 }, rec)
     (x.service = true → run = refused .laneClosed) ∧
     (x.service = false → s.settings.roles[l.val] = .entry →
       (x.arm.isSome = true ∨ x.commit.isSome = true → run = refused .laneBusy) ∧
       (x.arm = none → x.commit = none →
         ((∃ m a, m ≠ l ∧ (s.lane m).arm = some a ∧ a.band = some b) → run = refused .busy) ∧
         ((∀ m a, m ≠ l → (s.lane m).arm = some a → a.band ≠ some b) →
           (rec.master = true → run = masterArm s.stampTaken true .admission) ∧
           (rec.master = false → rec.state = .inside → run = refused .alreadyInside) ∧
           (rec.master = false → rec.state ≠ .inside →
             (s.clock.isSet = false → run = refused .clockUnset) ∧
             (s.clock.isSet = true → s.lanes.full = true → run = refused .hallFull))))) ∧
     (x.service = false → s.settings.roles[l.val] = .exit →
       (x.arm.isSome = true → run = refused .laneBusy) ∧
       (x.arm = none → rec.master = true →
         run = masterArm (s.stampTaken.setLane l { x with eject := true }) false .exit) ∧
       (x.arm = none → rec.master = false →
         (rec.state ≠ .inside → run = refused .notInside) ∧
         (rec.state = .inside →
           ((∃ c, (s.cabin c).holder = some b) → run = refused .cabinHeld) ∧
           ((∀ c, (s.cabin c).holder ≠ some b) →
             (∀ k, (s.locker k).owner = some b → (∀ j, j ≠ k → (s.locker j).owner ≠ some b) →
               (s.locker k).state ≠ .opened → run = refused .lockerLocked) ∧
             ((∀ k, (s.locker k).owner = some b → (s.locker k).state = .opened) →
               (s.clock.isSet = false → run = refused .clockUnset) ∧
               (∀ entry, s.clock.isSet = true → rec.entry = some entry →
                 rec.credit < (stayFigures s.clock.value entry rec.paid rec.settled rec.credit
                   s.settings.tariff[rec.cls.val]).owed → run = refused .owed)))))))
end

