-- ==== Sys2Proof/Laws/State.lean ====
section
/-!
SUPPORT. What each update of a block of State does to each block: one lemma per field per update, true by rfl.
-/

namespace Sys2Proof.Machine

@[simp] theorem State.setPart_part (s : State) (x : Part) : (s.setPart x).part = x := rfl
@[simp] theorem State.setPart_link (s : State) (x : Part) : (s.setPart x).link = s.link := rfl
@[simp] theorem State.setPart_settings (s : State) (x : Part) : (s.setPart x).settings = s.settings := rfl
@[simp] theorem State.setPart_store (s : State) (x : Part) : (s.setPart x).store = s.store := rfl
@[simp] theorem State.setPart_band (s : State) (x : Part) : (s.setPart x).band = s.band := rfl
@[simp] theorem State.setPart_pres (s : State) (x : Part) : (s.setPart x).pres = s.pres := rfl
@[simp] theorem State.setPart_lockers (s : State) (x : Part) : (s.setPart x).lockers = s.lockers := rfl
@[simp] theorem State.setPart_strings (s : State) (x : Part) : (s.setPart x).strings = s.strings := rfl
@[simp] theorem State.setPart_scanner (s : State) (x : Part) : (s.setPart x).scanner = s.scanner := rfl
@[simp] theorem State.setPart_cabins (s : State) (x : Part) : (s.setPart x).cabins = s.cabins := rfl
@[simp] theorem State.setPart_clock (s : State) (x : Part) : (s.setPart x).clock = s.clock := rfl
@[simp] theorem State.setPart_lanes (s : State) (x : Part) : (s.setPart x).lanes = s.lanes := rfl
@[simp] theorem State.setPart_journal (s : State) (x : Part) : (s.setPart x).journal = s.journal := rfl
@[simp] theorem State.setPart_reader (s : State) (x : Part) : (s.setPart x).reader = s.reader := rfl
@[simp] theorem State.setPart_free (s : State) (x : Part) : (s.setPart x).free = s.free := rfl
@[simp] theorem State.setPart_pending (s : State) (x : Part) : (s.setPart x).pending = s.pending := rfl

@[simp] theorem State.setLink_part (s : State) (x : Link) : (s.setLink x).part = s.part := rfl
@[simp] theorem State.setLink_link (s : State) (x : Link) : (s.setLink x).link = x := rfl
@[simp] theorem State.setLink_settings (s : State) (x : Link) : (s.setLink x).settings = s.settings := rfl
@[simp] theorem State.setLink_store (s : State) (x : Link) : (s.setLink x).store = s.store := rfl
@[simp] theorem State.setLink_band (s : State) (x : Link) : (s.setLink x).band = s.band := rfl
@[simp] theorem State.setLink_pres (s : State) (x : Link) : (s.setLink x).pres = s.pres := rfl
@[simp] theorem State.setLink_lockers (s : State) (x : Link) : (s.setLink x).lockers = s.lockers := rfl
@[simp] theorem State.setLink_strings (s : State) (x : Link) : (s.setLink x).strings = s.strings := rfl
@[simp] theorem State.setLink_scanner (s : State) (x : Link) : (s.setLink x).scanner = s.scanner := rfl
@[simp] theorem State.setLink_cabins (s : State) (x : Link) : (s.setLink x).cabins = s.cabins := rfl
@[simp] theorem State.setLink_clock (s : State) (x : Link) : (s.setLink x).clock = s.clock := rfl
@[simp] theorem State.setLink_lanes (s : State) (x : Link) : (s.setLink x).lanes = s.lanes := rfl
@[simp] theorem State.setLink_journal (s : State) (x : Link) : (s.setLink x).journal = s.journal := rfl
@[simp] theorem State.setLink_reader (s : State) (x : Link) : (s.setLink x).reader = s.reader := rfl
@[simp] theorem State.setLink_free (s : State) (x : Link) : (s.setLink x).free = s.free := rfl
@[simp] theorem State.setLink_pending (s : State) (x : Link) : (s.setLink x).pending = s.pending := rfl

@[simp] theorem State.setSettings_part (s : State) (x : Settings) : (s.setSettings x).part = s.part := rfl
@[simp] theorem State.setSettings_link (s : State) (x : Settings) : (s.setSettings x).link = s.link := rfl
@[simp] theorem State.setSettings_settings (s : State) (x : Settings) : (s.setSettings x).settings = x := rfl
@[simp] theorem State.setSettings_store (s : State) (x : Settings) : (s.setSettings x).store = s.store := rfl
@[simp] theorem State.setSettings_band (s : State) (x : Settings) : (s.setSettings x).band = s.band := rfl
@[simp] theorem State.setSettings_pres (s : State) (x : Settings) : (s.setSettings x).pres = s.pres := rfl
@[simp] theorem State.setSettings_lockers (s : State) (x : Settings) : (s.setSettings x).lockers = s.lockers := rfl
@[simp] theorem State.setSettings_strings (s : State) (x : Settings) : (s.setSettings x).strings = s.strings := rfl
@[simp] theorem State.setSettings_scanner (s : State) (x : Settings) : (s.setSettings x).scanner = s.scanner := rfl
@[simp] theorem State.setSettings_cabins (s : State) (x : Settings) : (s.setSettings x).cabins = s.cabins := rfl
@[simp] theorem State.setSettings_clock (s : State) (x : Settings) : (s.setSettings x).clock = s.clock := rfl
@[simp] theorem State.setSettings_lanes (s : State) (x : Settings) : (s.setSettings x).lanes = s.lanes := rfl
@[simp] theorem State.setSettings_journal (s : State) (x : Settings) : (s.setSettings x).journal = s.journal := rfl
@[simp] theorem State.setSettings_reader (s : State) (x : Settings) : (s.setSettings x).reader = s.reader := rfl
@[simp] theorem State.setSettings_free (s : State) (x : Settings) : (s.setSettings x).free = s.free := rfl
@[simp] theorem State.setSettings_pending (s : State) (x : Settings) : (s.setSettings x).pending = s.pending := rfl

@[simp] theorem State.setStore_part (s : State) (x : Store) : (s.setStore x).part = s.part := rfl
@[simp] theorem State.setStore_link (s : State) (x : Store) : (s.setStore x).link = s.link := rfl
@[simp] theorem State.setStore_settings (s : State) (x : Store) : (s.setStore x).settings = s.settings := rfl
@[simp] theorem State.setStore_store (s : State) (x : Store) : (s.setStore x).store = x := rfl
@[simp] theorem State.setStore_band (s : State) (x : Store) : (s.setStore x).band = s.band := rfl
@[simp] theorem State.setStore_pres (s : State) (x : Store) : (s.setStore x).pres = s.pres := rfl
@[simp] theorem State.setStore_lockers (s : State) (x : Store) : (s.setStore x).lockers = s.lockers := rfl
@[simp] theorem State.setStore_strings (s : State) (x : Store) : (s.setStore x).strings = s.strings := rfl
@[simp] theorem State.setStore_scanner (s : State) (x : Store) : (s.setStore x).scanner = s.scanner := rfl
@[simp] theorem State.setStore_cabins (s : State) (x : Store) : (s.setStore x).cabins = s.cabins := rfl
@[simp] theorem State.setStore_clock (s : State) (x : Store) : (s.setStore x).clock = s.clock := rfl
@[simp] theorem State.setStore_lanes (s : State) (x : Store) : (s.setStore x).lanes = s.lanes := rfl
@[simp] theorem State.setStore_journal (s : State) (x : Store) : (s.setStore x).journal = s.journal := rfl
@[simp] theorem State.setStore_reader (s : State) (x : Store) : (s.setStore x).reader = s.reader := rfl
@[simp] theorem State.setStore_free (s : State) (x : Store) : (s.setStore x).free = s.free := rfl
@[simp] theorem State.setStore_pending (s : State) (x : Store) : (s.setStore x).pending = s.pending := rfl

@[simp] theorem State.setBand_part (s : State) (x : BandUnit) : (s.setBand x).part = s.part := rfl
@[simp] theorem State.setBand_link (s : State) (x : BandUnit) : (s.setBand x).link = s.link := rfl
@[simp] theorem State.setBand_settings (s : State) (x : BandUnit) : (s.setBand x).settings = s.settings := rfl
@[simp] theorem State.setBand_store (s : State) (x : BandUnit) : (s.setBand x).store = s.store := rfl
@[simp] theorem State.setBand_band (s : State) (x : BandUnit) : (s.setBand x).band = x := rfl
@[simp] theorem State.setBand_pres (s : State) (x : BandUnit) : (s.setBand x).pres = s.pres := rfl
@[simp] theorem State.setBand_lockers (s : State) (x : BandUnit) : (s.setBand x).lockers = s.lockers := rfl
@[simp] theorem State.setBand_strings (s : State) (x : BandUnit) : (s.setBand x).strings = s.strings := rfl
@[simp] theorem State.setBand_scanner (s : State) (x : BandUnit) : (s.setBand x).scanner = s.scanner := rfl
@[simp] theorem State.setBand_cabins (s : State) (x : BandUnit) : (s.setBand x).cabins = s.cabins := rfl
@[simp] theorem State.setBand_clock (s : State) (x : BandUnit) : (s.setBand x).clock = s.clock := rfl
@[simp] theorem State.setBand_lanes (s : State) (x : BandUnit) : (s.setBand x).lanes = s.lanes := rfl
@[simp] theorem State.setBand_journal (s : State) (x : BandUnit) : (s.setBand x).journal = s.journal := rfl
@[simp] theorem State.setBand_reader (s : State) (x : BandUnit) : (s.setBand x).reader = s.reader := rfl
@[simp] theorem State.setBand_free (s : State) (x : BandUnit) : (s.setBand x).free = s.free := rfl
@[simp] theorem State.setBand_pending (s : State) (x : BandUnit) : (s.setBand x).pending = s.pending := rfl

@[simp] theorem State.setPres_part (s : State) (x : Vector (Option Presentation) 284) : (s.setPres x).part = s.part := rfl
@[simp] theorem State.setPres_link (s : State) (x : Vector (Option Presentation) 284) : (s.setPres x).link = s.link := rfl
@[simp] theorem State.setPres_settings (s : State) (x : Vector (Option Presentation) 284) : (s.setPres x).settings = s.settings := rfl
@[simp] theorem State.setPres_store (s : State) (x : Vector (Option Presentation) 284) : (s.setPres x).store = s.store := rfl
@[simp] theorem State.setPres_band (s : State) (x : Vector (Option Presentation) 284) : (s.setPres x).band = s.band := rfl
@[simp] theorem State.setPres_pres (s : State) (x : Vector (Option Presentation) 284) : (s.setPres x).pres = x := rfl
@[simp] theorem State.setPres_lockers (s : State) (x : Vector (Option Presentation) 284) : (s.setPres x).lockers = s.lockers := rfl
@[simp] theorem State.setPres_strings (s : State) (x : Vector (Option Presentation) 284) : (s.setPres x).strings = s.strings := rfl
@[simp] theorem State.setPres_scanner (s : State) (x : Vector (Option Presentation) 284) : (s.setPres x).scanner = s.scanner := rfl
@[simp] theorem State.setPres_cabins (s : State) (x : Vector (Option Presentation) 284) : (s.setPres x).cabins = s.cabins := rfl
@[simp] theorem State.setPres_clock (s : State) (x : Vector (Option Presentation) 284) : (s.setPres x).clock = s.clock := rfl
@[simp] theorem State.setPres_lanes (s : State) (x : Vector (Option Presentation) 284) : (s.setPres x).lanes = s.lanes := rfl
@[simp] theorem State.setPres_journal (s : State) (x : Vector (Option Presentation) 284) : (s.setPres x).journal = s.journal := rfl
@[simp] theorem State.setPres_reader (s : State) (x : Vector (Option Presentation) 284) : (s.setPres x).reader = s.reader := rfl
@[simp] theorem State.setPres_free (s : State) (x : Vector (Option Presentation) 284) : (s.setPres x).free = s.free := rfl
@[simp] theorem State.setPres_pending (s : State) (x : Vector (Option Presentation) 284) : (s.setPres x).pending = s.pending := rfl

@[simp] theorem State.setLockers_part (s : State) (x : LockerEngine) : (s.setLockers x).part = s.part := rfl
@[simp] theorem State.setLockers_link (s : State) (x : LockerEngine) : (s.setLockers x).link = s.link := rfl
@[simp] theorem State.setLockers_settings (s : State) (x : LockerEngine) : (s.setLockers x).settings = s.settings := rfl
@[simp] theorem State.setLockers_store (s : State) (x : LockerEngine) : (s.setLockers x).store = s.store := rfl
@[simp] theorem State.setLockers_band (s : State) (x : LockerEngine) : (s.setLockers x).band = s.band := rfl
@[simp] theorem State.setLockers_pres (s : State) (x : LockerEngine) : (s.setLockers x).pres = s.pres := rfl
@[simp] theorem State.setLockers_lockers (s : State) (x : LockerEngine) : (s.setLockers x).lockers = x := rfl
@[simp] theorem State.setLockers_strings (s : State) (x : LockerEngine) : (s.setLockers x).strings = s.strings := rfl
@[simp] theorem State.setLockers_scanner (s : State) (x : LockerEngine) : (s.setLockers x).scanner = s.scanner := rfl
@[simp] theorem State.setLockers_cabins (s : State) (x : LockerEngine) : (s.setLockers x).cabins = s.cabins := rfl
@[simp] theorem State.setLockers_clock (s : State) (x : LockerEngine) : (s.setLockers x).clock = s.clock := rfl
@[simp] theorem State.setLockers_lanes (s : State) (x : LockerEngine) : (s.setLockers x).lanes = s.lanes := rfl
@[simp] theorem State.setLockers_journal (s : State) (x : LockerEngine) : (s.setLockers x).journal = s.journal := rfl
@[simp] theorem State.setLockers_reader (s : State) (x : LockerEngine) : (s.setLockers x).reader = s.reader := rfl
@[simp] theorem State.setLockers_free (s : State) (x : LockerEngine) : (s.setLockers x).free = s.free := rfl
@[simp] theorem State.setLockers_pending (s : State) (x : LockerEngine) : (s.setLockers x).pending = s.pending := rfl

@[simp] theorem State.setStrings_part (s : State) (x : Vector StringRecord 9) : (s.setStrings x).part = s.part := rfl
@[simp] theorem State.setStrings_link (s : State) (x : Vector StringRecord 9) : (s.setStrings x).link = s.link := rfl
@[simp] theorem State.setStrings_settings (s : State) (x : Vector StringRecord 9) : (s.setStrings x).settings = s.settings := rfl
@[simp] theorem State.setStrings_store (s : State) (x : Vector StringRecord 9) : (s.setStrings x).store = s.store := rfl
@[simp] theorem State.setStrings_band (s : State) (x : Vector StringRecord 9) : (s.setStrings x).band = s.band := rfl
@[simp] theorem State.setStrings_pres (s : State) (x : Vector StringRecord 9) : (s.setStrings x).pres = s.pres := rfl
@[simp] theorem State.setStrings_lockers (s : State) (x : Vector StringRecord 9) : (s.setStrings x).lockers = s.lockers := rfl
@[simp] theorem State.setStrings_strings (s : State) (x : Vector StringRecord 9) : (s.setStrings x).strings = x := rfl
@[simp] theorem State.setStrings_scanner (s : State) (x : Vector StringRecord 9) : (s.setStrings x).scanner = s.scanner := rfl
@[simp] theorem State.setStrings_cabins (s : State) (x : Vector StringRecord 9) : (s.setStrings x).cabins = s.cabins := rfl
@[simp] theorem State.setStrings_clock (s : State) (x : Vector StringRecord 9) : (s.setStrings x).clock = s.clock := rfl
@[simp] theorem State.setStrings_lanes (s : State) (x : Vector StringRecord 9) : (s.setStrings x).lanes = s.lanes := rfl
@[simp] theorem State.setStrings_journal (s : State) (x : Vector StringRecord 9) : (s.setStrings x).journal = s.journal := rfl
@[simp] theorem State.setStrings_reader (s : State) (x : Vector StringRecord 9) : (s.setStrings x).reader = s.reader := rfl
@[simp] theorem State.setStrings_free (s : State) (x : Vector StringRecord 9) : (s.setStrings x).free = s.free := rfl
@[simp] theorem State.setStrings_pending (s : State) (x : Vector StringRecord 9) : (s.setStrings x).pending = s.pending := rfl

@[simp] theorem State.setScanner_part (s : State) (x : Vector StringContacts 9) : (s.setScanner x).part = s.part := rfl
@[simp] theorem State.setScanner_link (s : State) (x : Vector StringContacts 9) : (s.setScanner x).link = s.link := rfl
@[simp] theorem State.setScanner_settings (s : State) (x : Vector StringContacts 9) : (s.setScanner x).settings = s.settings := rfl
@[simp] theorem State.setScanner_store (s : State) (x : Vector StringContacts 9) : (s.setScanner x).store = s.store := rfl
@[simp] theorem State.setScanner_band (s : State) (x : Vector StringContacts 9) : (s.setScanner x).band = s.band := rfl
@[simp] theorem State.setScanner_pres (s : State) (x : Vector StringContacts 9) : (s.setScanner x).pres = s.pres := rfl
@[simp] theorem State.setScanner_lockers (s : State) (x : Vector StringContacts 9) : (s.setScanner x).lockers = s.lockers := rfl
@[simp] theorem State.setScanner_strings (s : State) (x : Vector StringContacts 9) : (s.setScanner x).strings = s.strings := rfl
@[simp] theorem State.setScanner_scanner (s : State) (x : Vector StringContacts 9) : (s.setScanner x).scanner = x := rfl
@[simp] theorem State.setScanner_cabins (s : State) (x : Vector StringContacts 9) : (s.setScanner x).cabins = s.cabins := rfl
@[simp] theorem State.setScanner_clock (s : State) (x : Vector StringContacts 9) : (s.setScanner x).clock = s.clock := rfl
@[simp] theorem State.setScanner_lanes (s : State) (x : Vector StringContacts 9) : (s.setScanner x).lanes = s.lanes := rfl
@[simp] theorem State.setScanner_journal (s : State) (x : Vector StringContacts 9) : (s.setScanner x).journal = s.journal := rfl
@[simp] theorem State.setScanner_reader (s : State) (x : Vector StringContacts 9) : (s.setScanner x).reader = s.reader := rfl
@[simp] theorem State.setScanner_free (s : State) (x : Vector StringContacts 9) : (s.setScanner x).free = s.free := rfl
@[simp] theorem State.setScanner_pending (s : State) (x : Vector StringContacts 9) : (s.setScanner x).pending = s.pending := rfl

@[simp] theorem State.setCabins_part (s : State) (x : CabinUnit) : (s.setCabins x).part = s.part := rfl
@[simp] theorem State.setCabins_link (s : State) (x : CabinUnit) : (s.setCabins x).link = s.link := rfl
@[simp] theorem State.setCabins_settings (s : State) (x : CabinUnit) : (s.setCabins x).settings = s.settings := rfl
@[simp] theorem State.setCabins_store (s : State) (x : CabinUnit) : (s.setCabins x).store = s.store := rfl
@[simp] theorem State.setCabins_band (s : State) (x : CabinUnit) : (s.setCabins x).band = s.band := rfl
@[simp] theorem State.setCabins_pres (s : State) (x : CabinUnit) : (s.setCabins x).pres = s.pres := rfl
@[simp] theorem State.setCabins_lockers (s : State) (x : CabinUnit) : (s.setCabins x).lockers = s.lockers := rfl
@[simp] theorem State.setCabins_strings (s : State) (x : CabinUnit) : (s.setCabins x).strings = s.strings := rfl
@[simp] theorem State.setCabins_scanner (s : State) (x : CabinUnit) : (s.setCabins x).scanner = s.scanner := rfl
@[simp] theorem State.setCabins_cabins (s : State) (x : CabinUnit) : (s.setCabins x).cabins = x := rfl
@[simp] theorem State.setCabins_clock (s : State) (x : CabinUnit) : (s.setCabins x).clock = s.clock := rfl
@[simp] theorem State.setCabins_lanes (s : State) (x : CabinUnit) : (s.setCabins x).lanes = s.lanes := rfl
@[simp] theorem State.setCabins_journal (s : State) (x : CabinUnit) : (s.setCabins x).journal = s.journal := rfl
@[simp] theorem State.setCabins_reader (s : State) (x : CabinUnit) : (s.setCabins x).reader = s.reader := rfl
@[simp] theorem State.setCabins_free (s : State) (x : CabinUnit) : (s.setCabins x).free = s.free := rfl
@[simp] theorem State.setCabins_pending (s : State) (x : CabinUnit) : (s.setCabins x).pending = s.pending := rfl

@[simp] theorem State.setClock_part (s : State) (x : ClockUnit) : (s.setClock x).part = s.part := rfl
@[simp] theorem State.setClock_link (s : State) (x : ClockUnit) : (s.setClock x).link = s.link := rfl
@[simp] theorem State.setClock_settings (s : State) (x : ClockUnit) : (s.setClock x).settings = s.settings := rfl
@[simp] theorem State.setClock_store (s : State) (x : ClockUnit) : (s.setClock x).store = s.store := rfl
@[simp] theorem State.setClock_band (s : State) (x : ClockUnit) : (s.setClock x).band = s.band := rfl
@[simp] theorem State.setClock_pres (s : State) (x : ClockUnit) : (s.setClock x).pres = s.pres := rfl
@[simp] theorem State.setClock_lockers (s : State) (x : ClockUnit) : (s.setClock x).lockers = s.lockers := rfl
@[simp] theorem State.setClock_strings (s : State) (x : ClockUnit) : (s.setClock x).strings = s.strings := rfl
@[simp] theorem State.setClock_scanner (s : State) (x : ClockUnit) : (s.setClock x).scanner = s.scanner := rfl
@[simp] theorem State.setClock_cabins (s : State) (x : ClockUnit) : (s.setClock x).cabins = s.cabins := rfl
@[simp] theorem State.setClock_clock (s : State) (x : ClockUnit) : (s.setClock x).clock = x := rfl
@[simp] theorem State.setClock_lanes (s : State) (x : ClockUnit) : (s.setClock x).lanes = s.lanes := rfl
@[simp] theorem State.setClock_journal (s : State) (x : ClockUnit) : (s.setClock x).journal = s.journal := rfl
@[simp] theorem State.setClock_reader (s : State) (x : ClockUnit) : (s.setClock x).reader = s.reader := rfl
@[simp] theorem State.setClock_free (s : State) (x : ClockUnit) : (s.setClock x).free = s.free := rfl
@[simp] theorem State.setClock_pending (s : State) (x : ClockUnit) : (s.setClock x).pending = s.pending := rfl

@[simp] theorem State.setLanes_part (s : State) (x : LaneUnit) : (s.setLanes x).part = s.part := rfl
@[simp] theorem State.setLanes_link (s : State) (x : LaneUnit) : (s.setLanes x).link = s.link := rfl
@[simp] theorem State.setLanes_settings (s : State) (x : LaneUnit) : (s.setLanes x).settings = s.settings := rfl
@[simp] theorem State.setLanes_store (s : State) (x : LaneUnit) : (s.setLanes x).store = s.store := rfl
@[simp] theorem State.setLanes_band (s : State) (x : LaneUnit) : (s.setLanes x).band = s.band := rfl
@[simp] theorem State.setLanes_pres (s : State) (x : LaneUnit) : (s.setLanes x).pres = s.pres := rfl
@[simp] theorem State.setLanes_lockers (s : State) (x : LaneUnit) : (s.setLanes x).lockers = s.lockers := rfl
@[simp] theorem State.setLanes_strings (s : State) (x : LaneUnit) : (s.setLanes x).strings = s.strings := rfl
@[simp] theorem State.setLanes_scanner (s : State) (x : LaneUnit) : (s.setLanes x).scanner = s.scanner := rfl
@[simp] theorem State.setLanes_cabins (s : State) (x : LaneUnit) : (s.setLanes x).cabins = s.cabins := rfl
@[simp] theorem State.setLanes_clock (s : State) (x : LaneUnit) : (s.setLanes x).clock = s.clock := rfl
@[simp] theorem State.setLanes_lanes (s : State) (x : LaneUnit) : (s.setLanes x).lanes = x := rfl
@[simp] theorem State.setLanes_journal (s : State) (x : LaneUnit) : (s.setLanes x).journal = s.journal := rfl
@[simp] theorem State.setLanes_reader (s : State) (x : LaneUnit) : (s.setLanes x).reader = s.reader := rfl
@[simp] theorem State.setLanes_free (s : State) (x : LaneUnit) : (s.setLanes x).free = s.free := rfl
@[simp] theorem State.setLanes_pending (s : State) (x : LaneUnit) : (s.setLanes x).pending = s.pending := rfl

@[simp] theorem State.setJournal_part (s : State) (x : Journal) : (s.setJournal x).part = s.part := rfl
@[simp] theorem State.setJournal_link (s : State) (x : Journal) : (s.setJournal x).link = s.link := rfl
@[simp] theorem State.setJournal_settings (s : State) (x : Journal) : (s.setJournal x).settings = s.settings := rfl
@[simp] theorem State.setJournal_store (s : State) (x : Journal) : (s.setJournal x).store = s.store := rfl
@[simp] theorem State.setJournal_band (s : State) (x : Journal) : (s.setJournal x).band = s.band := rfl
@[simp] theorem State.setJournal_pres (s : State) (x : Journal) : (s.setJournal x).pres = s.pres := rfl
@[simp] theorem State.setJournal_lockers (s : State) (x : Journal) : (s.setJournal x).lockers = s.lockers := rfl
@[simp] theorem State.setJournal_strings (s : State) (x : Journal) : (s.setJournal x).strings = s.strings := rfl
@[simp] theorem State.setJournal_scanner (s : State) (x : Journal) : (s.setJournal x).scanner = s.scanner := rfl
@[simp] theorem State.setJournal_cabins (s : State) (x : Journal) : (s.setJournal x).cabins = s.cabins := rfl
@[simp] theorem State.setJournal_clock (s : State) (x : Journal) : (s.setJournal x).clock = s.clock := rfl
@[simp] theorem State.setJournal_lanes (s : State) (x : Journal) : (s.setJournal x).lanes = s.lanes := rfl
@[simp] theorem State.setJournal_journal (s : State) (x : Journal) : (s.setJournal x).journal = x := rfl
@[simp] theorem State.setJournal_reader (s : State) (x : Journal) : (s.setJournal x).reader = s.reader := rfl
@[simp] theorem State.setJournal_free (s : State) (x : Journal) : (s.setJournal x).free = s.free := rfl
@[simp] theorem State.setJournal_pending (s : State) (x : Journal) : (s.setJournal x).pending = s.pending := rfl

@[simp] theorem State.setReader_part (s : State) (x : Reader) : (s.setReader x).part = s.part := rfl
@[simp] theorem State.setReader_link (s : State) (x : Reader) : (s.setReader x).link = s.link := rfl
@[simp] theorem State.setReader_settings (s : State) (x : Reader) : (s.setReader x).settings = s.settings := rfl
@[simp] theorem State.setReader_store (s : State) (x : Reader) : (s.setReader x).store = s.store := rfl
@[simp] theorem State.setReader_band (s : State) (x : Reader) : (s.setReader x).band = s.band := rfl
@[simp] theorem State.setReader_pres (s : State) (x : Reader) : (s.setReader x).pres = s.pres := rfl
@[simp] theorem State.setReader_lockers (s : State) (x : Reader) : (s.setReader x).lockers = s.lockers := rfl
@[simp] theorem State.setReader_strings (s : State) (x : Reader) : (s.setReader x).strings = s.strings := rfl
@[simp] theorem State.setReader_scanner (s : State) (x : Reader) : (s.setReader x).scanner = s.scanner := rfl
@[simp] theorem State.setReader_cabins (s : State) (x : Reader) : (s.setReader x).cabins = s.cabins := rfl
@[simp] theorem State.setReader_clock (s : State) (x : Reader) : (s.setReader x).clock = s.clock := rfl
@[simp] theorem State.setReader_lanes (s : State) (x : Reader) : (s.setReader x).lanes = s.lanes := rfl
@[simp] theorem State.setReader_journal (s : State) (x : Reader) : (s.setReader x).journal = s.journal := rfl
@[simp] theorem State.setReader_reader (s : State) (x : Reader) : (s.setReader x).reader = x := rfl
@[simp] theorem State.setReader_free (s : State) (x : Reader) : (s.setReader x).free = s.free := rfl
@[simp] theorem State.setReader_pending (s : State) (x : Reader) : (s.setReader x).pending = s.pending := rfl

@[simp] theorem State.setFree_part (s : State) (x : Nat) : (s.setFree x).part = s.part := rfl
@[simp] theorem State.setFree_link (s : State) (x : Nat) : (s.setFree x).link = s.link := rfl
@[simp] theorem State.setFree_settings (s : State) (x : Nat) : (s.setFree x).settings = s.settings := rfl
@[simp] theorem State.setFree_store (s : State) (x : Nat) : (s.setFree x).store = s.store := rfl
@[simp] theorem State.setFree_band (s : State) (x : Nat) : (s.setFree x).band = s.band := rfl
@[simp] theorem State.setFree_pres (s : State) (x : Nat) : (s.setFree x).pres = s.pres := rfl
@[simp] theorem State.setFree_lockers (s : State) (x : Nat) : (s.setFree x).lockers = s.lockers := rfl
@[simp] theorem State.setFree_strings (s : State) (x : Nat) : (s.setFree x).strings = s.strings := rfl
@[simp] theorem State.setFree_scanner (s : State) (x : Nat) : (s.setFree x).scanner = s.scanner := rfl
@[simp] theorem State.setFree_cabins (s : State) (x : Nat) : (s.setFree x).cabins = s.cabins := rfl
@[simp] theorem State.setFree_clock (s : State) (x : Nat) : (s.setFree x).clock = s.clock := rfl
@[simp] theorem State.setFree_lanes (s : State) (x : Nat) : (s.setFree x).lanes = s.lanes := rfl
@[simp] theorem State.setFree_journal (s : State) (x : Nat) : (s.setFree x).journal = s.journal := rfl
@[simp] theorem State.setFree_reader (s : State) (x : Nat) : (s.setFree x).reader = s.reader := rfl
@[simp] theorem State.setFree_free (s : State) (x : Nat) : (s.setFree x).free = x := rfl
@[simp] theorem State.setFree_pending (s : State) (x : Nat) : (s.setFree x).pending = s.pending := rfl

@[simp] theorem State.setPending_part (s : State) (x : List Instr) : (s.setPending x).part = s.part := rfl
@[simp] theorem State.setPending_link (s : State) (x : List Instr) : (s.setPending x).link = s.link := rfl
@[simp] theorem State.setPending_settings (s : State) (x : List Instr) : (s.setPending x).settings = s.settings := rfl
@[simp] theorem State.setPending_store (s : State) (x : List Instr) : (s.setPending x).store = s.store := rfl
@[simp] theorem State.setPending_band (s : State) (x : List Instr) : (s.setPending x).band = s.band := rfl
@[simp] theorem State.setPending_pres (s : State) (x : List Instr) : (s.setPending x).pres = s.pres := rfl
@[simp] theorem State.setPending_lockers (s : State) (x : List Instr) : (s.setPending x).lockers = s.lockers := rfl
@[simp] theorem State.setPending_strings (s : State) (x : List Instr) : (s.setPending x).strings = s.strings := rfl
@[simp] theorem State.setPending_scanner (s : State) (x : List Instr) : (s.setPending x).scanner = s.scanner := rfl
@[simp] theorem State.setPending_cabins (s : State) (x : List Instr) : (s.setPending x).cabins = s.cabins := rfl
@[simp] theorem State.setPending_clock (s : State) (x : List Instr) : (s.setPending x).clock = s.clock := rfl
@[simp] theorem State.setPending_lanes (s : State) (x : List Instr) : (s.setPending x).lanes = s.lanes := rfl
@[simp] theorem State.setPending_journal (s : State) (x : List Instr) : (s.setPending x).journal = s.journal := rfl
@[simp] theorem State.setPending_reader (s : State) (x : List Instr) : (s.setPending x).reader = s.reader := rfl
@[simp] theorem State.setPending_free (s : State) (x : List Instr) : (s.setPending x).free = s.free := rfl
@[simp] theorem State.setPending_pending (s : State) (x : List Instr) : (s.setPending x).pending = x := rfl

end Sys2Proof.Machine
end

