-- ==== Sys2Proof/Laws/Arbitrate.lean ====
section
/-!
SUPPORT. What each of the choices at the end of a command can change: the store port's, a line engine's and the
transmit side's.
-/

namespace Sys2Proof.Machine

/-- A change of the port: the band unit, but for the cache and its last-use order, and dirty marks of lockers. -/
structure State.PortMoves (s t : State) : Prop where
  shape : t = (s.setBand t.band).setLockers t.lockers
  cache : t.band.cache = s.band.cache
  lastUse : t.band.lastUse = s.band.lastUse
  closed : t.lockers.closed = s.lockers.closed
  table : ∀ k : LockerNo, { t.lockers.table[k.val] with dirty := s.lockers.table[k.val].dirty } =
    s.lockers.table[k.val]

/-- A change of the line engine `l`: that engine, and probe statuses of heads. -/
structure State.EngineMoves (s t : State) (l : Line) : Prop where
  shape : t = s.setReader t.reader
  roster : ∀ h : HeadNo, { t.reader.roster[h.val] with probe := s.reader.roster[h.val].probe } =
    s.reader.roster[h.val]
  other : t.engine (otherLine l) = s.engine (otherLine l)

/-- A change of the transmit side: the replies, the notices and the frame being sent. -/
structure State.FrameMoves (s t : State) : Prop where
  shape : t = s.setLink t.link
  kept : t.link.kept = s.link.kept
  outstanding : t.link.outstanding = s.link.outstanding
  floor : t.link.floor = s.link.floor
  overflow : t.link.overflow = s.link.overflow

theorem State.PortMoves.refl (s : State) : s.PortMoves s := ⟨rfl, rfl, rfl, rfl, fun _ => rfl⟩

theorem State.startMirror_moves (s : State) (k : LockerNo) : s.PortMoves (s.startMirror k) := by
  refine ⟨rfl, rfl, rfl, rfl, fun j => ?_⟩
  show { (s.lockers.table.set k.val { s.lockers.table[k.val] with dirty := false })[j.val] with
    dirty := s.lockers.table[j.val].dirty } = s.lockers.table[j.val]
  rw [Vector.getElem_set]
  split
  · next h => obtain rfl : k = j := Fin.ext h; rfl
  · rfl

theorem State.startQueued_moves (s : State) (r : PortRequest) (rest : List PortRequest) :
    s.PortMoves (s.startQueued r rest) := by
  unfold State.startQueued State.waitStarted
  dsimp only
  repeat' split
  all_goals exact ⟨rfl, rfl, rfl, rfl, fun _ => rfl⟩

/-- Everything the port's choice can change (R12). -/
theorem State.choosePort_moves (s : State) : s.PortMoves s.choosePort := by
  unfold State.choosePort State.chooseByTable
  repeat' split
  all_goals first
    | exact State.PortMoves.refl s
    | exact State.startMirror_moves s _
    | exact State.startQueued_moves s _ _
    | exact ⟨rfl, rfl, rfl, rfl, fun _ => rfl⟩

theorem State.EngineMoves.refl (s : State) (l : Line) : s.EngineMoves s l := ⟨rfl, fun _ => rfl, rfl⟩

theorem State.sendPoll_moves (s : State) (l : Line) (h : HeadNo) : s.EngineMoves (s.sendPoll l h) l := by
  cases l <;> exact ⟨rfl, fun _ => rfl, rfl⟩

theorem State.sendProbe_moves (s : State) (l : Line) (h : HeadNo) : s.EngineMoves (s.sendProbe l h) l := by
  have roster : ∀ g : HeadNo, { (s.reader.roster.set h.val { s.reader.roster[h.val] with
      probe := .inFlight })[g.val] with probe := s.reader.roster[g.val].probe } = s.reader.roster[g.val] := by
    intro g
    rw [Vector.getElem_set]
    split
    · next e => obtain rfl : h = g := Fin.ext e; rfl
    · rfl
  cases l <;> exact ⟨rfl, roster, rfl⟩

/-- Everything a line engine's choice can change (R153). -/
theorem State.chooseExchange_moves (s : State) (l : Line) : s.EngineMoves (s.chooseExchange l) l := by
  unfold State.chooseExchange
  repeat' split
  all_goals first
    | exact State.EngineMoves.refl s l
    | exact State.sendPoll_moves s l _
    | exact State.sendProbe_moves s l _

/-- Everything the transmit side's choice can change (R164, R166). -/
theorem State.startFrame_moves (s : State) : s.FrameMoves s.startFrame := by
  unfold State.startFrame State.sendFrame
  repeat' split
  all_goals exact ⟨rfl, rfl, rfl, rfl, rfl⟩

/-! ### What each choice leaves, block by block -/

@[simp] theorem State.choosePort_part (s : State) : s.choosePort.part = s.part :=
  (congrArg State.part (State.choosePort_moves s).shape).trans rfl
@[simp] theorem State.chooseExchange_part (s : State) (l : Line) : (s.chooseExchange l).part = s.part :=
  (congrArg State.part (State.chooseExchange_moves s l).shape).trans rfl
@[simp] theorem State.startFrame_part (s : State) : s.startFrame.part = s.part :=
  (congrArg State.part (State.startFrame_moves s).shape).trans rfl
@[simp] theorem State.choosePort_link (s : State) : s.choosePort.link = s.link :=
  (congrArg State.link (State.choosePort_moves s).shape).trans rfl
@[simp] theorem State.chooseExchange_link (s : State) (l : Line) : (s.chooseExchange l).link = s.link :=
  (congrArg State.link (State.chooseExchange_moves s l).shape).trans rfl
@[simp] theorem State.choosePort_settings (s : State) : s.choosePort.settings = s.settings :=
  (congrArg State.settings (State.choosePort_moves s).shape).trans rfl
@[simp] theorem State.chooseExchange_settings (s : State) (l : Line) : (s.chooseExchange l).settings = s.settings :=
  (congrArg State.settings (State.chooseExchange_moves s l).shape).trans rfl
@[simp] theorem State.startFrame_settings (s : State) : s.startFrame.settings = s.settings :=
  (congrArg State.settings (State.startFrame_moves s).shape).trans rfl
@[simp] theorem State.choosePort_store (s : State) : s.choosePort.store = s.store :=
  (congrArg State.store (State.choosePort_moves s).shape).trans rfl
@[simp] theorem State.chooseExchange_store (s : State) (l : Line) : (s.chooseExchange l).store = s.store :=
  (congrArg State.store (State.chooseExchange_moves s l).shape).trans rfl
@[simp] theorem State.startFrame_store (s : State) : s.startFrame.store = s.store :=
  (congrArg State.store (State.startFrame_moves s).shape).trans rfl
@[simp] theorem State.chooseExchange_band (s : State) (l : Line) : (s.chooseExchange l).band = s.band :=
  (congrArg State.band (State.chooseExchange_moves s l).shape).trans rfl
@[simp] theorem State.startFrame_band (s : State) : s.startFrame.band = s.band :=
  (congrArg State.band (State.startFrame_moves s).shape).trans rfl
@[simp] theorem State.choosePort_pres (s : State) : s.choosePort.pres = s.pres :=
  (congrArg State.pres (State.choosePort_moves s).shape).trans rfl
@[simp] theorem State.chooseExchange_pres (s : State) (l : Line) : (s.chooseExchange l).pres = s.pres :=
  (congrArg State.pres (State.chooseExchange_moves s l).shape).trans rfl
@[simp] theorem State.startFrame_pres (s : State) : s.startFrame.pres = s.pres :=
  (congrArg State.pres (State.startFrame_moves s).shape).trans rfl
@[simp] theorem State.chooseExchange_lockers (s : State) (l : Line) : (s.chooseExchange l).lockers = s.lockers :=
  (congrArg State.lockers (State.chooseExchange_moves s l).shape).trans rfl
@[simp] theorem State.startFrame_lockers (s : State) : s.startFrame.lockers = s.lockers :=
  (congrArg State.lockers (State.startFrame_moves s).shape).trans rfl
@[simp] theorem State.choosePort_strings (s : State) : s.choosePort.strings = s.strings :=
  (congrArg State.strings (State.choosePort_moves s).shape).trans rfl
@[simp] theorem State.chooseExchange_strings (s : State) (l : Line) : (s.chooseExchange l).strings = s.strings :=
  (congrArg State.strings (State.chooseExchange_moves s l).shape).trans rfl
@[simp] theorem State.startFrame_strings (s : State) : s.startFrame.strings = s.strings :=
  (congrArg State.strings (State.startFrame_moves s).shape).trans rfl
@[simp] theorem State.choosePort_scanner (s : State) : s.choosePort.scanner = s.scanner :=
  (congrArg State.scanner (State.choosePort_moves s).shape).trans rfl
@[simp] theorem State.chooseExchange_scanner (s : State) (l : Line) : (s.chooseExchange l).scanner = s.scanner :=
  (congrArg State.scanner (State.chooseExchange_moves s l).shape).trans rfl
@[simp] theorem State.startFrame_scanner (s : State) : s.startFrame.scanner = s.scanner :=
  (congrArg State.scanner (State.startFrame_moves s).shape).trans rfl
@[simp] theorem State.choosePort_cabins (s : State) : s.choosePort.cabins = s.cabins :=
  (congrArg State.cabins (State.choosePort_moves s).shape).trans rfl
@[simp] theorem State.chooseExchange_cabins (s : State) (l : Line) : (s.chooseExchange l).cabins = s.cabins :=
  (congrArg State.cabins (State.chooseExchange_moves s l).shape).trans rfl
@[simp] theorem State.startFrame_cabins (s : State) : s.startFrame.cabins = s.cabins :=
  (congrArg State.cabins (State.startFrame_moves s).shape).trans rfl
@[simp] theorem State.choosePort_clock (s : State) : s.choosePort.clock = s.clock :=
  (congrArg State.clock (State.choosePort_moves s).shape).trans rfl
@[simp] theorem State.chooseExchange_clock (s : State) (l : Line) : (s.chooseExchange l).clock = s.clock :=
  (congrArg State.clock (State.chooseExchange_moves s l).shape).trans rfl
@[simp] theorem State.startFrame_clock (s : State) : s.startFrame.clock = s.clock :=
  (congrArg State.clock (State.startFrame_moves s).shape).trans rfl
@[simp] theorem State.choosePort_lanes (s : State) : s.choosePort.lanes = s.lanes :=
  (congrArg State.lanes (State.choosePort_moves s).shape).trans rfl
@[simp] theorem State.chooseExchange_lanes (s : State) (l : Line) : (s.chooseExchange l).lanes = s.lanes :=
  (congrArg State.lanes (State.chooseExchange_moves s l).shape).trans rfl
@[simp] theorem State.startFrame_lanes (s : State) : s.startFrame.lanes = s.lanes :=
  (congrArg State.lanes (State.startFrame_moves s).shape).trans rfl
@[simp] theorem State.choosePort_journal (s : State) : s.choosePort.journal = s.journal :=
  (congrArg State.journal (State.choosePort_moves s).shape).trans rfl
@[simp] theorem State.chooseExchange_journal (s : State) (l : Line) : (s.chooseExchange l).journal = s.journal :=
  (congrArg State.journal (State.chooseExchange_moves s l).shape).trans rfl
@[simp] theorem State.startFrame_journal (s : State) : s.startFrame.journal = s.journal :=
  (congrArg State.journal (State.startFrame_moves s).shape).trans rfl
@[simp] theorem State.choosePort_reader (s : State) : s.choosePort.reader = s.reader :=
  (congrArg State.reader (State.choosePort_moves s).shape).trans rfl
@[simp] theorem State.startFrame_reader (s : State) : s.startFrame.reader = s.reader :=
  (congrArg State.reader (State.startFrame_moves s).shape).trans rfl
@[simp] theorem State.choosePort_free (s : State) : s.choosePort.free = s.free :=
  (congrArg State.free (State.choosePort_moves s).shape).trans rfl
@[simp] theorem State.chooseExchange_free (s : State) (l : Line) : (s.chooseExchange l).free = s.free :=
  (congrArg State.free (State.chooseExchange_moves s l).shape).trans rfl
@[simp] theorem State.startFrame_free (s : State) : s.startFrame.free = s.free :=
  (congrArg State.free (State.startFrame_moves s).shape).trans rfl
@[simp] theorem State.choosePort_pending (s : State) : s.choosePort.pending = s.pending :=
  (congrArg State.pending (State.choosePort_moves s).shape).trans rfl
@[simp] theorem State.chooseExchange_pending (s : State) (l : Line) : (s.chooseExchange l).pending = s.pending :=
  (congrArg State.pending (State.chooseExchange_moves s l).shape).trans rfl
@[simp] theorem State.startFrame_pending (s : State) : s.startFrame.pending = s.pending :=
  (congrArg State.pending (State.startFrame_moves s).shape).trans rfl

/-! ### The choices one after another -/

theorem State.arbitrate_eq (s : State) :
    s.arbitrate = (((s.choosePort).chooseExchange .a).chooseExchange .b).startFrame := rfl

/-- The transmit side chooses with the link as it stood. -/
theorem State.exchanged_link (s : State) :
    (((s.choosePort).chooseExchange .a).chooseExchange .b).link = s.link := by simp

theorem State.arbitrate_part (s : State) : s.arbitrate.part = s.part := by simp [State.arbitrate_eq]
theorem State.arbitrate_settings (s : State) : s.arbitrate.settings = s.settings := by simp [State.arbitrate_eq]
theorem State.arbitrate_store (s : State) : s.arbitrate.store = s.store := by simp [State.arbitrate_eq]
theorem State.arbitrate_band (s : State) : s.arbitrate.band = s.choosePort.band := by simp [State.arbitrate_eq]
theorem State.arbitrate_pres (s : State) : s.arbitrate.pres = s.pres := by simp [State.arbitrate_eq]
theorem State.arbitrate_lockers (s : State) : s.arbitrate.lockers = s.choosePort.lockers := by simp [State.arbitrate_eq]
theorem State.arbitrate_strings (s : State) : s.arbitrate.strings = s.strings := by simp [State.arbitrate_eq]
theorem State.arbitrate_scanner (s : State) : s.arbitrate.scanner = s.scanner := by simp [State.arbitrate_eq]
theorem State.arbitrate_cabins (s : State) : s.arbitrate.cabins = s.cabins := by simp [State.arbitrate_eq]
theorem State.arbitrate_clock (s : State) : s.arbitrate.clock = s.clock := by simp [State.arbitrate_eq]
theorem State.arbitrate_lanes (s : State) : s.arbitrate.lanes = s.lanes := by simp [State.arbitrate_eq]
theorem State.arbitrate_journal (s : State) : s.arbitrate.journal = s.journal := by simp [State.arbitrate_eq]
theorem State.arbitrate_free (s : State) : s.arbitrate.free = s.free := by simp [State.arbitrate_eq]
theorem State.arbitrate_pending (s : State) : s.arbitrate.pending = s.pending := by simp [State.arbitrate_eq]

end Sys2Proof.Machine
end

