-- ==== Sys2Proof/Laws/BandOps.lean ====
section
/-!
SUPPORT. What the sending of a band operation does, said once: the ways it ends without a service, and every form of R4
to R6.
-/

namespace Sys2Proof.Machine

variable {s : State} {n : BandNo} {w : Waiter}

/-- An operation that is no ownership check ends without a service as `endedWith` says (R8, R18, R27, R131). -/
theorem State.endOp_eq_endedWith (h : w.isCheck = false) (m : Option BandNo) (res : Result) :
    s.endOp w m res = s.endedWith res w := by
  cases w with
  | lookup g p => rfl
  | request r =>
    simp only [State.endOp, State.endedWith, State.answer, State.giveReply, State.replied]
    cases s.link.outstanding <;> rfl
  | commit l stamp =>
    simp only [State.endOp, State.endedWith]
    cases (s.lane l).commit with
    | none => rfl
    | some c => by_cases hr : res = .busy <;> simp [hr, State.clearCommit]
  | ownerCheck k => cases h
  | companionCheck k => cases h

/-- An entry that holds a band number is not EMPTY (R4). -/
theorem State.entryOf_band {e : EntryNo} (h : s.entryOf n = some e) : (s.entry e).content.band = some n := by
  simpa using List.find?_some h

/-- The band number of a band number's value is that band number. -/
@[simp] theorem bandNoOf_val (n : BandNo) : bandNoOf n.val = n := by
  simp [bandNoOf]

/-- The first number of a range that passes a test is the one found. -/
theorem find?_allFin {k : Nat} {p : Fin k → Bool} {i : Fin k} (hp : p i = true) (hlt : ∀ j, j < i → p j = false) :
    (allFin k).find? p = some i := by
  rw [List.find?_eq_some_iff_getElem]
  refine ⟨hp, i.val, by simp [allFin], by simp [allFin], fun j hj => ?_⟩
  simpa [allFin] using hlt ⟨j, by omega⟩ hj

/-- The lowest-numbered EMPTY entry is the one taken (R6). -/
theorem State.entryToTake_lowest {e : EntryNo} (he : (s.entry e).content = .empty)
    (hf : ∀ f, f < e → (s.entry f).content ≠ .empty) : s.entryToTake = some e := by
  have h : (allFin 32).find? (fun f => (s.entry f).content == .empty) = some e :=
    find?_allFin (by simp [he]) (fun f hlt => by simpa using hf f hlt)
  simp [State.entryToTake, h]

/-- With no EMPTY entry, the one taken is the least recently used that may be evicted, if there is one (R6). -/
theorem State.entryToTake_evict (hf : ∀ f, (s.entry f).content ≠ .empty) :
    s.entryToTake = s.band.lastUse.find? (fun e => (s.entry e).evictable) := by
  have h : (allFin 32).find? (fun f => (s.entry f).content == .empty) = none := by
    simpa [List.find?_eq_none] using hf
  simp [State.entryToTake, h]

/-- An operation that the band unit takes, for a band of the table, goes to the cache (R5). -/
theorem State.bandOp_taken (h : s.TakesBand n) : s.bandOp n.val w = s.bandOpAt n w := by
  simp [State.bandOp, h.1, Nat.not_le.mpr h.2]

/-- An operation for a band that no entry holds, the port not in FAULT, the pool not full and an entry to take,
starts a fill (R6). -/
theorem State.bandOp_fill {e : EntryNo} (h : s.MayFill n) (hp : s.itemsHeld < 320) (he : s.entryToTake = some e) :
    s.bandOp n.val w = s.filledWith e n w := by
  simp [State.bandOp_taken h.1, State.bandOpAt, h.2.1, State.allocate, h.2.2, poolSize, Nat.not_le.mpr hp, he]
  rfl

/-- All that the sending of a band operation that is no ownership check can do (R4 to R6, R177). -/
theorem State.bandOp_sent (hw : w.isCheck = false) : s.OpSent n w (s.bandOp n.val w) where
  shut h := by simp [State.bandOp, h, State.endOp_eq_endedWith hw]
  range h hn := by simp [State.bandOp, h, hn, State.endOp_eq_endedWith hw]
  served e rec h he hc := by
    simp [State.bandOp_taken h, State.bandOpAt, he, hc]
  joins e h he hc hp := by
    simp [State.bandOp_taken h, State.bandOpAt, he, hc, poolSize, Nat.not_le.mpr hp]
  listFull e h he hc hp := by
    simp [State.bandOp_taken h, State.bandOpAt, he, hc, poolSize, hp, State.endOp_eq_endedWith hw]
  fault h he hp := by
    simp [State.bandOp_taken h, State.bandOpAt, he, State.allocate, hp, State.endOp_eq_endedWith hw]
  poolFull h hp := by
    simp [State.bandOp_taken h.1, State.bandOpAt, h.2.1, State.allocate, h.2.2, poolSize, hp,
      State.endOp_eq_endedWith hw]
  noEntry h hn := by
    have ht : s.entryToTake = none := by
      rw [State.entryToTake_evict fun f => (hn f).1, List.find?_eq_none]
      exact fun e _ => by simp [(hn e).2]
    simp [State.bandOp_taken h.1, State.bandOpAt, h.2.1, State.allocate, h.2.2, ht,
      State.endOp_eq_endedWith hw]
  lowestEmpty e h hp he hf := State.bandOp_fill h hp (State.entryToTake_lowest he hf)
  leastUsed older e newer h hp hn hl ho he := by
    refine State.bandOp_fill h hp ?_
    rw [State.entryToTake_evict hn, hl, List.find?_append]
    have hold : older.find? (fun f => (s.entry f).evictable) = none := by
      simpa [List.find?_eq_none] using ho
    simp [hold, he]

end Sys2Proof.Machine
end

