-- ==== Sys2Proof/Laws/Keeps.lean ====
section
/-!
SUPPORT. One lemma for each operation: what it keeps of the invariant and of the queue of commands
(`State.Keeps`). A lemma `State.<operation>_keeps` takes what led up to the operation, so that the lemmas chain.
-/

namespace Sys2Proof.Machine

/-! ### The relation -/

theorem State.Keeps.refl (s : State) : s.Keeps s := ⟨id, id, id, id, rfl⟩

theorem State.Keeps.trans {r s t : State} (h : r.Keeps s) (g : s.Keeps t) : r.Keeps t :=
  ⟨g.memory ∘ h.memory, g.notices ∘ h.notices, g.hall ∘ h.hall, g.fairness ∘ h.fairness, g.pending.trans h.pending⟩

theorem State.Keeps.inv {s t : State} (h : s.Keeps t) (i : s.Inv) : t.Inv :=
  ⟨h.memory i.memory, h.notices i.notices, h.hall i.hall, h.fairness i.fairness⟩

theorem State.Keeps.ite {r a b : State} {c : Prop} [Decidable c] (ha : r.Keeps a) (hb : r.Keeps b) :
    r.Keeps (if c then a else b) := by
  split
  · exact ha
  · exact hb

theorem State.Keeps.foldl {α : Type} {r s : State} {f : State → α → State} (l : List α) (h : r.Keeps s)
    (hf : ∀ (t : State) a, t.Keeps (f t a)) : r.Keeps (l.foldl f s) := by
  induction l generalizing s with
  | nil => exact h
  | cons a l ih => exact ih (h.trans (hf s a))

/-! ### The store -/

theorem writeCell_lower {b : Nat} {m : List Host.Cell} {x : Nat} {v : Byte} (hx : b < x)
    (hm : ∀ c ∈ m, b < c.1) : ∀ c ∈ writeCell m x v, b < c.1 := by
  induction m with
  | nil =>
    unfold writeCell
    split <;> simp [hx]
  | cons c m ih =>
    obtain ⟨a, y⟩ := c
    have ha : b < a := hm (a, y) (by simp)
    have hm' : ∀ c ∈ m, b < c.1 := fun c h => hm c (by simp [h])
    unfold writeCell
    split
    · split
      · exact hm'
      · intro c h
        rcases List.mem_cons.mp h with rfl | h
        · exact hx
        · exact hm' c h
    · split
      · split
        · exact hm
        · intro c h
          rcases List.mem_cons.mp h with rfl | h
          · exact hx
          · exact hm c h
      · intro c h
        rcases List.mem_cons.mp h with rfl | h
        · exact ha
        · exact ih hm' c h

/-- A write keeps the canonical form (R3, log 10). -/
theorem writeCell_wf {m : List Host.Cell} (h : Memory.wf m) (x : Nat) (v : Byte) : Memory.wf (writeCell m x v) := by
  induction m with
  | nil =>
    unfold writeCell
    split
    · exact h
    · next hv => exact ⟨by simp, by simpa using hv⟩
  | cons c m ih =>
    obtain ⟨a, y⟩ := c
    obtain ⟨hp, hb⟩ := h
    have hlow : ∀ c ∈ m, a < c.1 := fun c hc => (List.pairwise_cons.mp hp).1 c hc
    have hm : Memory.wf m := ⟨(List.pairwise_cons.mp hp).2, fun c hc => hb c (by simp [hc])⟩
    have hy : y ≠ blankByte := hb (a, y) (by simp)
    unfold writeCell
    split
    · next hx =>
      split
      · exact hm
      · next hv =>
        refine ⟨List.pairwise_cons.mpr ⟨fun c hc => hx ▸ hlow c hc, hm.1⟩, fun c hc => ?_⟩
        rcases List.mem_cons.mp hc with rfl | hc
        · exact hv
        · exact hm.2 c hc
    · next hx =>
      split
      · next hlt =>
        split
        · exact ⟨hp, hb⟩
        · next hv =>
          refine ⟨List.pairwise_cons.mpr ⟨fun c hc => ?_, hp⟩, fun c hc => ?_⟩
          · rcases List.mem_cons.mp hc with rfl | hc
            · exact hlt
            · exact hlt.trans (hlow c hc)
          · rcases List.mem_cons.mp hc with rfl | hc
            · exact hv
            · exact hb c hc
      · next hlt =>
        have hax : a < x := by omega
        refine ⟨List.pairwise_cons.mpr ⟨writeCell_lower hax hlow, (ih hm).1⟩, fun c hc => ?_⟩
        rcases List.mem_cons.mp hc with rfl | hc
        · exact hy
        · exact (ih hm).2 c hc

theorem writeCells_wf {m : List Host.Cell} (h : Memory.wf m) (a : Nat) (bs : List Byte) :
    Memory.wf (writeCells m a bs) := by
  induction bs generalizing m a with
  | nil => exact h
  | cons b bs ih => exact ih (writeCell_wf h a b) (a + 1)

theorem Store.write_wf {st : Store} (h : Memory.wf st.cells) (a : Nat) (bs : List Byte) :
    Memory.wf (st.write a bs).cells := writeCells_wf h a bs

theorem Store.seen_wf {st : Store} (h : Memory.wf st.cells) (a n : Nat) (seen : Option (List Byte)) :
    Memory.wf (st.seen a n seen).cells := by
  cases seen with
  | none => exact h
  | some bs => exact writeCells_wf h a _

theorem Store.cutOff_wf {st : Store} (h : Memory.wf st.cells) (a len n : Nat) :
    Memory.wf (st.cutOff a len n).cells := h

/-! ### Updates of the blocks -/

variable {r s : State}

theorem State.setPart_keeps (h : r.Keeps s) (x : Part) : r.Keeps (s.setPart x) := h.trans ⟨id, id, id, id, rfl⟩

theorem State.setSettings_keeps (h : r.Keeps s) (x : Settings) : r.Keeps (s.setSettings x) :=
  h.trans ⟨id, id, id, id, rfl⟩

theorem State.setPres_keeps (h : r.Keeps s) (x : Vector (Option Presentation) 284) : r.Keeps (s.setPres x) :=
  h.trans ⟨id, id, id, id, rfl⟩

theorem State.setLockers_keeps (h : r.Keeps s) (x : LockerEngine) : r.Keeps (s.setLockers x) :=
  h.trans ⟨id, id, id, id, rfl⟩

theorem State.setStrings_keeps (h : r.Keeps s) (x : Vector StringRecord 9) : r.Keeps (s.setStrings x) :=
  h.trans ⟨id, id, id, id, rfl⟩

theorem State.setScanner_keeps (h : r.Keeps s) (x : Vector StringContacts 9) : r.Keeps (s.setScanner x) :=
  h.trans ⟨id, id, id, id, rfl⟩

theorem State.setCabins_keeps (h : r.Keeps s) (x : CabinUnit) : r.Keeps (s.setCabins x) :=
  h.trans ⟨id, id, id, id, rfl⟩

theorem State.setClock_keeps (h : r.Keeps s) (x : ClockUnit) : r.Keeps (s.setClock x) :=
  h.trans ⟨id, id, id, id, rfl⟩

theorem State.setJournal_keeps (h : r.Keeps s) (x : Journal) : r.Keeps (s.setJournal x) :=
  h.trans ⟨id, id, id, id, rfl⟩

theorem State.setReader_keeps (h : r.Keeps s) (x : Reader) : r.Keeps (s.setReader x) :=
  h.trans ⟨id, id, id, id, rfl⟩

theorem State.setFree_keeps (h : r.Keeps s) (x : Nat) : r.Keeps (s.setFree x) := h.trans ⟨id, id, id, id, rfl⟩

theorem State.setLink_keeps (h : r.Keeps s) (x : Link) (hx : x.notices.length ≤ s.link.notices.length) :
    r.Keeps (s.setLink x) := h.trans ⟨id, fun g => le_trans hx g, id, id, rfl⟩

theorem State.setBand_keeps (h : r.Keeps s) (x : BandUnit) (hx : x.fairness ≤ s.band.fairness) :
    r.Keeps (s.setBand x) := h.trans ⟨id, id, id, fun g => le_trans hx g, rfl⟩

theorem State.setBand_keeps_four (h : r.Keeps s) (x : BandUnit) (hx : x.fairness ≤ 4) : r.Keeps (s.setBand x) :=
  h.trans ⟨id, id, id, fun _ => hx, rfl⟩

theorem State.setStore_keeps (h : r.Keeps s) (x : Store) (hx : Memory.wf s.store.cells → Memory.wf x.cells) :
    r.Keeps (s.setStore x) := h.trans ⟨hx, id, id, id, rfl⟩

theorem State.setLanes_keeps (h : r.Keeps s) (x : LaneUnit) (hx : s.lanes.within → x.within) :
    r.Keeps (s.setLanes x) := h.trans ⟨id, id, hx, id, rfl⟩

/-! ### One record of a block -/

theorem State.setLocker_keeps (h : r.Keeps s) (k : LockerNo) (x : Locker) : r.Keeps (s.setLocker k x) :=
  State.setLockers_keeps h _

theorem State.setCabin_keeps (h : r.Keeps s) (c : CabinNo) (x : Cabin) : r.Keeps (s.setCabin c x) :=
  State.setCabins_keeps h _

theorem State.setString_keeps (h : r.Keeps s) (i : StringNo) (x : StringRecord) : r.Keeps (s.setString i x) :=
  State.setStrings_keeps h _

theorem State.setContacts_keeps (h : r.Keeps s) (i : StringNo) (x : StringContacts) : r.Keeps (s.setContacts i x) :=
  State.setScanner_keeps h _

theorem State.setSlot_keeps (h : r.Keeps s) (n : HeadNo) (x : Option Presentation) : r.Keeps (s.setSlot n x) :=
  State.setPres_keeps h _

theorem State.setHead_keeps (h : r.Keeps s) (n : HeadNo) (x : HeadRecord) : r.Keeps (s.setHead n x) :=
  State.setReader_keeps h _

theorem State.setEngine_keeps (h : r.Keeps s) (l : Line) (x : Engine) : r.Keeps (s.setEngine l x) := by
  cases l <;> exact State.setReader_keeps h _

theorem State.setEntry_keeps (h : r.Keeps s) (e : EntryNo) (x : CacheEntry) : r.Keeps (s.setEntry e x) :=
  State.setBand_keeps h _ le_rfl

/-- A lane record whose phase count lies in its range keeps the hall counts in theirs. -/
theorem State.setLane_keeps (h : r.Keeps s) (l : LaneNo) (x : Lane)
    (hx : s.lanes.within → -3 ≤ x.phase ∧ x.phase ≤ 3) : r.Keeps (s.setLane l x) := by
  refine State.setLanes_keeps h _ fun g => ⟨g.1, fun m => ?_⟩
  simp only [Vector.getElem_set]
  split
  · exact hx g
  · exact g.2 m

/-- A lane record that keeps its phase count. -/
theorem State.setLane_keeps_phase (h : r.Keeps s) (l : LaneNo) (x : Lane) (hx : x.phase = (s.lane l).phase) :
    r.Keeps (s.setLane l x) := State.setLane_keeps h l x fun g => hx ▸ g.2 l

/-- A lane record with phase count 0. -/
theorem State.setLane_keeps_zero (h : r.Keeps s) (l : LaneNo) (x : Lane) (hx : x.phase = 0) :
    r.Keeps (s.setLane l x) := State.setLane_keeps h l x fun _ => by simp [hx]

/-! ### Notices (R165) -/

/-- A posting leaves at most 32 notices where at most 32 were held (R165). -/
theorem enqueueNotice_length {q : List Notice} (h : q.length ≤ 32) (n : Notice) :
    (enqueueNotice q n).1.length ≤ 32 := by
  unfold enqueueNotice
  split
  · simp; omega
  · split
    · next hlow =>
      have hm : ∃ m ∈ q, (m.kind.level == lowestLevel q) = true := by
        have hq : q ≠ [] := by rintro rfl; simp at *
        clear hlow
        have key : ∀ q : List Notice, q ≠ [] → ∃ m ∈ q, m.kind.level = lowestLevel q := by
          intro q
          induction q with
          | nil => intro h; exact absurd rfl h
          | cons a q ih =>
            intro _
            by_cases hq : q = []
            · subst hq
              refine ⟨a, by simp, ?_⟩
              have : a.kind.level ≤ 7 := by cases a.kind <;> decide
              simp [lowestLevel]; omega
            · obtain ⟨m, hm, he⟩ := ih hq
              have hl : lowestLevel (a :: q) = min a.kind.level (lowestLevel q) := rfl
              rcases le_total a.kind.level (lowestLevel q) with hle | hle
              · exact ⟨a, by simp, by rw [hl, min_eq_left hle]⟩
              · exact ⟨m, by simp [hm], by rw [hl, min_eq_right hle, he]⟩
        obtain ⟨m, hm, he⟩ := key q hq
        exact ⟨m, hm, by simp [he]⟩
      obtain ⟨m, hm, he⟩ := hm
      have := List.length_eraseP_of_mem (p := fun m => m.kind.level == lowestLevel q) hm he
      simp [this]; omega
    · exact h

theorem State.post_keeps (h : r.Keeps s) (kind : NoticeKind) (sub : NoticeSubject) : r.Keeps (s.post kind sub) :=
  h.trans ⟨id, fun g => enqueueNotice_length g _, id, id, rfl⟩


/-! ### The operations -/

theorem State.giveReply_keeps (h : r.Keeps s) (res : Result) (data : ReplyData) (restarts : Bool) :
    r.Keeps (s.giveReply res data restarts) := by
  unfold State.giveReply
  repeat' first
    | with_reducible exact h | with_reducible apply State.setLink_keeps | exact le_rfl | split

theorem State.reply_keeps (h : r.Keeps s) (res : Result) (data : ReplyData) :
    r.Keeps (s.reply res data) := by
  unfold State.reply
  repeat' first
    | with_reducible exact h | with_reducible apply State.giveReply_keeps

theorem State.answer_keeps (h : r.Keeps s) (res : Result) :
    r.Keeps (s.answer res) := by
  unfold State.answer
  repeat' first
    | with_reducible exact h | with_reducible apply State.giveReply_keeps

theorem State.postWatch_keeps (h : r.Keeps s) (sub : JournalSubject) :
    r.Keeps (s.postWatch sub) := by
  unfold State.postWatch
  repeat' first
    | with_reducible exact h | with_reducible apply State.post_keeps | split

theorem State.overtake_keeps (h : r.Keeps s) :
    r.Keeps (s.overtake) := by
  unfold State.overtake
  repeat' first
    | with_reducible exact h | with_reducible apply State.setJournal_keeps
    | with_reducible apply State.postWatch_keeps | split

theorem State.advanceJournal_keeps (h : r.Keeps s) :
    r.Keeps (s.advanceJournal) := by
  unfold State.advanceJournal
  repeat' first
    | with_reducible exact h | with_reducible apply State.setJournal_keeps | with_reducible apply State.post_keeps
    | split | dsimp only

theorem State.writeSlot_keeps (h : r.Keeps s) (sub : JournalSubject) (band : Option BandNo) (party : Party)
    (action : JournalAction) (start : Stamp) (finish : Option (Stamp × EntryOutcome)) :
    r.Keeps (s.writeSlot sub band party action start finish) := by
  unfold State.writeSlot
  repeat' first
    | with_reducible exact h | with_reducible apply State.setJournal_keeps

theorem State.journalOpen_keeps (h : r.Keeps s) (sub : JournalSubject) (band : Option BandNo) (party : Party)
    (action : JournalAction) (start : Stamp) :
    r.Keeps (s.journalOpen sub band party action start).2 := by
  unfold State.journalOpen
  repeat' first
    | with_reducible exact h | with_reducible apply State.overtake_keeps | with_reducible apply State.writeSlot_keeps
    | with_reducible apply State.advanceJournal_keeps | split

theorem State.journalClosed_keeps (h : r.Keeps s) (sub : JournalSubject) (band : Option BandNo) (party : Party)
    (action : JournalAction) (start : Stamp) (outcome : EntryOutcome) :
    r.Keeps (s.journalClosed sub band party action start outcome) := by
  unfold State.journalClosed
  repeat' first
    | with_reducible exact h | with_reducible apply State.overtake_keeps | with_reducible apply State.writeSlot_keeps
    | with_reducible apply State.postWatch_keeps | with_reducible apply State.advanceJournal_keeps | split

theorem State.journalClose_keeps (h : r.Keeps s) (link : Option JournalLink) (sub : JournalSubject)
    (outcome : EntryOutcome) :
    r.Keeps (s.journalClose link sub outcome) := by
  unfold State.journalClose
  repeat' first
    | with_reducible exact h | with_reducible apply State.setJournal_keeps
    | with_reducible apply State.postWatch_keeps | split

theorem State.placePulse_keeps (h : r.Keeps s) (i : StringNo) (p : Position) (d : Direction) :
    r.Keeps (s.placePulse i p d) := by
  unfold State.placePulse
  repeat' first
    | with_reducible exact h | with_reducible apply State.setString_keeps | split

theorem State.removePulse_keeps (h : r.Keeps s) (i : StringNo) (p : Position) :
    r.Keeps (s.removePulse i p) := by
  unfold State.removePulse
  repeat' first
    | with_reducible exact h | with_reducible apply State.setString_keeps | split

theorem State.askHeaderWrite_keeps (h : r.Keeps s) :
    r.Keeps (s.askHeaderWrite) := by
  unfold State.askHeaderWrite
  repeat' first
    | with_reducible exact h | with_reducible apply State.setBand_keeps | exact le_rfl | split

theorem State.replyAfterHeader_keeps (h : r.Keeps s) :
    r.Keeps (s.replyAfterHeader) := by
  unfold State.replyAfterHeader
  repeat' first
    | with_reducible exact h | with_reducible apply State.answer_keeps | with_reducible apply State.setBand_keeps
    | exact le_rfl | split

theorem State.applySettings_keeps (h : r.Keeps s) (x : Settings) :
    r.Keeps (s.applySettings x) := by
  unfold State.applySettings
  repeat' first
    | with_reducible exact h | with_reducible apply State.answer_keeps | with_reducible apply State.setSettings_keeps
    | with_reducible apply State.askHeaderWrite_keeps | with_reducible apply State.replyAfterHeader_keeps | split

theorem State.beginLocker_keeps (h : r.Keeps s) (k : LockerNo) (st : LockerState) (action : LockerAction)
    (band : Option BandNo) (party : Party) (entryBand : Option BandNo) (start : Stamp) :
    r.Keeps (s.beginLocker k st action band party entryBand start) := by
  unfold State.beginLocker
  repeat' first
    | with_reducible exact h | with_reducible apply State.setLocker_keeps
    | with_reducible apply State.placePulse_keeps | with_reducible apply State.journalOpen_keeps

theorem State.beginDesk_keeps (h : r.Keeps s) (k : LockerNo) (action : LockerAction) :
    r.Keeps (s.beginDesk k action) := by
  unfold State.beginDesk
  repeat' first
    | with_reducible exact h | with_reducible apply State.beginLocker_keeps

theorem State.restLocker_keeps (h : r.Keeps s) (k : LockerNo) (st : LockerState) (clear : Bool)
    (outcome : EntryOutcome) :
    r.Keeps (s.restLocker k st clear outcome) := by
  unfold State.restLocker
  repeat' first
    | with_reducible exact h | with_reducible apply State.setLocker_keeps
    | with_reducible apply State.journalClose_keeps

theorem State.undoLocker_keeps (h : r.Keeps s) (k : LockerNo) (w : LockerWork) :
    r.Keeps (s.undoLocker k w) := by
  unfold State.undoLocker
  repeat' first
    | with_reducible exact h | with_reducible apply State.setLocker_keeps
    | with_reducible apply State.placePulse_keeps

theorem State.confirmLocker_keeps (h : r.Keeps s) (k : LockerNo) :
    r.Keeps (s.confirmLocker k) := by
  unfold State.confirmLocker
  repeat' first
    | with_reducible exact h | with_reducible apply State.restLocker_keeps
    | with_reducible apply State.undoLocker_keeps | split | dsimp only

theorem State.jamLocker_keeps (h : r.Keeps s) (k : LockerNo) (w : LockerWork) :
    r.Keeps (s.jamLocker k w) := by
  unfold State.jamLocker
  repeat' first
    | with_reducible exact h | with_reducible apply State.restLocker_keeps | with_reducible apply State.post_keeps

theorem State.lockerWindowExpiry_keeps (h : r.Keeps s) (k : LockerNo) :
    r.Keeps (s.lockerWindowExpiry k) := by
  unfold State.lockerWindowExpiry
  repeat' first
    | with_reducible exact h | with_reducible apply State.jamLocker_keeps | with_reducible apply State.setLocker_keeps
    | with_reducible apply State.placePulse_keeps | split | dsimp only

theorem State.lockerPulseStart_keeps (h : r.Keeps s) (k : LockerNo) :
    r.Keeps (s.lockerPulseStart k) := by
  unfold State.lockerPulseStart
  repeat' first
    | with_reducible exact h | with_reducible apply State.setLocker_keeps | split | dsimp only

theorem State.lockerPulseEnd_keeps (h : r.Keeps s) (k : LockerNo) (d : Direction) (window : Nat) :
    r.Keeps (s.lockerPulseEnd k d window) := by
  unfold State.lockerPulseEnd
  repeat' first
    | with_reducible exact h | with_reducible apply State.setLocker_keeps
    | with_reducible apply State.confirmLocker_keeps | split | dsimp only

theorem State.forceLocker_keeps (h : r.Keeps s) (k : LockerNo) :
    r.Keeps (s.forceLocker k) := by
  unfold State.forceLocker
  repeat' first
    | with_reducible exact h | with_reducible apply State.removePulse_keeps
    | with_reducible apply State.restLocker_keeps | with_reducible apply State.post_keeps
    | with_reducible apply State.journalClosed_keeps | split

theorem State.lockerDoorOpened_keeps (h : r.Keeps s) (k : LockerNo) :
    r.Keeps (s.lockerDoorOpened k) := by
  unfold State.lockerDoorOpened
  repeat' first
    | with_reducible exact h | with_reducible apply State.forceLocker_keeps
    | with_reducible apply State.removePulse_keeps | with_reducible apply State.restLocker_keeps
    | with_reducible apply State.setLocker_keeps | split | dsimp only

theorem State.lockerBoltChange_keeps (h : r.Keeps s) (k : LockerNo) (thrown : Bool) :
    r.Keeps (s.lockerBoltChange k thrown) := by
  unfold State.lockerBoltChange
  repeat' first
    | with_reducible exact h | with_reducible apply State.forceLocker_keeps
    | with_reducible apply State.confirmLocker_keeps | split | dsimp only

theorem State.cancelLocker_keeps (h : r.Keeps s) (k : LockerNo) (w : LockerWork) :
    r.Keeps (s.cancelLocker k w) := by
  unfold State.cancelLocker
  repeat' first
    | with_reducible exact h | with_reducible apply State.removePulse_keeps
    | with_reducible apply State.restLocker_keeps

theorem State.grantLocker_keeps (h : r.Keeps s) (k : LockerNo) (st : LockerState) (action : LockerAction)
    (b : BandNo) (party : Party) (arrival : Stamp) :
    r.Keeps (s.grantLocker k st action b party arrival).2 := by
  unfold State.grantLocker
  repeat' first
    | with_reducible exact h | with_reducible apply State.beginLocker_keeps

theorem State.vacantRules_keeps (h : r.Keeps s) (k : LockerNo) (b : BandNo) (rec : BandRecord) (arrival : Stamp) :
    r.Keeps (s.vacantRules k b rec arrival).2 := by
  unfold State.vacantRules
  repeat' first
    | with_reducible exact h | with_reducible apply State.setLocker_keeps
    | with_reducible apply State.grantLocker_keeps | split

theorem State.lockerRules_keeps (h : r.Keeps s) (k : LockerNo) (b : BandNo) (rec : BandRecord) (arrival : Stamp) :
    r.Keeps (s.lockerRules k b rec arrival).2 := by
  unfold State.lockerRules
  repeat' first
    | with_reducible exact h | with_reducible apply State.cancelLocker_keeps
    | with_reducible apply State.vacantRules_keeps | with_reducible apply State.grantLocker_keeps | split | dsimp only

theorem State.leaveCompanions_keeps (h : r.Keeps s) (b : BandNo) :
    r.Keeps (s.leaveCompanions b) := by
  unfold State.leaveCompanions
  repeat' first
    | with_reducible exact h | with_reducible apply State.setLocker_keeps | intro _ | split

theorem State.disown_keeps (h : r.Keeps s) (k : LockerNo) (st : LockerState) :
    r.Keeps (s.disown k st) := by
  unfold State.disown
  repeat' first
    | with_reducible exact h | with_reducible apply State.setLocker_keeps

theorem State.lockerExit_keeps (h : r.Keeps s) (b : BandNo) :
    r.Keeps (s.lockerExit b) := by
  unfold State.lockerExit
  repeat' first
    | with_reducible exact h | with_reducible apply State.disown_keeps
    | with_reducible apply State.leaveCompanions_keeps | split

theorem State.abandonLocker_keeps (h : r.Keeps s) (k : LockerNo) :
    r.Keeps (s.abandonLocker k) := by
  unfold State.abandonLocker
  repeat' first
    | with_reducible exact h | with_reducible apply State.disown_keeps | with_reducible apply State.post_keeps | split

theorem State.lockerReturn_keeps (h : r.Keeps s) (b : BandNo) :
    r.Keeps (s.lockerReturn b) := by
  unfold State.lockerReturn
  repeat' first
    | with_reducible exact h | with_reducible apply State.abandonLocker_keeps
    | with_reducible apply State.leaveCompanions_keeps | split

theorem State.checkOwner_keeps (h : r.Keeps s) (k : LockerNo) (found : Option BandState) :
    r.Keeps (s.checkOwner k found) := by
  unfold State.checkOwner
  repeat' first
    | with_reducible exact h | with_reducible apply State.disown_keeps | split

theorem State.checkCompanion_keeps (h : r.Keeps s) (k : LockerNo) (b : BandNo) (found : Option BandState) :
    r.Keeps (s.checkCompanion k b found) := by
  unfold State.checkCompanion
  repeat' first
    | with_reducible exact h | with_reducible apply State.setLocker_keeps | intro _ | split | dsimp only

theorem State.reconcileLocker_keeps (h : r.Keeps s) (k : LockerNo) :
    r.Keeps (s.reconcileLocker k) := by
  unfold State.reconcileLocker
  repeat' first
    | with_reducible exact h | with_reducible apply State.setLocker_keeps | split | dsimp only

theorem State.reconcileString_keeps (h : r.Keeps s) (i : Fin 8) :
    r.Keeps (s.reconcileString i) := by
  unfold State.reconcileString
  repeat' first
    | with_reducible exact h | with_reducible exact State.Keeps.refl _
    | with_reducible apply State.reconcileLocker_keeps | with_reducible apply State.Keeps.foldl | intro _ _

theorem State.vacateUnfitted_keeps (h : r.Keeps s) (k : LockerNo) :
    r.Keeps (s.vacateUnfitted k) := by
  unfold State.vacateUnfitted
  repeat' first
    | with_reducible exact h | with_reducible apply State.disown_keeps | split | dsimp only

theorem State.blinkExpiry_keeps (h : r.Keeps s) :
    r.Keeps (s.blinkExpiry) := by
  unfold State.blinkExpiry
  repeat' first
    | with_reducible exact h | with_reducible apply State.setCabins_keeps

theorem State.restCabin_keeps (h : r.Keeps s) (c : CabinNo) (st : CabinState) (outcome : EntryOutcome) :
    r.Keeps (s.restCabin c st outcome) := by
  unfold State.restCabin
  repeat' first
    | with_reducible exact h | with_reducible apply State.setCabin_keeps
    | with_reducible apply State.journalClose_keeps

theorem State.openCabin_keeps (h : r.Keeps s) (c : CabinNo) (action : CabinAction) (prior : CabinState)
    (expiry : Bool) :
    r.Keeps (s.openCabin c action prior expiry) := by
  unfold State.openCabin
  repeat' first
    | with_reducible exact h | with_reducible apply State.setCabin_keeps | with_reducible apply State.placePulse_keeps

theorem State.closeHold_keeps (h : r.Keeps s) (c : CabinNo) (outcome : EntryOutcome) :
    r.Keeps (s.closeHold c outcome) := by
  unfold State.closeHold
  repeat' first
    | with_reducible exact h | with_reducible apply State.setCabin_keeps
    | with_reducible apply State.journalClose_keeps

theorem State.expireCabin_keeps (h : r.Keeps s) (c : CabinNo) :
    r.Keeps (s.expireCabin c) := by
  unfold State.expireCabin
  repeat' first
    | with_reducible exact h | with_reducible apply State.openCabin_keeps
    | with_reducible apply State.journalClosed_keeps

theorem State.dueOverdue_keeps (h : r.Keeps s) (c : CabinNo) :
    r.Keeps (s.dueOverdue c) := by
  unfold State.dueOverdue
  repeat' first
    | with_reducible exact h | with_reducible apply State.setCabin_keeps | with_reducible apply State.post_keeps
    | split | dsimp only

theorem State.dueExpiry_keeps (h : r.Keeps s) (c : CabinNo) :
    r.Keeps (s.dueExpiry c) := by
  unfold State.dueExpiry
  repeat' first
    | with_reducible exact h | with_reducible apply State.expireCabin_keeps | split

theorem State.dueTests_keeps (h : r.Keeps s) (c : CabinNo) :
    r.Keeps (s.dueTests c) := by
  unfold State.dueTests
  repeat' first
    | with_reducible exact h | with_reducible apply State.dueOverdue_keeps
    | with_reducible apply State.dueExpiry_keeps

theorem State.allDueTests_keeps (h : r.Keeps s) :
    r.Keeps (s.allDueTests) := by
  unfold State.allDueTests
  repeat' first
    | with_reducible exact h | with_reducible exact State.Keeps.refl _ | with_reducible apply State.dueTests_keeps
    | with_reducible apply State.Keeps.foldl | intro _ _

theorem State.confirmCabinThrow_keeps (h : r.Keeps s) (c : CabinNo) :
    r.Keeps (s.confirmCabinThrow c) := by
  unfold State.confirmCabinThrow
  repeat' first
    | with_reducible exact h | with_reducible apply State.closeHold_keeps | with_reducible apply State.openCabin_keeps
    | with_reducible apply State.setCabin_keeps | with_reducible apply State.dueTests_keeps | split | dsimp only

theorem State.writeCabinRelease_keeps (h : r.Keeps s) (c : CabinNo) (band : Option BandNo) (party : Party)
    (start : Stamp) :
    r.Keeps (s.writeCabinRelease c band party start) := by
  unfold State.writeCabinRelease
  repeat' first
    | with_reducible exact h | with_reducible apply State.journalClosed_keeps

theorem State.confirmCabinWithdraw_keeps (h : r.Keeps s) (c : CabinNo) (w : CabinWork) :
    r.Keeps (s.confirmCabinWithdraw c w) := by
  unfold State.confirmCabinWithdraw
  repeat' first
    | with_reducible exact h | with_reducible apply State.restCabin_keeps
    | with_reducible apply State.writeCabinRelease_keeps | with_reducible apply State.post_keeps | split | dsimp only

theorem State.confirmCabin_keeps (h : r.Keeps s) (c : CabinNo) :
    r.Keeps (s.confirmCabin c) := by
  unfold State.confirmCabin
  repeat' first
    | with_reducible exact h | with_reducible apply State.confirmCabinThrow_keeps
    | with_reducible apply State.confirmCabinWithdraw_keeps | split | dsimp only

theorem State.jamCabin_keeps (h : r.Keeps s) (c : CabinNo) :
    r.Keeps (s.jamCabin c) := by
  unfold State.jamCabin
  repeat' first
    | with_reducible exact h | with_reducible apply State.restCabin_keeps | with_reducible apply State.post_keeps

theorem State.cabinWindowExpiry_keeps (h : r.Keeps s) (c : CabinNo) :
    r.Keeps (s.cabinWindowExpiry c) := by
  unfold State.cabinWindowExpiry
  repeat' first
    | with_reducible exact h | with_reducible apply State.jamCabin_keeps | with_reducible apply State.setCabin_keeps
    | with_reducible apply State.placePulse_keeps | split | dsimp only

theorem State.cabinPulseStart_keeps (h : r.Keeps s) (c : CabinNo) :
    r.Keeps (s.cabinPulseStart c) := by
  unfold State.cabinPulseStart
  repeat' first
    | with_reducible exact h | with_reducible apply State.setCabin_keeps | split | dsimp only

theorem State.cabinPulseEnd_keeps (h : r.Keeps s) (c : CabinNo) (d : Direction) (window : Nat) :
    r.Keeps (s.cabinPulseEnd c d window) := by
  unfold State.cabinPulseEnd
  repeat' first
    | with_reducible exact h | with_reducible apply State.setCabin_keeps
    | with_reducible apply State.confirmCabin_keeps | split | dsimp only

theorem State.handleCabin_keeps (h : r.Keeps s) (c : CabinNo) :
    r.Keeps (s.handleCabin c) := by
  unfold State.handleCabin
  repeat' first
    | with_reducible exact h | with_reducible apply State.restCabin_keeps

theorem State.forceHeldCabin_keeps (h : r.Keeps s) (c : CabinNo) :
    r.Keeps (s.forceHeldCabin c) := by
  unfold State.forceHeldCabin
  repeat' first
    | with_reducible exact h | with_reducible apply State.post_keeps | with_reducible apply State.closeHold_keeps
    | with_reducible apply State.openCabin_keeps

theorem State.forceOpeningCabin_keeps (h : r.Keeps s) (c : CabinNo) (w : CabinWork) :
    r.Keeps (s.forceOpeningCabin c w) := by
  unfold State.forceOpeningCabin
  repeat' first
    | with_reducible exact h | with_reducible apply State.setCabin_keeps | with_reducible apply State.post_keeps
    | with_reducible apply State.closeHold_keeps

theorem State.cabinDoorOpened_keeps (h : r.Keeps s) (c : CabinNo) :
    r.Keeps (s.cabinDoorOpened c) := by
  unfold State.cabinDoorOpened
  repeat' first
    | with_reducible exact h | with_reducible apply State.forceHeldCabin_keeps
    | with_reducible apply State.removePulse_keeps | with_reducible apply State.restCabin_keeps
    | with_reducible apply State.forceOpeningCabin_keeps | split | dsimp only

theorem State.cabinBoltChange_keeps (h : r.Keeps s) (c : CabinNo) (thrown : Bool) :
    r.Keeps (s.cabinBoltChange c thrown) := by
  unfold State.cabinBoltChange
  repeat' first
    | with_reducible exact h | with_reducible apply State.handleCabin_keeps
    | with_reducible apply State.confirmCabin_keeps | with_reducible apply State.removePulse_keeps | split
    | dsimp only

theorem State.cancelCabin_keeps (h : r.Keeps s) (c : CabinNo) (w : CabinWork) :
    r.Keeps (s.cancelCabin c w) := by
  unfold State.cancelCabin
  repeat' first
    | with_reducible exact h | with_reducible apply State.removePulse_keeps
    | with_reducible apply State.restCabin_keeps | with_reducible apply State.setCabin_keeps
    | with_reducible apply State.dueTests_keeps | split

theorem State.claimCabin_keeps (h : r.Keeps s) (c : CabinNo) (b : BandNo) (arrival : Stamp) :
    r.Keeps (s.claimCabin c b arrival) := by
  unfold State.claimCabin
  repeat' first
    | with_reducible exact h | with_reducible apply State.setCabin_keeps | with_reducible apply State.placePulse_keeps
    | with_reducible apply State.journalOpen_keeps

theorem State.freeCabinRules_keeps (h : r.Keeps s) (c : CabinNo) (b : BandNo) (rec : BandRecord) (arrival : Stamp) :
    r.Keeps (s.freeCabinRules c b rec arrival).2 := by
  unfold State.freeCabinRules
  repeat' first
    | with_reducible exact h | with_reducible apply State.claimCabin_keeps | split

theorem State.openHeldCabin_keeps (h : r.Keeps s) (c : CabinNo) (b : BandNo) (party : Party) (arrival : Stamp) :
    r.Keeps (s.openHeldCabin c b party arrival) := by
  unfold State.openHeldCabin
  repeat' first
    | with_reducible exact h | with_reducible apply State.setCabin_keeps | with_reducible apply State.placePulse_keeps

theorem State.heldCabinRules_keeps (h : r.Keeps s) (c : CabinNo) (b : BandNo) (rec : BandRecord) (arrival : Stamp) :
    r.Keeps (s.heldCabinRules c b rec arrival).2 := by
  unfold State.heldCabinRules
  repeat' first
    | with_reducible exact h | with_reducible apply State.openHeldCabin_keeps | split

theorem State.cabinRules_keeps (h : r.Keeps s) (c : CabinNo) (b : BandNo) (rec : BandRecord) (arrival : Stamp) :
    r.Keeps (s.cabinRules c b rec arrival).2 := by
  unfold State.cabinRules
  repeat' first
    | with_reducible exact h | with_reducible apply State.cancelCabin_keeps
    | with_reducible apply State.freeCabinRules_keeps | with_reducible apply State.heldCabinRules_keeps | split
    | dsimp only

theorem State.cabinHolderLeaves_keeps (h : r.Keeps s) (c : CabinNo) :
    r.Keeps (s.cabinHolderLeaves c) := by
  unfold State.cabinHolderLeaves
  repeat' first
    | with_reducible exact h | with_reducible apply State.removePulse_keeps
    | with_reducible apply State.restCabin_keeps | with_reducible apply State.setCabin_keeps
    | with_reducible apply State.openCabin_keeps | split | dsimp only

theorem State.cabinBandLeaves_keeps (h : r.Keeps s) (b : BandNo) :
    r.Keeps (s.cabinBandLeaves b) := by
  unfold State.cabinBandLeaves
  repeat' first
    | with_reducible exact h | with_reducible apply State.cabinHolderLeaves_keeps | split

theorem State.restoreCabins_keeps (h : r.Keeps s) :
    r.Keeps (s.restoreCabins) := by
  unfold State.restoreCabins
  repeat' first
    | with_reducible exact h | with_reducible exact State.Keeps.refl _ | with_reducible apply State.openCabin_keeps
    | with_reducible apply State.Keeps.foldl | intro _ _ | split

theorem State.tariffSwitch_keeps (h : r.Keeps s) (table : TariffTable) :
    r.Keeps (s.tariffSwitch table) := by
  unfold State.tariffSwitch
  repeat' first
    | with_reducible exact h | with_reducible apply State.setSettings_keeps
    | with_reducible apply State.setClock_keeps | with_reducible apply State.askHeaderWrite_keeps
    | with_reducible apply State.post_keeps

theorem State.switchTest_keeps (h : r.Keeps s) :
    r.Keeps (s.switchTest) := by
  unfold State.switchTest
  repeat' first
    | with_reducible exact h | with_reducible apply State.tariffSwitch_keeps | split

theorem State.stepClock_keeps (h : r.Keeps s) (v : Stamp) :
    r.Keeps (s.stepClock v) := by
  unfold State.stepClock
  repeat' first
    | with_reducible exact h | with_reducible apply State.setClock_keeps
    | with_reducible apply State.allDueTests_keeps | with_reducible apply State.switchTest_keeps

theorem State.minutePulse_keeps (h : r.Keeps s) :
    r.Keeps (s.minutePulse) := by
  unfold State.minutePulse
  repeat' first
    | with_reducible exact h | with_reducible apply State.stepClock_keeps | with_reducible apply State.post_keeps
    | split

theorem State.setTheClock_keeps (h : r.Keeps s) (v : Stamp) :
    r.Keeps (s.setTheClock v) := by
  unfold State.setTheClock
  repeat' first
    | with_reducible exact h | with_reducible apply State.setClock_keeps | with_reducible apply State.stepClock_keeps
    | split | dsimp only

theorem State.evaluateFull_keeps (h : r.Keeps s) :
    r.Keeps (s.evaluateFull) := by
  unfold State.evaluateFull
  repeat' first
    | with_reducible exact h | exact fun g => g | with_reducible apply State.setLanes_keeps
    | with_reducible apply State.post_keeps | split

theorem State.setOccupancy_keeps (h : r.Keeps s) (n : Nat) (hn : s.lanes.within → n ≤ 999) :
    r.Keeps (s.setOccupancy n) :=
  State.evaluateFull_keeps (State.setLanes_keeps h _ fun g => ⟨hn g, g.2⟩)

theorem passedOccupancy_le {n : Nat} (h : n ≤ 999) (inbound : Bool) : passedOccupancy n inbound ≤ 999 := by
  unfold passedOccupancy
  split <;> omega

theorem State.pulseEject_keeps (h : r.Keeps s) (l : LaneNo) :
    r.Keeps (s.pulseEject l) := by
  unfold State.pulseEject
  repeat' first
    | with_reducible exact h | refine State.setLane_keeps_phase ?_ _ _ rfl

theorem State.pulseSwallow_keeps (h : r.Keeps s) (l : LaneNo) :
    r.Keeps (s.pulseSwallow l) := by
  unfold State.pulseSwallow
  repeat' first
    | with_reducible exact h | refine State.setLane_keeps_phase ?_ _ _ rfl

theorem State.endLinePulse_keeps (h : r.Keeps s) (l : LaneNo) (x : SlotLine) :
    r.Keeps (s.endLinePulse l x) := by
  unfold State.endLinePulse
  repeat' first
    | with_reducible exact h | refine State.setLane_keeps_phase ?_ _ _ rfl
    | refine State.setLane_keeps_zero ?_ _ _ rfl | split

theorem State.useArmStamp_keeps (h : r.Keeps s) :
    r.Keeps (s.useArmStamp) := by
  unfold State.useArmStamp
  repeat' first
    | with_reducible exact h | with_reducible apply State.setFree_keeps | split

theorem State.armLane_keeps (h : r.Keeps s) (l : LaneNo) (b : BandNo) (master inbound : Bool) (arrival : Stamp) :
    r.Keeps (s.armLane l b master inbound arrival) := by
  unfold State.armLane
  repeat' first
    | with_reducible exact h | with_reducible apply State.useArmStamp_keeps
    | refine State.setLane_keeps_phase ?_ _ _ rfl | refine State.setLane_keeps_zero ?_ _ _ rfl
    | with_reducible apply State.journalOpen_keeps

theorem State.disarm_keeps (h : r.Keeps s) (l : LaneNo) (outcome : EntryOutcome) :
    r.Keeps (s.disarm l outcome) := by
  unfold State.disarm
  repeat' first
    | with_reducible exact h | refine State.setLane_keeps_phase ?_ _ _ rfl
    | refine State.setLane_keeps_zero ?_ _ _ rfl | with_reducible apply State.journalClose_keeps

theorem State.armTimerExpiry_keeps (h : r.Keeps s) (l : LaneNo) :
    r.Keeps (s.armTimerExpiry l) := by
  unfold State.armTimerExpiry
  repeat' first
    | with_reducible exact h | with_reducible apply State.disarm_keeps | with_reducible apply State.post_keeps | split

theorem State.laneBandLeaves_keeps (h : r.Keeps s) (b : BandNo) :
    r.Keeps (s.laneBandLeaves b) := by
  unfold State.laneBandLeaves
  repeat' first
    | with_reducible exact h | with_reducible apply State.disarm_keeps | intro _ | split

theorem State.entryRules_keeps (h : r.Keeps s) (l : LaneNo) (b : BandNo) (rec : BandRecord) (arrival : Stamp) :
    r.Keeps (s.entryRules l b rec arrival).2 := by
  unfold State.entryRules
  repeat' first
    | with_reducible exact h | with_reducible apply State.armLane_keeps | split | dsimp only

theorem State.exitRules_keeps (h : r.Keeps s) (l : LaneNo) (b : BandNo) (rec : BandRecord) (arrival : Stamp) :
    r.Keeps (s.exitRules l b rec arrival).2.1 := by
  unfold State.exitRules
  repeat' first
    | with_reducible exact h | with_reducible apply State.pulseEject_keeps | with_reducible apply State.armLane_keeps
    | with_reducible apply State.lockerExit_keeps | with_reducible apply State.pulseSwallow_keeps | split | dsimp only

theorem State.fitLane_keeps (h : r.Keeps s) (l : LaneNo) :
    r.Keeps (s.fitLane l) := by
  unfold State.fitLane
  repeat' first
    | with_reducible exact h | refine State.setLane_keeps_phase ?_ _ _ rfl
    | refine State.setLane_keeps_zero ?_ _ _ rfl

theorem State.unfitLane_keeps (h : r.Keeps s) (l : LaneNo) :
    r.Keeps (s.unfitLane l) := by
  unfold State.unfitLane
  repeat' first
    | with_reducible exact h | refine State.setLane_keeps_phase ?_ _ _ rfl
    | refine State.setLane_keeps_zero ?_ _ _ rfl

theorem State.serveLane_keeps (h : r.Keeps s) (l : LaneNo) (on : Bool) :
    r.Keeps (s.serveLane l on) := by
  unfold State.serveLane
  repeat' first
    | with_reducible exact h | with_reducible apply State.disarm_keeps | refine State.setLane_keeps_phase ?_ _ _ rfl
    | refine State.setLane_keeps_zero ?_ _ _ rfl | split

theorem State.placeVerdict_keeps (h : r.Keeps s) (g : HeadNo) (v : Verdict) :
    r.Keeps (s.placeVerdict g v) := by
  unfold State.placeVerdict
  repeat' first
    | with_reducible exact h | with_reducible apply State.setHead_keeps | with_reducible apply State.setReader_keeps
    | split

theorem State.ejectForRefusal_keeps (h : r.Keeps s) (target : JournalSubject) :
    r.Keeps (s.ejectForRefusal target) := by
  unfold State.ejectForRefusal
  repeat' first
    | with_reducible exact h | with_reducible apply State.pulseEject_keeps | split

theorem State.journalRefusal_keeps (h : r.Keeps s) (target : JournalSubject) (p : Presentation) (party : Party)
    (q : Reason) :
    r.Keeps (s.journalRefusal target p party q) := by
  unfold State.journalRefusal
  repeat' first
    | with_reducible exact h | with_reducible apply State.journalClosed_keeps | split

theorem State.conclude_keeps (h : r.Keeps s) (g : HeadNo) (p : Presentation) (v : Verdict) (party : Party) :
    r.Keeps (s.conclude g p v party) := by
  unfold State.conclude
  repeat' first
    | with_reducible exact h | with_reducible apply State.placeVerdict_keeps
    | with_reducible apply State.setSlot_keeps | with_reducible apply State.journalRefusal_keeps
    | with_reducible apply State.ejectForRefusal_keeps | split

theorem State.targetRules_keeps (h : r.Keeps s) (target : JournalSubject) (b : BandNo) (rec : BandRecord)
    (arrival : Stamp) :
    r.Keeps (s.targetRules target b rec arrival).2.1 := by
  unfold State.targetRules
  repeat' first
    | with_reducible exact h | with_reducible apply State.lockerRules_keeps
    | with_reducible apply State.cabinRules_keeps | with_reducible apply State.entryRules_keeps
    | with_reducible apply State.exitRules_keeps | split

theorem State.decidePresentation_keeps (h : r.Keeps s) (g : HeadNo) (p : Presentation) (rec : BandRecord) :
    r.Keeps (s.decidePresentation g p rec).1 := by
  unfold State.decidePresentation
  repeat' first
    | with_reducible exact h | with_reducible apply State.conclude_keeps
    | with_reducible apply State.targetRules_keeps | split

theorem State.supersede_keeps (h : r.Keeps s) (g : HeadNo) :
    r.Keeps (s.supersede g) := by
  unfold State.supersede
  repeat' first
    | with_reducible exact h | with_reducible exact State.Keeps.refl _ | with_reducible apply State.setEntry_keeps
    | with_reducible apply State.Keeps.foldl | intro _ _

theorem State.dropPresentation_keeps (h : r.Keeps s) (g : HeadNo) :
    r.Keeps (s.dropPresentation g) := by
  unfold State.dropPresentation
  repeat' first
    | with_reducible exact h | with_reducible apply State.supersede_keeps | with_reducible apply State.setSlot_keeps
    | split

theorem State.leaveService_keeps (h : r.Keeps s) (g : HeadNo) :
    r.Keeps (s.leaveService g) := by
  unfold State.leaveService
  repeat' first
    | with_reducible exact h | with_reducible apply State.dropPresentation_keeps
    | with_reducible apply State.setHead_keeps | with_reducible apply State.setReader_keeps

theorem State.leaveAll_keeps (h : r.Keeps s) (before : State) :
    r.Keeps (s.leaveAll before) := by
  unfold State.leaveAll
  repeat' first
    | with_reducible exact h | with_reducible exact State.Keeps.refl _ | with_reducible apply State.leaveService_keeps
    | with_reducible apply State.Keeps.foldl | intro _ _ | split

theorem Served.only_keeps (h : r.Keeps s) (rec : BandRecord) (res : Result) :
    r.Keeps (Served.only s rec res).state := h

theorem State.serveIssue_keeps (h : r.Keeps s) (n : BandNo) (rec : BandRecord) (serial : Serial)
    (cls paid credit : Nat) (mask rights : Byte) :
    r.Keeps (s.serveIssue n rec serial cls paid credit mask rights).state := by
  unfold State.serveIssue
  repeat' first
    | with_reducible exact h | with_reducible apply Served.only_keeps | split

theorem State.serveAmend_keeps (h : r.Keeps s) (rec : BandRecord) (cls paid : Nat) (mask rights : Byte) :
    r.Keeps (s.serveAmend rec cls paid mask rights).state := by
  unfold State.serveAmend
  repeat' first
    | with_reducible exact h | with_reducible apply Served.only_keeps | split

theorem State.serveTopup_keeps (h : r.Keeps s) (rec : BandRecord) (amount : Nat) :
    r.Keeps (s.serveTopup rec amount).state := by
  unfold State.serveTopup
  repeat' first
    | with_reducible exact h | with_reducible apply Served.only_keeps | split

theorem State.serveSettle_keeps (h : r.Keeps s) (rec : BandRecord) (amount : Nat) :
    r.Keeps (s.serveSettle rec amount).state := by
  unfold State.serveSettle
  repeat' first
    | with_reducible exact h | with_reducible apply Served.only_keeps | split

theorem State.serveBar_keeps (h : r.Keeps s) (n : BandNo) (rec : BandRecord) :
    r.Keeps (s.serveBar n rec).state := by
  unfold State.serveBar
  repeat' first
    | with_reducible exact h | with_reducible apply State.cabinBandLeaves_keeps
    | with_reducible apply State.laneBandLeaves_keeps | with_reducible apply Served.only_keeps | split

theorem State.serveUnbar_keeps (h : r.Keeps s) (rec : BandRecord) :
    r.Keeps (s.serveUnbar rec).state := by
  unfold State.serveUnbar
  repeat' first
    | with_reducible exact h | with_reducible apply Served.only_keeps | split

theorem State.serveReturn_keeps (h : r.Keeps s) (n : BandNo) (rec : BandRecord) :
    r.Keeps (s.serveReturn n rec).state := by
  unfold State.serveReturn
  repeat' first
    | with_reducible exact h | with_reducible apply State.lockerReturn_keeps
    | with_reducible apply State.cabinBandLeaves_keeps | with_reducible apply State.laneBandLeaves_keeps
    | with_reducible apply Served.only_keeps | split

theorem State.serveAssign_keeps (h : r.Keeps s) (n : BandNo) (rec : BandRecord) (k : LockerNo) :
    r.Keeps (s.serveAssign n rec k).state := by
  unfold State.serveAssign
  repeat' first
    | with_reducible exact h | with_reducible apply State.setLocker_keeps
    | with_reducible apply State.journalClosed_keeps | with_reducible apply Served.only_keeps | split

theorem State.serveShare_keeps (h : r.Keeps s) (n : BandNo) (rec : BandRecord) (k : LockerNo) :
    r.Keeps (s.serveShare n rec k).state := by
  unfold State.serveShare
  repeat' first
    | with_reducible exact h | with_reducible apply State.setLocker_keeps | with_reducible apply Served.only_keeps
    | split | dsimp only

theorem State.serveStay_keeps (h : r.Keeps s) (n : BandNo) (rec : BandRecord) :
    r.Keeps (s.serveStay n rec).state := by
  unfold State.serveStay
  repeat' first
    | with_reducible exact h | with_reducible apply Served.only_keeps | split

theorem State.serveRequest_keeps (h : r.Keeps s) (n : BandNo) (rec : BandRecord) (x : BandRequest) :
    r.Keeps (s.serveRequest n rec x).state := by
  unfold State.serveRequest
  repeat' first
    | with_reducible exact h | with_reducible apply State.serveIssue_keeps
    | with_reducible apply State.serveAmend_keeps | with_reducible apply State.serveTopup_keeps
    | with_reducible apply State.serveSettle_keeps | with_reducible apply State.serveBar_keeps
    | with_reducible apply State.serveUnbar_keeps | with_reducible apply State.serveReturn_keeps
    | with_reducible apply State.serveAssign_keeps | with_reducible apply State.serveShare_keeps
    | with_reducible apply State.serveStay_keeps | split

theorem State.clearCommit_keeps (h : r.Keeps s) (l : LaneNo) :
    r.Keeps (s.clearCommit l) := by
  unfold State.clearCommit
  repeat' first
    | with_reducible exact h | refine State.setLane_keeps_phase ?_ _ _ rfl

theorem State.ownershipEnded_keeps (h : r.Keeps s) :
    r.Keeps (s.ownershipEnded) := by
  unfold State.ownershipEnded
  repeat' first
    | with_reducible exact h | with_reducible apply State.setPart_keeps | split

theorem State.serve_keeps (h : r.Keeps s) (n : BandNo) (rec : BandRecord) (x : Waiter) :
    r.Keeps (s.serve n rec x).state := by
  unfold State.serve
  repeat' first
    | with_reducible exact h | with_reducible apply State.decidePresentation_keeps
    | with_reducible apply State.serveRequest_keeps | with_reducible apply State.clearCommit_keeps
    | with_reducible apply State.checkOwner_keeps | with_reducible apply State.ownershipEnded_keeps
    | with_reducible apply State.checkCompanion_keeps | split

theorem State.touch_keeps (h : r.Keeps s) (e : EntryNo) :
    r.Keeps (s.touch e) := by
  unfold State.touch
  repeat' first
    | with_reducible exact h | with_reducible apply State.setBand_keeps | exact le_rfl

theorem State.emptyEntry_keeps (h : r.Keeps s) (e : EntryNo) :
    r.Keeps (s.emptyEntry e) := by
  unfold State.emptyEntry
  repeat' first
    | with_reducible exact h | with_reducible apply State.setEntry_keeps | with_reducible apply State.setBand_keeps
    | exact le_rfl

theorem State.emptyTest_keeps (h : r.Keeps s) (e : EntryNo) :
    r.Keeps (s.emptyTest e) := by
  unfold State.emptyTest
  repeat' first
    | with_reducible exact h | with_reducible apply State.emptyEntry_keeps | split | dsimp only

theorem State.noteChange_keeps (h : r.Keeps s) (e : EntryNo) :
    r.Keeps (s.noteChange e) := by
  unfold State.noteChange
  repeat' first
    | with_reducible exact h | with_reducible apply State.setEntry_keeps | with_reducible apply State.setBand_keeps
    | exact le_rfl | split | dsimp only

theorem State.replyServed_keeps (h : r.Keeps s) (e : EntryNo) (changed : Bool) (x : Option (Result × ReplyData)) :
    r.Keeps (s.replyServed e changed x) := by
  unfold State.replyServed
  repeat' first
    | with_reducible exact h | with_reducible apply State.reply_keeps | with_reducible apply State.setBand_keeps
    | exact le_rfl | split

theorem State.serveAt_keeps (h : r.Keeps s) (e : EntryNo) (w : Waiter) :
    r.Keeps (s.serveAt e w) := by
  unfold State.serveAt
  repeat' first
    | with_reducible exact h | with_reducible apply State.touch_keeps | with_reducible apply State.serve_keeps
    | with_reducible apply State.replyServed_keeps | with_reducible apply State.reply_keeps
    | with_reducible apply State.setEntry_keeps | with_reducible apply State.noteChange_keeps | split | dsimp only

theorem State.endOp_keeps (h : r.Keeps s) (w : Waiter) (n : Option BandNo) (res : Result) :
    r.Keeps (s.endOp w n res) := by
  unfold State.endOp
  repeat' first
    | with_reducible exact h | with_reducible apply State.conclude_keeps | with_reducible apply State.answer_keeps
    | refine State.setLane_keeps_phase ?_ _ _ rfl | refine State.setLane_keeps_zero ?_ _ _ rfl
    | with_reducible apply State.clearCommit_keeps | with_reducible apply State.checkOwner_keeps
    | with_reducible apply State.ownershipEnded_keeps | with_reducible apply State.checkCompanion_keeps | split

theorem State.endWaiters_keeps (h : r.Keeps s) (e : EntryNo) (res : Result) :
    r.Keeps (s.endWaiters e res) := by
  unfold State.endWaiters
  repeat' first
    | with_reducible exact h | with_reducible exact State.Keeps.refl _ | with_reducible apply State.emptyEntry_keeps
    | with_reducible apply State.endOp_keeps | with_reducible apply State.Keeps.foldl | intro _ _

theorem State.startFill_keeps (h : r.Keeps s) (e : EntryNo) (n : BandNo) (w : Waiter) :
    r.Keeps (s.startFill e n w) := by
  unfold State.startFill
  repeat' first
    | with_reducible exact h | with_reducible apply State.setEntry_keeps | with_reducible apply State.setBand_keeps
    | exact le_rfl

theorem State.allocate_keeps (h : r.Keeps s) (n : BandNo) (w : Waiter) :
    r.Keeps (s.allocate n w) := by
  unfold State.allocate
  repeat' first
    | with_reducible exact h | with_reducible apply State.endOp_keeps | with_reducible apply State.startFill_keeps
    | split

theorem State.bandOpAt_keeps (h : r.Keeps s) (n : BandNo) (w : Waiter) :
    r.Keeps (s.bandOpAt n w) := by
  unfold State.bandOpAt
  repeat' first
    | with_reducible exact h | with_reducible apply State.allocate_keeps | with_reducible apply State.serveAt_keeps
    | with_reducible apply State.emptyTest_keeps | with_reducible apply State.endOp_keeps
    | with_reducible apply State.setEntry_keeps | split

theorem State.bandOp_keeps (h : r.Keeps s) (n : Nat) (w : Waiter) :
    r.Keeps (s.bandOp n w) := by
  unfold State.bandOp
  repeat' first
    | with_reducible exact h | with_reducible apply State.endOp_keeps | with_reducible apply State.bandOpAt_keeps
    | split

theorem State.fillGood_keeps (h : r.Keeps s) (e : EntryNo) (n : BandNo) (rec : BandRecord) :
    r.Keeps (s.fillGood e n rec) := by
  unfold State.fillGood
  repeat' first
    | with_reducible exact h | with_reducible exact State.Keeps.refl _ | with_reducible apply State.setEntry_keeps
    | with_reducible apply State.touch_keeps | with_reducible apply State.serveAt_keeps
    | with_reducible apply State.emptyTest_keeps | with_reducible apply State.Keeps.foldl | intro _ _

theorem State.serveDamaged_keeps (h : r.Keeps s) (e : EntryNo) (n : BandNo) (ws : List Waiter) :
    r.Keeps (s.serveDamaged e n ws) := by
  induction ws generalizing s with
  | nil => exact State.emptyEntry_keeps h e
  | cons w ws ih =>
    unfold State.serveDamaged
    dsimp only
    split
    · split
      · exact ih (State.replyServed_keeps (State.serve_keeps h n _ w) _ _ _)
      · exact State.emptyTest_keeps (State.Keeps.foldl _
          (State.touch_keeps (State.setEntry_keeps h _ _) _)
          fun t w => State.serveAt_keeps (State.Keeps.refl t) e w) e
    · exact ih (State.endOp_keeps h _ _ _)

theorem State.fillDamaged_keeps (h : r.Keeps s) (e : EntryNo) (n : BandNo) :
    r.Keeps (s.fillDamaged e n) := by
  unfold State.fillDamaged
  repeat' first
    | with_reducible exact h | with_reducible apply State.post_keeps | with_reducible apply State.setEntry_keeps
    | with_reducible apply State.serveDamaged_keeps

theorem State.establish_keeps (h : r.Keeps s) (i : StringNo) :
    r.Keeps (s.establish i) := by
  unfold State.establish
  repeat' first
    | with_reducible exact h | with_reducible apply State.setString_keeps
    | with_reducible apply State.setContacts_keeps

theorem State.unfitString_keeps (h : r.Keeps s) (i : StringNo) :
    r.Keeps (s.unfitString i) := by
  unfold State.unfitString
  repeat' first
    | with_reducible exact h | with_reducible apply State.setString_keeps
    | with_reducible apply State.setContacts_keeps

theorem State.establishFitted_keeps (h : r.Keeps s) :
    r.Keeps (s.establishFitted) := by
  unfold State.establishFitted
  repeat' first
    | with_reducible exact h | with_reducible exact State.Keeps.refl _ | with_reducible apply State.establish_keeps
    | with_reducible apply State.Keeps.foldl | intro _ _

theorem State.readBeams_keeps (h : r.Keeps s) :
    r.Keeps (s.readBeams) := by
  unfold State.readBeams
  repeat' first
    | with_reducible exact h | with_reducible exact State.Keeps.refl _ | refine State.setLane_keeps_phase ?_ _ _ rfl
    | refine State.setLane_keeps_zero ?_ _ _ rfl | with_reducible apply State.Keeps.foldl | intro _ _ | split

theorem State.clampMisses_keeps (h : r.Keeps s) :
    r.Keeps (s.clampMisses) := by
  unfold State.clampMisses
  repeat' first
    | with_reducible exact h | with_reducible apply State.setReader_keeps

theorem State.resetBlocks_keeps (h : r.Keeps s) : r.Keeps s.resetBlocks := by
  refine State.readBeams_keeps (h.trans ⟨id, fun _ => Nat.zero_le _, fun _ => ⟨Nat.zero_le _, fun l => ?_⟩,
    fun _ => Nat.zero_le _, rfl⟩)
  simp [State.cold, Lane.atReset]

theorem State.restoreIfFitted_keeps (h : r.Keeps s) :
    r.Keeps (s.restoreIfFitted) := by
  unfold State.restoreIfFitted
  repeat' first
    | with_reducible exact h | with_reducible apply State.restoreCabins_keeps | split

theorem State.enterNoStore_keeps (h : r.Keeps s) :
    r.Keeps (s.enterNoStore) := by
  unfold State.enterNoStore
  repeat' first
    | with_reducible exact h | with_reducible apply State.setPart_keeps | with_reducible apply State.setBand_keeps
    | with_reducible apply State.setSettings_keeps | with_reducible apply State.setLockers_keeps
    | with_reducible apply State.establishFitted_keeps | with_reducible apply State.readBeams_keeps
    | with_reducible apply State.restoreIfFitted_keeps | exact le_rfl | exact Nat.zero_le _

theorem State.takeMirror_keeps (h : r.Keeps s) (k : LockerNo) (tableLength : Nat) (bs : List Byte) :
    r.Keeps (s.takeMirror k tableLength bs) := by
  unfold State.takeMirror
  repeat' first
    | with_reducible exact h | with_reducible apply State.setLocker_keeps | with_reducible apply State.post_keeps
    | split

theorem State.unfitLanes_keeps (h : r.Keeps s) :
    r.Keeps (s.unfitLanes) := by
  unfold State.unfitLanes
  repeat' first
    | with_reducible exact h | with_reducible exact State.Keeps.refl _ | with_reducible apply State.unfitLane_keeps
    | with_reducible apply State.Keeps.foldl | intro _ _ | split

theorem State.vacateAllUnfitted_keeps (h : r.Keeps s) :
    r.Keeps (s.vacateAllUnfitted) := by
  unfold State.vacateAllUnfitted
  repeat' first
    | with_reducible exact h | with_reducible exact State.Keeps.refl _
    | with_reducible apply State.vacateUnfitted_keeps | with_reducible apply State.Keeps.foldl | intro _ _ | split

theorem State.checkRunning_keeps (h : r.Keeps s) :
    r.Keeps (s.checkRunning) := by
  unfold State.checkRunning
  repeat' first
    | with_reducible exact h | with_reducible apply State.setPart_keeps | with_reducible apply State.post_keeps
    | split

theorem State.applyHeld_keeps (h : r.Keeps s) (held : Settings) :
    r.Keeps (s.applyHeld held) := by
  unfold State.applyHeld
  repeat' first
    | with_reducible exact h | with_reducible apply State.setSettings_keeps | with_reducible apply State.setPart_keeps
    | with_reducible apply State.clampMisses_keeps | with_reducible apply State.establishFitted_keeps
    | with_reducible apply State.unfitLanes_keeps | with_reducible apply State.readBeams_keeps
    | with_reducible apply State.leaveAll_keeps | with_reducible apply State.vacateAllUnfitted_keeps
    | with_reducible apply State.restoreIfFitted_keeps | with_reducible apply State.checkRunning_keeps

theorem State.ownershipFrom_keeps (h : r.Keeps s) (held : Settings) (ks : List LockerNo) :
    r.Keeps (s.ownershipFrom held ks) := by
  induction ks generalizing s with
  | nil => exact State.applyHeld_keeps h held
  | cons k ks ih =>
    have g := State.Keeps.foldl (f := fun s o => s.bandOp o.1.val o.2) (ownershipOps k (s.locker k))
      (State.setPart_keeps h { s.part with startup := .ownership k (ownershipOps k (s.locker k)).length held })
      fun t o => State.bandOp_keeps (State.Keeps.refl t) _ _
    unfold State.ownershipFrom
    dsimp only
    split
    · exact ih h
    · split
      · exact ih g
      · exact g

theorem State.mirrorRead_keeps (h : r.Keeps s) (k : LockerNo) (held : Settings) (bs : List Byte) :
    r.Keeps (s.mirrorRead k held bs) := by
  unfold State.mirrorRead
  repeat' first
    | with_reducible exact h | with_reducible apply State.takeMirror_keeps | with_reducible apply State.setPart_keeps
    | with_reducible apply State.ownershipFrom_keeps | split

theorem State.headerRead_keeps (h : r.Keeps s) (bs : List Byte) :
    r.Keeps (s.headerRead bs) := by
  unfold State.headerRead
  repeat' first
    | with_reducible exact h | with_reducible apply State.enterNoStore_keeps
    | with_reducible apply State.setPart_keeps | with_reducible apply State.mirrorRead_keeps | split

theorem State.cutOffTransfer_keeps (h : r.Keeps s) :
    r.Keeps (s.cutOffTransfer) := by
  unfold State.cutOffTransfer
  repeat' first
    | with_reducible exact h | exact fun g => g | with_reducible apply State.setStore_keeps
    | with_reducible apply State.setFree_keeps | with_reducible apply State.headerRead_keeps
    | with_reducible apply State.mirrorRead_keeps | split

theorem State.hardReset_keeps (h : r.Keeps s) :
    r.Keeps (s.hardReset) := by
  unfold State.hardReset
  repeat' first
    | with_reducible exact h | with_reducible apply State.cutOffTransfer_keeps
    | with_reducible apply State.resetBlocks_keeps | with_reducible apply State.setLink_keeps
    | with_reducible apply State.setClock_keeps | exact le_rfl

theorem State.endFetches_keeps (h : r.Keeps s) (res : Result) :
    r.Keeps (s.endFetches res) := by
  unfold State.endFetches
  repeat' first
    | with_reducible exact h | with_reducible exact State.Keeps.refl _ | with_reducible apply State.endWaiters_keeps
    | with_reducible apply State.setBand_keeps | with_reducible apply State.Keeps.foldl | exact le_rfl | intro _ _

theorem State.discardHeld_keeps (h : r.Keeps s) :
    r.Keeps (s.discardHeld) := by
  unfold State.discardHeld
  repeat' first
    | with_reducible exact h | with_reducible apply State.setBand_keeps | exact le_rfl | exact Nat.zero_le _ | split

theorem LaneUnit.within_windDown {x : LaneUnit} (g : x.within) :
    LaneUnit.within { x with table := x.table.map Lane.windDown } :=
  ⟨g.1, fun l => by simpa [Lane.windDown] using g.2 l⟩

theorem State.beginWinding_keeps (h : r.Keeps s) : r.Keeps s.beginWinding := by
  have g : r.Keeps (allHeads.foldl State.dropPresentation (s.setPart { s.part with winding := true })) := by
    with_reducible apply State.Keeps.foldl
    · exact State.setPart_keeps h _
    · exact fun t n => State.dropPresentation_keeps (State.Keeps.refl t) n
  unfold State.beginWinding
  dsimp only
  generalize allHeads.foldl State.dropPresentation (s.setPart { s.part with winding := true }) = t at g ⊢
  with_reducible apply State.discardHeld_keeps
  with_reducible apply State.endFetches_keeps
  with_reducible apply State.setBand_keeps
  · with_reducible apply State.setCabins_keeps
    with_reducible apply State.setLockers_keeps
    with_reducible apply State.setLanes_keeps
    · exact State.setReader_keeps g _
    · exact fun w => LaneUnit.within_windDown w
  · exact Nat.le_refl _

theorem State.enterStarting_keeps (h : r.Keeps s) :
    r.Keeps (s.enterStarting) := by
  unfold State.enterStarting
  repeat' first
    | with_reducible exact h | with_reducible apply State.resetBlocks_keeps | with_reducible apply State.setLink_keeps
    | with_reducible apply State.disown_keeps | exact le_rfl

theorem State.stringReachesFitted_keeps (h : r.Keeps s) (i : StringNo) :
    r.Keeps (s.stringReachesFitted i) := by
  unfold State.stringReachesFitted
  repeat' first
    | with_reducible exact h | with_reducible apply State.setString_keeps
    | with_reducible apply State.reconcileString_keeps | with_reducible apply State.checkRunning_keeps
    | with_reducible apply State.restoreCabins_keeps | split

theorem State.advanceOwnership_keeps (h : r.Keeps s) :
    r.Keeps (s.advanceOwnership) := by
  unfold State.advanceOwnership
  repeat' first
    | with_reducible exact h | with_reducible apply State.ownershipFrom_keeps | split

theorem State.startTransfer_keeps (h : r.Keeps s) (t : Transfer) :
    r.Keeps (s.startTransfer t) := by
  unfold State.startTransfer
  repeat' first
    | with_reducible exact h | with_reducible apply State.setBand_keeps | exact le_rfl

theorem State.waitStarted_keeps (h : r.Keeps s) (target : WaitTarget) :
    r.Keeps (s.waitStarted target) := by
  unfold State.waitStarted
  repeat' first
    | with_reducible exact h | with_reducible apply State.setBand_keeps | exact le_rfl | split

theorem State.startMirror_keeps (h : r.Keeps s) (k : LockerNo) :
    r.Keeps (s.startMirror k) := by
  unfold State.startMirror
  repeat' first
    | with_reducible exact h | with_reducible apply State.setLocker_keeps | with_reducible apply State.setBand_keeps
    | with_reducible apply State.startTransfer_keeps | exact le_rfl | exact Nat.zero_le _

theorem State.nextFairness_le (s : State) : s.nextFairness ≤ 4 := by
  unfold State.nextFairness
  split
  · exact Nat.min_le_left _ _
  · exact Nat.zero_le _

theorem State.startQueued_keeps (h : r.Keeps s) (q : PortRequest) (rest : List PortRequest) :
    r.Keeps (s.startQueued q rest) := by
  unfold State.startQueued
  repeat' first
    | with_reducible exact h | refine State.setBand_keeps_four ?_ _ (State.nextFairness_le _)
    | with_reducible apply State.setBand_keeps | with_reducible apply State.startTransfer_keeps
    | with_reducible apply State.waitStarted_keeps | exact le_rfl | exact Nat.zero_le _ | split | dsimp only

theorem State.chooseByTable_keeps (h : r.Keeps s) :
    r.Keeps (s.chooseByTable) := by
  unfold State.chooseByTable
  repeat' first
    | with_reducible exact h | with_reducible apply State.startMirror_keeps
    | with_reducible apply State.startQueued_keeps | split

theorem State.startFormatWrite_keeps (h : r.Keeps s) (i : Nat) :
    r.Keeps (s.startFormatWrite i) := by
  unfold State.startFormatWrite
  repeat' first
    | with_reducible exact h | with_reducible apply State.setBand_keeps
    | with_reducible apply State.startTransfer_keeps | exact le_rfl

theorem State.choosePort_keeps (h : r.Keeps s) :
    r.Keeps (s.choosePort) := by
  unfold State.choosePort
  repeat' first
    | with_reducible exact h | with_reducible apply State.headerRead_keeps
    | with_reducible apply State.startTransfer_keeps | with_reducible apply State.mirrorRead_keeps
    | with_reducible apply State.chooseByTable_keeps | with_reducible apply State.startFormatWrite_keeps | split

theorem State.portDone_keeps (h : r.Keeps s) :
    r.Keeps (s.portDone) := by
  unfold State.portDone
  repeat' first
    | with_reducible exact h | with_reducible apply State.setBand_keeps | exact le_rfl

theorem State.replyWritten_keeps (h : r.Keeps s) (target : WaitTarget) :
    r.Keeps (s.replyWritten target) := by
  unfold State.replyWritten
  repeat' first
    | with_reducible exact h | with_reducible apply State.setBand_keeps | with_reducible apply State.reply_keeps
    | exact le_rfl | split

theorem State.headerReadDone_keeps (h : r.Keeps s) (seen : Option (List Byte)) :
    r.Keeps (s.headerReadDone seen) := by
  unfold State.headerReadDone
  repeat' first
    | with_reducible exact h | with_reducible apply State.setStore_keeps | with_reducible apply State.portDone_keeps
    | with_reducible apply State.headerRead_keeps | exact fun g => Store.seen_wf g _ _ _

theorem State.mirrorReadDone_keeps (h : r.Keeps s) (seen : Option (List Byte)) :
    r.Keeps (s.mirrorReadDone seen) := by
  unfold State.mirrorReadDone
  repeat' first
    | with_reducible exact h | with_reducible apply State.mirrorRead_keeps | with_reducible apply State.setStore_keeps
    | with_reducible apply State.portDone_keeps | exact fun g => Store.seen_wf g _ _ _ | split

theorem State.fetchDone_keeps (h : r.Keeps s) (e : EntryNo) (n : BandNo) (seen : Option (List Byte)) :
    r.Keeps (s.fetchDone e n seen) := by
  unfold State.fetchDone
  repeat' first
    | with_reducible exact h | with_reducible apply State.setStore_keeps | with_reducible apply State.portDone_keeps
    | with_reducible apply State.endWaiters_keeps | with_reducible apply State.fillGood_keeps
    | with_reducible apply State.fillDamaged_keeps | with_reducible apply State.advanceOwnership_keeps
    | exact fun g => Store.seen_wf g _ _ _ | split | dsimp only

theorem State.writeDone_keeps (h : r.Keeps s) (e : EntryNo) (n : BandNo) (bs : List Byte) :
    r.Keeps (s.writeDone e n bs) := by
  unfold State.writeDone
  repeat' first
    | with_reducible exact h | with_reducible apply State.setStore_keeps | with_reducible apply State.portDone_keeps
    | with_reducible apply State.setEntry_keeps | with_reducible apply State.replyWritten_keeps
    | with_reducible apply State.emptyTest_keeps | exact fun g => Store.write_wf g _ _ | split | dsimp only

theorem State.headerWriteDone_keeps (h : r.Keeps s) (bs : List Byte) :
    r.Keeps (s.headerWriteDone bs) := by
  unfold State.headerWriteDone
  repeat' first
    | with_reducible exact h | with_reducible apply State.setStore_keeps | with_reducible apply State.portDone_keeps
    | with_reducible apply State.replyWritten_keeps | exact fun g => Store.write_wf g _ _

theorem State.mirrorWriteDone_keeps (h : r.Keeps s) (a : Nat) (bs : List Byte) :
    r.Keeps (s.mirrorWriteDone a bs) := by
  unfold State.mirrorWriteDone
  repeat' first
    | with_reducible exact h | with_reducible apply State.setStore_keeps | with_reducible apply State.portDone_keeps
    | exact fun g => Store.write_wf g _ _

theorem State.formatWriteDone_keeps (h : r.Keeps s) (a : Nat) (bs : List Byte) :
    r.Keeps (s.formatWriteDone a bs) := by
  unfold State.formatWriteDone
  repeat' first
    | with_reducible exact h | with_reducible apply State.setStore_keeps | with_reducible apply State.portDone_keeps
    | with_reducible apply State.setBand_keeps | with_reducible apply State.giveReply_keeps
    | exact fun g => Store.write_wf g _ _ | exact le_rfl | exact Nat.zero_le _ | split | dsimp only

theorem State.failByKind_keeps (h : r.Keeps s) (x : Transfer) :
    r.Keeps (s.failByKind x) := by
  unfold State.failByKind
  repeat' first
    | with_reducible exact h | with_reducible apply State.endWaiters_keeps | with_reducible apply State.setBand_keeps
    | with_reducible apply State.setLocker_keeps | with_reducible apply State.headerRead_keeps
    | with_reducible apply State.mirrorRead_keeps | exact le_rfl | split

theorem State.replyHeld_keeps (h : r.Keeps s) :
    r.Keeps (s.replyHeld) := by
  unfold State.replyHeld
  repeat' first
    | with_reducible exact h | with_reducible apply State.setBand_keeps | with_reducible apply State.reply_keeps
    | exact le_rfl | split

theorem State.endFormat_keeps (h : r.Keeps s) :
    r.Keeps (s.endFormat) := by
  unfold State.endFormat
  repeat' first
    | with_reducible exact h | with_reducible apply State.setBand_keeps | with_reducible apply State.giveReply_keeps
    | exact le_rfl | split

theorem State.secondFailure_keeps (h : r.Keeps s) (t : Transfer) :
    r.Keeps (s.secondFailure t) := by
  unfold State.secondFailure
  repeat' first
    | with_reducible exact h | with_reducible apply State.setBand_keeps | with_reducible apply State.post_keeps
    | with_reducible apply State.enterNoStore_keeps | with_reducible apply State.failByKind_keeps
    | with_reducible apply State.endFetches_keeps | with_reducible apply State.replyHeld_keeps
    | with_reducible apply State.endFormat_keeps | with_reducible apply State.discardHeld_keeps | exact le_rfl | split
    | dsimp only

theorem State.transferTimeout_keeps (h : r.Keeps s) :
    r.Keeps (s.transferTimeout) := by
  unfold State.transferTimeout
  repeat' first
    | with_reducible exact h | with_reducible apply State.secondFailure_keeps
    | with_reducible apply State.setBand_keeps | exact le_rfl | split

theorem State.leaveFault_keeps (h : r.Keeps s) :
    r.Keeps (s.leaveFault) := by
  unfold State.leaveFault
  repeat' first
    | with_reducible exact h | with_reducible apply State.setBand_keeps | exact le_rfl | exact Nat.zero_le _ | split

theorem State.sendCommit_keeps (h : r.Keeps s) (l : LaneNo) (b : BandNo) (stamp : Stamp) :
    r.Keeps (s.sendCommit l b stamp) := by
  unfold State.sendCommit
  repeat' first
    | with_reducible exact h | refine State.setLane_keeps_phase ?_ _ _ rfl
    | refine State.setLane_keeps_zero ?_ _ _ rfl | with_reducible apply State.bandOp_keeps

theorem State.retryCommit_keeps (h : r.Keeps s) (l : LaneNo) :
    r.Keeps (s.retryCommit l) := by
  unfold State.retryCommit
  repeat' first
    | with_reducible exact h | with_reducible apply State.sendCommit_keeps | split

theorem State.consumeArm_keeps (h : r.Keeps s) (l : LaneNo) (a : Arm) :
    r.Keeps (s.consumeArm l a) := by
  unfold State.consumeArm
  repeat' first
    | with_reducible exact h | with_reducible apply State.disarm_keeps | with_reducible apply State.sendCommit_keeps
    | split | dsimp only

theorem State.meetArm_keeps (h : r.Keeps s) (l : LaneNo) (inbound : Bool) :
    r.Keeps (s.meetArm l inbound) := by
  unfold State.meetArm
  repeat' first
    | with_reducible exact h | with_reducible apply State.consumeArm_keeps | with_reducible apply State.post_keeps
    | split

theorem State.passage_keeps (h : r.Keeps s) (l : LaneNo) (inbound : Bool) :
    r.Keeps (s.passage l inbound) := by
  unfold State.passage
  repeat' first
    | with_reducible exact h | exact fun g => passedOccupancy_le g.1 _ | with_reducible apply State.setOccupancy_keeps
    | with_reducible apply State.meetArm_keeps

theorem State.countPhase_keeps (h : r.Keeps s) (l : LaneNo) (n : Int) (hn : s.lanes.within → -4 ≤ n ∧ n ≤ 4) :
    r.Keeps (s.countPhase l n) := by
  unfold State.countPhase
  split
  · exact State.passage_keeps (State.setLane_keeps_zero h _ _ rfl) _ _
  · split
    · exact State.passage_keeps (State.setLane_keeps_zero h _ _ rfl) _ _
    · refine State.setLane_keeps h _ _ fun g => ?_
      have := hn g
      show -3 ≤ n ∧ n ≤ 3
      omega

theorem State.setPin_keeps (h : r.Keeps s) (l : LaneNo) (beam : Beam) (broken : Bool) :
    r.Keeps (s.setPin l beam broken) := by
  unfold State.setPin
  repeat' first
    | with_reducible exact h | exact fun g => g | with_reducible apply State.setLanes_keeps

theorem phaseStep_range (beam : Beam) (broken other : Bool) :
    -1 ≤ phaseStep beam broken other ∧ phaseStep beam broken other ≤ 1 := by
  cases beam <;> cases broken <;> cases other <;> decide

theorem State.takeEdge_keeps (h : r.Keeps s) (l : LaneNo) (beam : Beam) (broken : Bool) :
    r.Keeps (s.takeEdge l beam broken) := by
  have g := State.setLane_keeps_phase h l { s.lane l with beams := (s.lane l).beams.put beam broken } rfl
  unfold State.takeEdge
  dsimp only
  split
  · exact g
  · refine State.countPhase_keeps g l _ fun w => ?_
    have w := w.2 l
    simp only [State.setLane, State.setLanes_lanes, Vector.getElem_set_self] at w
    have p := phaseStep_range beam broken ((s.lane l).beams.level (otherBeam beam))
    omega

theorem State.beamChange_keeps (h : r.Keeps s) (l : LaneNo) (beam : Beam) (broken : Bool) :
    r.Keeps (s.beamChange l beam broken) := by
  unfold State.beamChange
  repeat' first
    | with_reducible exact h | with_reducible apply State.setPin_keeps | with_reducible apply State.takeEdge_keeps
    | split | dsimp only

theorem State.openPresentation_keeps (h : r.Keeps s) (g : HeadNo) (b : BandNo) (serial : Serial) :
    r.Keeps (s.openPresentation g b serial) := by
  unfold State.openPresentation
  repeat' first
    | with_reducible exact h | with_reducible apply State.setSlot_keeps | with_reducible apply State.conclude_keeps
    | with_reducible apply State.bandOp_keeps | split | dsimp only

theorem State.presentAnswer_keeps (h : r.Keeps s) (g : HeadNo) (b : BandNo) (serial : Serial) :
    r.Keeps (s.presentAnswer g b serial) := by
  unfold State.presentAnswer
  repeat' first
    | with_reducible exact h | with_reducible apply State.openPresentation_keeps
    | with_reducible apply State.supersede_keeps | split

theorem State.idleAnswer_keeps (h : r.Keeps s) (g : HeadNo) :
    r.Keeps (s.idleAnswer g) := by
  unfold State.idleAnswer
  repeat' first
    | with_reducible exact h | with_reducible apply State.setSlot_keeps | split

theorem State.handAnswer_keeps (h : r.Keeps s) (g : HeadNo) (x : AnswerKind) :
    r.Keeps (s.handAnswer g x) := by
  unfold State.handAnswer
  repeat' first
    | with_reducible exact h | with_reducible apply State.idleAnswer_keeps
    | with_reducible apply State.presentAnswer_keeps | split

theorem State.endPoll_keeps (h : r.Keeps s) (line : Line) :
    r.Keeps (s.endPoll line) := by
  unfold State.endPoll
  repeat' first
    | with_reducible exact h | with_reducible apply State.setEngine_keeps

theorem State.pollAnswered_keeps (h : r.Keeps s) (p : Poll) :
    r.Keeps (s.pollAnswered p) := by
  unfold State.pollAnswered
  repeat' first
    | with_reducible exact h | with_reducible apply State.setHead_keeps

theorem State.probeAnswered_keeps (h : r.Keeps s) (p : Poll) (line : Line) :
    r.Keeps (s.probeAnswered p line) := by
  unfold State.probeAnswered
  repeat' first
    | with_reducible exact h | with_reducible apply State.setHead_keeps | with_reducible apply State.post_keeps

theorem State.takeAnswer_keeps (h : r.Keeps s) (line : Line) (p : Poll) (answer : Answer) :
    r.Keeps (s.takeAnswer line p answer) := by
  unfold State.takeAnswer
  repeat' first
    | with_reducible exact h | with_reducible apply State.probeAnswered_keeps
    | with_reducible apply State.pollAnswered_keeps | with_reducible apply State.handAnswer_keeps | split

theorem State.answerOn_keeps (h : r.Keeps s) (line : Line) (probe : Bool) (head : Nat) (answer : Answer) :
    r.Keeps (s.answerOn line probe head answer) := by
  unfold State.answerOn
  repeat' first
    | with_reducible exact h | with_reducible apply State.endPoll_keeps | with_reducible apply State.takeAnswer_keeps
    | split

theorem State.switchLine_keeps (h : r.Keeps s) (g : HeadNo) (line : Line) :
    r.Keeps (s.switchLine g line) := by
  unfold State.switchLine
  repeat' first
    | with_reducible exact h | with_reducible apply State.setHead_keeps | with_reducible apply State.post_keeps

theorem State.goOffline_keeps (h : r.Keeps s) (g : HeadNo) (line : Line) :
    r.Keeps (s.goOffline g line) := by
  unfold State.goOffline
  repeat' first
    | with_reducible exact h | with_reducible apply State.setHead_keeps | with_reducible apply State.post_keeps
    | with_reducible apply State.dropPresentation_keeps

theorem State.countMiss_keeps (h : r.Keeps s) (g : HeadNo) (line : Line) :
    r.Keeps (s.countMiss g line) := by
  unfold State.countMiss
  repeat' first
    | with_reducible exact h | with_reducible apply State.setHead_keeps | with_reducible apply State.goOffline_keeps
    | with_reducible apply State.switchLine_keeps | split | dsimp only

theorem State.probeMissed_keeps (h : r.Keeps s) (g : HeadNo) :
    r.Keeps (s.probeMissed g) := by
  unfold State.probeMissed
  repeat' first
    | with_reducible exact h | with_reducible apply State.setHead_keeps

theorem State.windowExpiry_keeps (h : r.Keeps s) (line : Line) (probe : Bool) :
    r.Keeps (s.windowExpiry line probe) := by
  unfold State.windowExpiry
  repeat' first
    | with_reducible exact h | with_reducible apply State.endPoll_keeps | with_reducible apply State.probeMissed_keeps
    | with_reducible apply State.countMiss_keeps | split | dsimp only

theorem State.probeTimer_keeps (h : r.Keeps s) :
    r.Keeps (s.probeTimer) := by
  unfold State.probeTimer
  repeat' first
    | with_reducible exact h | with_reducible apply State.setReader_keeps

theorem State.sendProbe_keeps (h : r.Keeps s) (line : Line) (g : HeadNo) :
    r.Keeps (s.sendProbe line g) := by
  unfold State.sendProbe
  repeat' first
    | with_reducible exact h | with_reducible apply State.setHead_keeps | with_reducible apply State.setEngine_keeps

theorem State.sendPoll_keeps (h : r.Keeps s) (line : Line) (g : HeadNo) :
    r.Keeps (s.sendPoll line g) := by
  unfold State.sendPoll
  repeat' first
    | with_reducible exact h | with_reducible apply State.setEngine_keeps

theorem State.chooseExchange_keeps (h : r.Keeps s) (line : Line) :
    r.Keeps (s.chooseExchange line) := by
  unfold State.chooseExchange
  repeat' first
    | with_reducible exact h | with_reducible apply State.sendProbe_keeps | with_reducible apply State.sendPoll_keeps
    | split

theorem State.reportStart_keeps (h : r.Keeps s) (i : StringNo) (p : Position) :
    r.Keeps (s.reportStart i p) := by
  unfold State.reportStart
  repeat' first
    | with_reducible exact h | with_reducible apply State.lockerPulseStart_keeps
    | with_reducible apply State.cabinPulseStart_keeps | split

theorem State.reportEnd_keeps (h : r.Keeps s) (i : StringNo) (p : Pulse) (window : Nat) :
    r.Keeps (s.reportEnd i p window) := by
  unfold State.reportEnd
  repeat' first
    | with_reducible exact h | with_reducible apply State.lockerPulseEnd_keeps
    | with_reducible apply State.cabinPulseEnd_keeps | split

theorem State.pulseStart_keeps (h : r.Keeps s) (i : StringNo) :
    r.Keeps (s.pulseStart i) := by
  unfold State.pulseStart
  repeat' first
    | with_reducible exact h | with_reducible apply State.setString_keeps
    | with_reducible apply State.reportStart_keeps | split | dsimp only

theorem State.pulseEnd_keeps (h : r.Keeps s) (i : StringNo) :
    r.Keeps (s.pulseEnd i) := by
  unfold State.pulseEnd
  repeat' first
    | with_reducible exact h | with_reducible apply State.setString_keeps | with_reducible apply State.reportEnd_keeps
    | split | dsimp only

theorem State.restEnd_keeps (h : r.Keeps s) (i : StringNo) :
    r.Keeps (s.restEnd i) := by
  unfold State.restEnd
  repeat' first
    | with_reducible exact h | with_reducible apply State.setString_keeps | split | dsimp only

theorem State.reportDoor_keeps (h : r.Keeps s) (i : StringNo) (p : Position) (isOpen : Bool) :
    r.Keeps (s.reportDoor i p isOpen) := by
  unfold State.reportDoor
  repeat' first
    | with_reducible exact h | with_reducible apply State.lockerDoorOpened_keeps
    | with_reducible apply State.cabinDoorOpened_keeps | split

theorem State.reportBolt_keeps (h : r.Keeps s) (i : StringNo) (p : Position) (thrown : Bool) :
    r.Keeps (s.reportBolt i p thrown) := by
  unfold State.reportBolt
  repeat' first
    | with_reducible exact h | with_reducible apply State.lockerBoltChange_keeps
    | with_reducible apply State.cabinBoltChange_keeps | split

theorem State.scanDoor_keeps (h : r.Keeps s) (i : StringNo) (p : Position) (v : Bool) :
    r.Keeps (s.scanDoor i p v) := by
  unfold State.scanDoor
  repeat' first
    | with_reducible exact h | with_reducible apply State.setContacts_keeps
    | with_reducible apply State.reportDoor_keeps | split | dsimp only

theorem State.scanBolt_keeps (h : r.Keeps s) (i : StringNo) (p : Position) (v : Bool) :
    r.Keeps (s.scanBolt i p v) := by
  unfold State.scanBolt
  repeat' first
    | with_reducible exact h | with_reducible apply State.setContacts_keeps
    | with_reducible apply State.reportBolt_keeps | split | dsimp only

theorem State.scanPosition_keeps (h : r.Keeps s) (i : StringNo) (doors bolts : BitVec 32) (p : Position) :
    r.Keeps (s.scanPosition i doors bolts p) := by
  unfold State.scanPosition
  repeat' first
    | with_reducible exact h | with_reducible apply State.scanDoor_keeps | with_reducible apply State.scanBolt_keeps

theorem State.scanString_keeps (h : r.Keeps s) (i : StringNo) (doors bolts : BitVec 32) :
    r.Keeps (s.scanString i doors bolts) := by
  unfold State.scanString
  repeat' first
    | with_reducible exact h | with_reducible exact State.Keeps.refl _ | with_reducible apply State.scanPosition_keeps
    | with_reducible apply State.stringReachesFitted_keeps | with_reducible apply State.Keeps.foldl | intro _ _
    | split | dsimp only

theorem State.sendFrame_keeps (h : r.Keeps s) (f : Frame) :
    r.Keeps (s.sendFrame f) := by
  unfold State.sendFrame
  repeat' first
    | with_reducible exact h | with_reducible apply State.setLink_keeps | exact le_rfl

theorem State.startFrame_keeps (h : r.Keeps s) :
    r.Keeps (s.startFrame) := by
  unfold State.startFrame
  repeat' first
    | with_reducible exact h | exact List.length_eraseP_le | with_reducible apply State.setLink_keeps
    | with_reducible apply State.sendFrame_keeps | with_reducible apply State.reply_keeps | exact le_rfl | split

theorem State.frameSent_keeps (h : r.Keeps s) :
    r.Keeps (s.frameSent) := by
  unfold State.frameSent
  repeat' first
    | with_reducible exact h | with_reducible apply State.setLink_keeps | with_reducible apply State.reply_keeps
    | with_reducible apply State.beginWinding_keeps | exact le_rfl | split

theorem State.replyBusy_keeps (h : r.Keeps s) (tag : Byte) :
    r.Keeps (s.replyBusy tag) := by
  unfold State.replyBusy
  repeat' first
    | with_reducible exact h | with_reducible apply State.setLink_keeps | exact le_rfl | split

theorem State.frameTaken_keeps (h : r.Keeps s) :
    r.Keeps (s.frameTaken) := by
  unfold State.frameTaken
  repeat' first
    | with_reducible exact h | with_reducible apply State.setLink_keeps | exact le_rfl

theorem State.makeOutstanding_keeps (h : r.Keeps s) (kind tag : Byte) :
    r.Keeps (s.makeOutstanding kind tag) := by
  unfold State.makeOutstanding
  repeat' first
    | with_reducible exact h | with_reducible apply State.setLink_keeps | exact le_rfl

theorem State.judgeRequest_keeps (h : r.Keeps s) (q : Request) (body : List Byte) (serve : State → State)
    (hs : ∀ t : State, t.Keeps (serve t)) : r.Keeps (s.judgeRequest q body serve) := by
  unfold State.judgeRequest
  split
  · exact State.answer_keeps h _
  · split
    · exact State.answer_keeps h _
    · exact h.trans (hs s)

theorem State.arrive_keeps (h : r.Keeps s) (q : Request) (tag : Byte) (body : List Byte) (serve : State → State)
    (hs : ∀ t : State, t.Keeps (serve t)) : r.Keeps (s.arrive q tag body serve) := by
  unfold State.arrive
  dsimp only
  split
  · exact State.replyBusy_keeps (State.frameTaken_keeps h) _
  · exact State.judgeRequest_keeps (State.makeOutstanding_keeps (State.frameTaken_keeps h) _ _) _ _ _ hs

theorem State.arriveUnknown_keeps (h : r.Keeps s) (kind tag : Byte) :
    r.Keeps (s.arriveUnknown kind tag) := by
  unfold State.arriveUnknown
  repeat' first
    | with_reducible exact h | with_reducible apply State.frameTaken_keeps
    | with_reducible apply State.replyBusy_keeps | with_reducible apply State.makeOutstanding_keeps
    | with_reducible apply State.answer_keeps | split | dsimp only

theorem State.serveStatus_keeps (h : r.Keeps s) :
    r.Keeps (s.serveStatus) := by
  unfold State.serveStatus
  repeat' first
    | with_reducible exact h | with_reducible apply State.setLink_keeps | with_reducible apply State.reply_keeps
    | exact le_rfl

theorem State.serveSetFloor_keeps (h : r.Keeps s) (body : List Byte) :
    r.Keeps (s.serveSetFloor body) := by
  unfold State.serveSetFloor
  repeat' first
    | with_reducible exact h | with_reducible apply State.answer_keeps | with_reducible apply State.setLink_keeps
    | with_reducible apply State.reply_keeps | exact le_rfl | split

theorem State.serveRestart_keeps (h : r.Keeps s) :
    r.Keeps (s.serveRestart) := by
  unfold State.serveRestart
  repeat' first
    | with_reducible exact h | with_reducible apply State.giveReply_keeps

theorem State.bandRequest_keeps (h : r.Keeps s) (body : List Byte) (q : BandRequest) :
    r.Keeps (s.bandRequest body q) := by
  unfold State.bandRequest
  repeat' first
    | with_reducible exact h | with_reducible apply State.bandOp_keeps

theorem State.lockerRequest_keeps (h : r.Keeps s) (body : List Byte) (serve : LockerNo → State)
    (hs : ∀ k, r.Keeps (serve k)) : r.Keeps (s.lockerRequest body serve) := by
  unfold State.lockerRequest
  repeat' first | exact State.answer_keeps h _ | exact hs _ | split

theorem State.lockerBandRequest_keeps (h : r.Keeps s) (body : List Byte) (q : LockerNo → BandRequest) :
    r.Keeps (s.lockerBandRequest body q) :=
  State.lockerRequest_keeps h body _ fun _ => State.bandOp_keeps h _ _

theorem State.serveUnshare_keeps (h : r.Keeps s) (body : List Byte) :
    r.Keeps (s.serveUnshare body) := by
  unfold State.serveUnshare
  repeat' first
    | with_reducible exact h | with_reducible apply State.lockerRequest_keeps
    | with_reducible apply State.answer_keeps | with_reducible apply State.setLocker_keeps | intro _ | split
    | dsimp only

theorem State.serveLockerOpen_keeps (h : r.Keeps s) (body : List Byte) :
    r.Keeps (s.serveLockerOpen body) := by
  unfold State.serveLockerOpen
  repeat' first
    | with_reducible exact h | with_reducible apply State.lockerRequest_keeps
    | with_reducible apply State.beginDesk_keeps | with_reducible apply State.answer_keeps | intro _ | split

theorem State.releaseOpened_keeps (h : r.Keeps s) (k : LockerNo) :
    r.Keeps (s.releaseOpened k) := by
  unfold State.releaseOpened
  repeat' first
    | with_reducible exact h | with_reducible apply State.disown_keeps
    | with_reducible apply State.journalClosed_keeps

theorem State.serveLockerRelease_keeps (h : r.Keeps s) (body : List Byte) :
    r.Keeps (s.serveLockerRelease body) := by
  unfold State.serveLockerRelease
  repeat' first
    | with_reducible exact h | with_reducible apply State.lockerRequest_keeps
    | with_reducible apply State.releaseOpened_keeps | with_reducible apply State.answer_keeps
    | with_reducible apply State.beginDesk_keeps | intro _ | split

theorem State.serveLockerReset_keeps (h : r.Keeps s) (body : List Byte) :
    r.Keeps (s.serveLockerReset body) := by
  unfold State.serveLockerReset
  repeat' first
    | with_reducible exact h | with_reducible apply State.lockerRequest_keeps
    | with_reducible apply State.beginDesk_keeps | with_reducible apply State.answer_keeps | intro _ | split

theorem State.serveLockerSuspend_keeps (h : r.Keeps s) (body : List Byte) :
    r.Keeps (s.serveLockerSuspend body) := by
  unfold State.serveLockerSuspend
  repeat' first
    | with_reducible exact h | with_reducible apply State.lockerRequest_keeps
    | with_reducible apply State.setLocker_keeps | with_reducible apply State.answer_keeps | intro _ | split

theorem State.serveLockerResume_keeps (h : r.Keeps s) (body : List Byte) :
    r.Keeps (s.serveLockerResume body) := by
  unfold State.serveLockerResume
  repeat' first
    | with_reducible exact h | with_reducible apply State.lockerRequest_keeps
    | with_reducible apply State.setLocker_keeps | with_reducible apply State.answer_keeps | intro _ | split

theorem State.serveLockerWatch_keeps (h : r.Keeps s) (body : List Byte) :
    r.Keeps (s.serveLockerWatch body) := by
  unfold State.serveLockerWatch
  repeat' first
    | with_reducible exact h | with_reducible apply State.lockerRequest_keeps
    | with_reducible apply State.answer_keeps | with_reducible apply State.setLocker_keeps | intro _ | split

theorem State.serveClosedFlag_keeps (h : r.Keeps s) (body : List Byte) (closed : Bool) :
    r.Keeps (s.serveClosedFlag body closed) := by
  unfold State.serveClosedFlag
  repeat' first
    | with_reducible exact h | with_reducible apply State.answer_keeps | with_reducible apply State.setLockers_keeps
    | split

theorem State.serveLockerRead_keeps (h : r.Keeps s) (body : List Byte) :
    r.Keeps (s.serveLockerRead body) := by
  unfold State.serveLockerRead
  repeat' first
    | with_reducible exact h | with_reducible apply State.lockerRequest_keeps | with_reducible apply State.reply_keeps
    | intro _

theorem State.serveStringsFitted_keeps (h : r.Keeps s) (body : List Byte) :
    r.Keeps (s.serveStringsFitted body) := by
  unfold State.serveStringsFitted
  repeat' first
    | with_reducible exact h | with_reducible exact State.Keeps.refl _ | with_reducible apply State.answer_keeps
    | with_reducible apply State.establish_keeps | with_reducible apply State.unfitString_keeps
    | with_reducible apply State.applySettings_keeps | with_reducible apply State.leaveAll_keeps
    | with_reducible apply State.Keeps.foldl | intro _ _ | split | dsimp only

theorem State.serveStringSettings_keeps (h : r.Keeps s) (body : List Byte) :
    r.Keeps (s.serveStringSettings body) := by
  unfold State.serveStringSettings
  repeat' first
    | with_reducible exact h | with_reducible apply State.answer_keeps
    | with_reducible apply State.applySettings_keeps | split | dsimp only

theorem State.serveStringRead_keeps (h : r.Keeps s) (body : List Byte) :
    r.Keeps (s.serveStringRead body) := by
  unfold State.serveStringRead
  repeat' first
    | with_reducible exact h | with_reducible apply State.answer_keeps | with_reducible apply State.reply_keeps
    | split

theorem State.cabinRequest_keeps (h : r.Keeps s) (body : List Byte) (serve : CabinNo → State)
    (hs : ∀ c, r.Keeps (serve c)) : r.Keeps (s.cabinRequest body serve) := by
  unfold State.cabinRequest
  repeat' first | exact State.answer_keeps h _ | exact hs _ | split

theorem State.serveCabinRelease_keeps (h : r.Keeps s) (body : List Byte) :
    r.Keeps (s.serveCabinRelease body) := by
  unfold State.serveCabinRelease
  repeat' first
    | with_reducible exact h | with_reducible apply State.cabinRequest_keeps
    | with_reducible apply State.openCabin_keeps | with_reducible apply State.answer_keeps | intro _ | split

theorem State.serveCabinSuspend_keeps (h : r.Keeps s) (body : List Byte) :
    r.Keeps (s.serveCabinSuspend body) := by
  unfold State.serveCabinSuspend
  repeat' first
    | with_reducible exact h | with_reducible apply State.cabinRequest_keeps
    | with_reducible apply State.setCabin_keeps | with_reducible apply State.answer_keeps | intro _ | split

theorem State.serveCabinResume_keeps (h : r.Keeps s) (body : List Byte) :
    r.Keeps (s.serveCabinResume body) := by
  unfold State.serveCabinResume
  repeat' first
    | with_reducible exact h | with_reducible apply State.cabinRequest_keeps | with_reducible apply State.answer_keeps
    | with_reducible apply State.openCabin_keeps | with_reducible apply State.setCabin_keeps | intro _ | split

theorem State.serveCabinSettings_keeps (h : r.Keeps s) (body : List Byte) :
    r.Keeps (s.serveCabinSettings body) := by
  unfold State.serveCabinSettings
  repeat' first
    | with_reducible exact h | with_reducible apply State.applySettings_keeps
    | with_reducible apply State.answer_keeps | split | dsimp only

theorem State.serveCabinRead_keeps (h : r.Keeps s) (body : List Byte) :
    r.Keeps (s.serveCabinRead body) := by
  unfold State.serveCabinRead
  repeat' first
    | with_reducible exact h | with_reducible apply State.cabinRequest_keeps | with_reducible apply State.reply_keeps
    | intro _

theorem State.serveClockSet_keeps (h : r.Keeps s) (body : List Byte) :
    r.Keeps (s.serveClockSet body) := by
  unfold State.serveClockSet
  repeat' first
    | with_reducible exact h | with_reducible apply State.setTheClock_keeps | with_reducible apply State.answer_keeps

theorem State.serveClockRead_keeps (h : r.Keeps s) :
    r.Keeps (s.serveClockRead) := by
  unfold State.serveClockRead
  repeat' first
    | with_reducible exact h | with_reducible apply State.reply_keeps

theorem State.serveTariffStage_keeps (h : r.Keeps s) (body : List Byte) :
    r.Keeps (s.serveTariffStage body) := by
  unfold State.serveTariffStage
  repeat' first
    | with_reducible exact h | with_reducible apply State.answer_keeps | with_reducible apply State.setClock_keeps
    | split | dsimp only

theorem State.switchNow_keeps (h : r.Keeps s) (table : TariffTable) :
    r.Keeps (s.switchNow table) := by
  unfold State.switchNow
  repeat' first
    | with_reducible exact h | with_reducible apply State.tariffSwitch_keeps
    | with_reducible apply State.replyAfterHeader_keeps

theorem State.serveTariffSwitch_keeps (h : r.Keeps s) (body : List Byte) :
    r.Keeps (s.serveTariffSwitch body) := by
  unfold State.serveTariffSwitch
  repeat' first
    | with_reducible exact h | with_reducible apply State.answer_keeps | with_reducible apply State.switchNow_keeps
    | with_reducible apply State.setClock_keeps | split

theorem State.serveTariffDiscard_keeps (h : r.Keeps s) :
    r.Keeps (s.serveTariffDiscard) := by
  unfold State.serveTariffDiscard
  repeat' first
    | with_reducible exact h | with_reducible apply State.answer_keeps | with_reducible apply State.setClock_keeps
    | split

theorem State.serveTariffRead_keeps (h : r.Keeps s) :
    r.Keeps (s.serveTariffRead) := by
  unfold State.serveTariffRead
  repeat' first
    | with_reducible exact h | with_reducible apply State.reply_keeps

theorem State.serveStayQuery_keeps (h : r.Keeps s) (body : List Byte) :
    r.Keeps (s.serveStayQuery body) := by
  unfold State.serveStayQuery
  repeat' first
    | with_reducible exact h | with_reducible apply State.answer_keeps | with_reducible apply State.bandRequest_keeps
    | split

theorem State.laneRequest_keeps (h : r.Keeps s) (body : List Byte) (serve : LaneNo → State)
    (hs : ∀ l, r.Keeps (serve l)) : r.Keeps (s.laneRequest body serve) := by
  unfold State.laneRequest
  repeat' first | exact State.answer_keeps h _ | exact hs _ | split

theorem State.refitLane_keeps (h : r.Keeps s) (x : Settings) (l : LaneNo) :
    r.Keeps (s.refitLane x l) := by
  unfold State.refitLane
  repeat' first
    | with_reducible exact h | with_reducible apply State.unfitLane_keeps
    | refine State.setLane_keeps_phase ?_ _ _ rfl | refine State.setLane_keeps_zero ?_ _ _ rfl
    | with_reducible apply State.fitLane_keeps | split

theorem State.takeLaneSettings_keeps (h : r.Keeps s) (x : Settings) :
    r.Keeps (s.takeLaneSettings x) := by
  unfold State.takeLaneSettings
  repeat' first
    | with_reducible exact h | with_reducible exact State.Keeps.refl _ | with_reducible apply State.answer_keeps
    | with_reducible apply State.refitLane_keeps | with_reducible apply State.applySettings_keeps
    | with_reducible apply State.leaveAll_keeps | with_reducible apply State.Keeps.foldl | intro _ _ | intro _ | split

theorem State.serveLaneSettings_keeps (h : r.Keeps s) (body : List Byte) :
    r.Keeps (s.serveLaneSettings body) := by
  unfold State.serveLaneSettings
  repeat' first
    | with_reducible exact h | with_reducible apply State.takeLaneSettings_keeps
    | with_reducible apply State.answer_keeps | split

theorem State.serveLaneService_keeps (h : r.Keeps s) (body : List Byte) :
    r.Keeps (s.serveLaneService body) := by
  unfold State.serveLaneService
  repeat' first
    | with_reducible exact h | with_reducible apply State.laneRequest_keeps | with_reducible apply State.answer_keeps
    | with_reducible apply State.serveLane_keeps | intro _ | split

theorem State.serveCapacitySet_keeps (h : r.Keeps s) (body : List Byte) :
    r.Keeps (s.serveCapacitySet body) := by
  unfold State.serveCapacitySet
  repeat' first
    | with_reducible exact h | with_reducible apply State.applySettings_keeps
    | with_reducible apply State.evaluateFull_keeps | with_reducible apply State.answer_keeps | split

theorem State.serveOccupancySet_keeps (h : r.Keeps s) (body : List Byte) :
    r.Keeps (s.serveOccupancySet body) := by
  unfold State.serveOccupancySet
  repeat' first
    | with_reducible exact h | exact fun _ => Nat.min_le_left _ _ | with_reducible apply State.setOccupancy_keeps
    | with_reducible apply State.reply_keeps

theorem State.serveLaneRead_keeps (h : r.Keeps s) (body : List Byte) :
    r.Keeps (s.serveLaneRead body) := by
  unfold State.serveLaneRead
  repeat' first
    | with_reducible exact h | with_reducible apply State.laneRequest_keeps | with_reducible apply State.reply_keeps
    | intro _

theorem State.serveJournalRead_keeps (h : r.Keeps s) (body : List Byte) :
    r.Keeps (s.serveJournalRead body) := by
  unfold State.serveJournalRead
  repeat' first
    | with_reducible exact h | with_reducible apply State.answer_keeps | with_reducible apply State.reply_keeps
    | split

theorem State.serveJournalOptions_keeps (h : r.Keeps s) (body : List Byte) :
    r.Keeps (s.serveJournalOptions body) := by
  unfold State.serveJournalOptions
  repeat' first
    | with_reducible exact h | with_reducible apply State.answer_keeps
    | with_reducible apply State.applySettings_keeps | split

theorem State.serveReaderSettings_keeps (h : r.Keeps s) (body : List Byte) :
    r.Keeps (s.serveReaderSettings body) := by
  unfold State.serveReaderSettings
  repeat' first
    | with_reducible exact h | with_reducible apply State.applySettings_keeps
    | with_reducible apply State.clampMisses_keeps | with_reducible apply State.answer_keeps | split

theorem State.serveHeadRead_keeps (h : r.Keeps s) (body : List Byte) :
    r.Keeps (s.serveHeadRead body) := by
  unfold State.serveHeadRead
  repeat' first
    | with_reducible exact h | with_reducible apply State.answer_keeps | with_reducible apply State.reply_keeps
    | split

theorem State.beginFormat_keeps (h : r.Keeps s) (units : Fin 8) :
    r.Keeps (s.beginFormat units) := by
  unfold State.beginFormat
  repeat' first
    | with_reducible exact h | with_reducible apply State.leaveFault_keeps
    | with_reducible apply State.setSettings_keeps | with_reducible apply State.setBand_keeps
    | with_reducible apply State.endFetches_keeps | with_reducible apply State.setLockers_keeps | exact le_rfl

theorem State.serveStoreFormat_keeps (h : r.Keeps s) (body : List Byte) :
    r.Keeps (s.serveStoreFormat body) := by
  unfold State.serveStoreFormat
  repeat' first
    | with_reducible exact h | with_reducible apply State.answer_keeps | with_reducible apply State.beginFormat_keeps
    | split

theorem State.serveStoreRestart_keeps (h : r.Keeps s) :
    r.Keeps (s.serveStoreRestart) := by
  unfold State.serveStoreRestart
  repeat' first
    | with_reducible exact h | with_reducible apply State.leaveFault_keeps | with_reducible apply State.answer_keeps
    | split

theorem State.serveHostRequest_keeps (h : r.Keeps s) (q : Request) (body : List Byte) :
    r.Keeps (s.serveHostRequest q body) := by
  unfold State.serveHostRequest
  repeat' first
    | with_reducible exact h | with_reducible apply State.serveStatus_keeps
    | with_reducible apply State.serveSetFloor_keeps | with_reducible apply State.serveRestart_keeps
    | with_reducible apply State.bandRequest_keeps | with_reducible apply State.lockerBandRequest_keeps
    | with_reducible apply State.serveUnshare_keeps | with_reducible apply State.serveLockerOpen_keeps
    | with_reducible apply State.serveLockerRelease_keeps | with_reducible apply State.serveLockerReset_keeps
    | with_reducible apply State.serveLockerSuspend_keeps | with_reducible apply State.serveLockerResume_keeps
    | with_reducible apply State.serveLockerWatch_keeps | with_reducible apply State.serveClosedFlag_keeps
    | with_reducible apply State.serveLockerRead_keeps | with_reducible apply State.serveStringsFitted_keeps
    | with_reducible apply State.serveStringSettings_keeps | with_reducible apply State.serveStringRead_keeps
    | with_reducible apply State.serveCabinRelease_keeps | with_reducible apply State.serveCabinSuspend_keeps
    | with_reducible apply State.serveCabinResume_keeps | with_reducible apply State.serveCabinSettings_keeps
    | with_reducible apply State.serveCabinRead_keeps | with_reducible apply State.serveClockSet_keeps
    | with_reducible apply State.serveClockRead_keeps | with_reducible apply State.serveTariffStage_keeps
    | with_reducible apply State.tariffSwitch_keeps | with_reducible apply State.serveTariffSwitch_keeps
    | with_reducible apply State.serveTariffDiscard_keeps | with_reducible apply State.serveTariffRead_keeps
    | with_reducible apply State.serveStayQuery_keeps | with_reducible apply State.serveLaneSettings_keeps
    | with_reducible apply State.serveLaneService_keeps | with_reducible apply State.serveCapacitySet_keeps
    | with_reducible apply State.serveOccupancySet_keeps | with_reducible apply State.serveLaneRead_keeps
    | with_reducible apply State.serveJournalRead_keeps | with_reducible apply State.serveJournalOptions_keeps
    | with_reducible apply State.serveReaderSettings_keeps | with_reducible apply State.serveHeadRead_keeps
    | with_reducible apply State.serveStoreFormat_keeps | with_reducible apply State.serveStoreRestart_keeps | split

theorem State.arriveFrame_keeps (h : r.Keeps s) (f : Received) :
    r.Keeps (s.arriveFrame f) := by
  unfold State.arriveFrame
  repeat' first
    | with_reducible exact h | with_reducible exact State.Keeps.refl _
    | with_reducible apply State.arriveUnknown_keeps | with_reducible apply State.arrive_keeps
    | with_reducible apply State.serveHostRequest_keeps | intro _ | split

theorem State.arbitrate_keeps (h : r.Keeps s) :
    r.Keeps (s.arbitrate) := by
  unfold State.arbitrate
  repeat' first
    | with_reducible exact h | with_reducible apply State.choosePort_keeps
    | with_reducible apply State.chooseExchange_keeps | with_reducible apply State.startFrame_keeps

theorem State.receive_keeps (h : r.Keeps s) (gap : Bool) (bytes : List Byte) :
    r.Keeps (s.receive gap bytes) := by
  unfold State.receive
  repeat' first
    | with_reducible exact h | with_reducible exact State.Keeps.refl _ | with_reducible apply State.arriveFrame_keeps
    | with_reducible apply State.arbitrate_keeps
    | with_reducible apply State.setLink_keeps | with_reducible apply State.Keeps.foldl | exact le_rfl | intro _ _

theorem State.enterIfWoundDown_keeps (h : r.Keeps s) :
    r.Keeps (s.enterIfWoundDown) := by
  unfold State.enterIfWoundDown
  repeat' first
    | with_reducible exact h | with_reducible apply State.enterStarting_keeps | split

theorem State.unknownArrival_keeps (h : r.Keeps s) (kind tag : Byte) :
    r.Keeps (s.unknownArrival kind tag) := by
  unfold State.unknownArrival
  repeat' first
    | with_reducible exact h | with_reducible exact State.Keeps.refl _
    | with_reducible apply State.arriveUnknown_keeps | split

theorem State.headerReadEvent_keeps (h : r.Keeps s) (seen : Option (List Byte)) :
    r.Keeps (s.headerReadEvent seen) := by
  unfold State.headerReadEvent
  repeat' first
    | with_reducible exact h | with_reducible apply State.headerRead_keeps
    | with_reducible apply State.headerReadDone_keeps | split

theorem State.mirrorReadEvent_keeps (h : r.Keeps s) (seen : Option (List Byte)) :
    r.Keeps (s.mirrorReadEvent seen) := by
  unfold State.mirrorReadEvent
  repeat' first
    | with_reducible exact h | with_reducible apply State.mirrorRead_keeps
    | with_reducible apply State.mirrorReadDone_keeps | split

theorem State.fetchEvent_keeps (h : r.Keeps s) (seen : Option (List Byte)) :
    r.Keeps (s.fetchEvent seen) := by
  unfold State.fetchEvent
  repeat' first
    | with_reducible exact h | with_reducible apply State.fetchDone_keeps | split

theorem State.writeEvent_keeps (h : r.Keeps s) :
    r.Keeps (s.writeEvent) := by
  unfold State.writeEvent
  repeat' first
    | with_reducible exact h | with_reducible apply State.writeDone_keeps | split

theorem State.headerWriteEvent_keeps (h : r.Keeps s) :
    r.Keeps (s.headerWriteEvent) := by
  unfold State.headerWriteEvent
  repeat' first
    | with_reducible exact h | with_reducible apply State.headerWriteDone_keeps | split

theorem State.mirrorWriteEvent_keeps (h : r.Keeps s) :
    r.Keeps (s.mirrorWriteEvent) := by
  unfold State.mirrorWriteEvent
  repeat' first
    | with_reducible exact h | with_reducible apply State.mirrorWriteDone_keeps | split

theorem State.formatWriteEvent_keeps (h : r.Keeps s) :
    r.Keeps (s.formatWriteEvent) := by
  unfold State.formatWriteEvent
  repeat' first
    | with_reducible exact h | with_reducible apply State.formatWriteDone_keeps | split

theorem State.countSecond_keeps (h : r.Keeps s) :
    r.Keeps (s.countSecond) := by
  unfold State.countSecond
  repeat' first
    | with_reducible exact h | with_reducible apply State.stepClock_keeps

end Sys2Proof.Machine
end

