-- ==== Sys2Proof/Laws/Requests.lean ====
section
/-!
SUPPORT. What the link controller does with a request, said once: the hand-over of a request that is taken, the two
ways it is not, and the reply of the outstanding request.
-/

namespace Sys2Proof.Machine

variable {s : State} {r : Request} {body : List Byte} {tag : Byte}

/-- A request that is taken reaches its owning block (R161, test 5). -/
theorem State.arrive_takes (h : s.takes r body) (tag : Byte) (serve : State → State) :
    s.arrive r tag body serve = serve (s.taken r tag) := by
  obtain ⟨ho, hl, hp⟩ := h
  have hp' : ((s.frameTaken).makeOutstanding r.code tag).partTest r = none := hp
  simp only [State.arrive, State.frameTaken, State.setLink_link, ho] at hp' ⊢
  simp only [State.judgeRequest, hl, ne_eq, not_true_eq_false, if_false, hp']
  rfl

/-- A request that meets an outstanding one is turned away (R161, test 1). -/
theorem State.arrive_busy {o : Outstanding} (h : s.link.outstanding = some o) (serve : State → State) :
    s.arrive r tag body serve = s.turnedAway tag := by
  simp only [State.arrive, State.frameTaken, State.setLink_link, h, State.replyBusy, State.turnedAway]
  split <;> rfl

/-- A request with a wrong body length becomes outstanding and is replied MALFORMED (R161, test 3). -/
theorem State.arrive_malformed (h : s.link.outstanding = none) (hl : body.length ≠ r.bodyLength)
    (serve : State → State) : s.arrive r tag body serve = (s.taken r tag).replied tag .malformed .none := by
  simp only [State.arrive, State.frameTaken, State.setLink_link, h, State.judgeRequest, hl, ne_eq,
    not_false_eq_true, if_true]
  rfl

/-- A request that the part state does not take becomes outstanding and is replied so (R161, test 4). -/
theorem State.arrive_refused (h : s.link.outstanding = none) (hl : body.length = r.bodyLength) {res : Result}
    (hp : s.partTest r = some res) (serve : State → State) :
    s.arrive r tag body serve = (s.taken r tag).replied tag res .none := by
  have hp' : ((s.frameTaken).makeOutstanding r.code tag).partTest r = some res := hp
  simp only [State.arrive, State.frameTaken, State.setLink_link, h] at hp' ⊢
  simp only [State.judgeRequest, hl, ne_eq, not_true_eq_false, if_false, hp']
  rfl

@[simp] theorem State.taken_outstanding (s : State) (r : Request) (tag : Byte) :
    (s.taken r tag).link.outstanding = some ⟨r.code, tag⟩ := rfl

/-- The reply of the outstanding request (R162, R164). -/
theorem State.reply_outstanding {o : Outstanding} (h : s.link.outstanding = some o) (res : Result) (data : ReplyData) :
    s.reply res data = s.replied o.tag res data := by
  unfold State.reply State.giveReply
  split
  · next g => rw [h] at g; cases g
  · next p g => rw [h] at g; cases g; rfl

/-- The reply without data of the outstanding request (R162, R164). -/
theorem State.answer_outstanding {o : Outstanding} (h : s.link.outstanding = some o) (res : Result) :
    s.answer res = s.replied o.tag res .none := State.reply_outstanding h res .none

/-- A HEADER WRITE is asked for (R11). -/
theorem State.askHeaderWrite_eq (s : State) : s.askHeaderWrite = s.setBand { s.band with
    queue := if .headerWrite ∈ s.band.queue then s.band.queue else s.band.queue ++ [.headerWrite] } := by
  unfold State.askHeaderWrite
  split <;> rfl

/-- The reply of a request that waits on the header (R11, R16). -/
theorem State.replyAfterHeader_outstanding {o : Outstanding} (h : s.link.outstanding = some o) :
    s.replyAfterHeader = if s.band.port = .fault then s.replied o.tag .store .none
      else s.setBand { s.band with replyWait := some ⟨.header, .none, false⟩ } := by
  unfold State.replyAfterHeader
  split
  · exact State.answer_outstanding h .store
  · rfl

/-- A settings request with values in range (R11, R16). -/
theorem State.applySettings_outstanding {o : Outstanding} (h : s.link.outstanding = some o) (x : Settings) :
    s.applySettings x = s.tookSettings o.tag x := by
  unfold State.applySettings State.tookSettings
  split
  · exact State.answer_outstanding h .ok
  · rw [State.askHeaderWrite_eq]
    exact State.replyAfterHeader_outstanding (s := (s.setSettings x).setBand _) h

end Sys2Proof.Machine
end

