-- ==== Sys2Proof/Laws/Outstanding.lean ====
section
/-!
SUPPORT. What leaves the outstanding request as it is: notices, the journal, pulse queues and the operations of the
blocks built on them; and all that the placing and the removal of a pulse do. With `State.reply_outstanding` these say what a reply given behind such an operation is.
-/

namespace Sys2Proof.Machine

variable (s : State)

@[simp] theorem State.post_outstanding (kind : NoticeKind) (sub : NoticeSubject) :
    (s.post kind sub).link.outstanding = s.link.outstanding := rfl

@[simp] theorem State.postWatch_outstanding (sub : JournalSubject) :
    (s.postWatch sub).link.outstanding = s.link.outstanding := by
  unfold State.postWatch
  repeat' split
  all_goals rfl

@[simp] theorem State.overtake_outstanding : s.overtake.link.outstanding = s.link.outstanding := by
  unfold State.overtake
  repeat' split
  all_goals simp

@[simp] theorem State.advanceJournal_outstanding : s.advanceJournal.link.outstanding = s.link.outstanding := by
  unfold State.advanceJournal
  dsimp only
  repeat' split
  all_goals rfl

@[simp] theorem State.writeSlot_outstanding (sub : JournalSubject) (band : Option BandNo) (party : Party)
    (action : JournalAction) (start : Stamp) (finish : Option (Stamp × EntryOutcome)) :
    (s.writeSlot sub band party action start finish).link.outstanding = s.link.outstanding := rfl

@[simp] theorem State.journalOpen_outstanding (sub : JournalSubject) (band : Option BandNo) (party : Party)
    (action : JournalAction) (start : Stamp) :
    (s.journalOpen sub band party action start).2.link.outstanding = s.link.outstanding := by
  unfold State.journalOpen
  split <;> simp

@[simp] theorem State.journalClosed_outstanding (sub : JournalSubject) (band : Option BandNo) (party : Party)
    (action : JournalAction) (start : Stamp) (o : EntryOutcome) :
    (s.journalClosed sub band party action start o).link.outstanding = s.link.outstanding := by
  unfold State.journalClosed
  split <;> simp

@[simp] theorem State.journalClose_outstanding (link : Option JournalLink) (sub : JournalSubject)
    (o : EntryOutcome) : (s.journalClose link sub o).link.outstanding = s.link.outstanding := by
  unfold State.journalClose
  repeat' split
  all_goals simp

@[simp] theorem State.setLocker_outstanding (k : LockerNo) (x : Locker) :
    (s.setLocker k x).link.outstanding = s.link.outstanding := rfl

@[simp] theorem State.setCabin_outstanding (c : CabinNo) (x : Cabin) :
    (s.setCabin c x).link.outstanding = s.link.outstanding := rfl

@[simp] theorem State.setLane_outstanding (l : LaneNo) (x : Lane) :
    (s.setLane l x).link.outstanding = s.link.outstanding := rfl

@[simp] theorem State.setString_outstanding (i : StringNo) (x : StringRecord) :
    (s.setString i x).link.outstanding = s.link.outstanding := rfl

/-- A string written back as it stands changes nothing. -/
theorem State.setString_self (i : StringNo) : s.setString i (s.string i) = s := by
  simp [State.setString, State.setStrings, State.string]

/-- All that placing a pulse does, in the interval and out of it (R79, R83). -/
theorem State.placePulse_eq (i : StringNo) (p : Position) (d : Direction) :
    s.placePulse i p d = s.setString i { s.string i with queue := s.pulsesWith i p d } := by
  unfold State.placePulse State.pulsesWith
  split
  · exact (s.setString_self i).symm
  · rfl

/-- All that removing a pulse does, in the interval and out of it (R80, R83). -/
theorem State.removePulse_eq (i : StringNo) (p : Position) :
    s.removePulse i p = s.setString i { s.string i with queue := s.pulsesWithout i p } := by
  unfold State.removePulse State.pulsesWithout
  split
  · exact (s.setString_self i).symm
  · rfl

@[simp] theorem State.placePulse_outstanding (i : StringNo) (p : Position) (d : Direction) :
    (s.placePulse i p d).link.outstanding = s.link.outstanding := by
  simp [State.placePulse_eq]

@[simp] theorem State.removePulse_outstanding (i : StringNo) (p : Position) :
    (s.removePulse i p).link.outstanding = s.link.outstanding := by
  simp [State.removePulse_eq]

@[simp] theorem State.openCabin_outstanding (c : CabinNo) (a : CabinAction) (prior : CabinState) (x : Bool) :
    (s.openCabin c a prior x).link.outstanding = s.link.outstanding := by
  simp [State.openCabin]

@[simp] theorem State.restCabin_outstanding (c : CabinNo) (st : CabinState) (o : EntryOutcome) :
    (s.restCabin c st o).link.outstanding = s.link.outstanding := by
  unfold State.restCabin; simp

@[simp] theorem State.beginLocker_outstanding (k : LockerNo) (st : LockerState) (a : LockerAction)
    (band : Option BandNo) (party : Party) (eb : Option BandNo) (start : Stamp) :
    (s.beginLocker k st a band party eb start).link.outstanding = s.link.outstanding := by
  unfold State.beginLocker; simp

@[simp] theorem State.beginDesk_outstanding (k : LockerNo) (a : LockerAction) :
    (s.beginDesk k a).link.outstanding = s.link.outstanding := by
  unfold State.beginDesk; simp

@[simp] theorem State.disarm_outstanding (l : LaneNo) (o : EntryOutcome) :
    (s.disarm l o).link.outstanding = s.link.outstanding := by
  unfold State.disarm; simp

@[simp] theorem State.cabinHolderLeaves_outstanding (c : CabinNo) :
    (s.cabinHolderLeaves c).link.outstanding = s.link.outstanding := by
  unfold State.cabinHolderLeaves
  dsimp only
  repeat' split
  all_goals simp

@[simp] theorem State.cabinBandLeaves_outstanding (b : BandNo) :
    (s.cabinBandLeaves b).link.outstanding = s.link.outstanding := by
  unfold State.cabinBandLeaves
  split <;> simp

@[simp] theorem State.laneBandLeaves_outstanding (b : BandNo) :
    (s.laneBandLeaves b).link.outstanding = s.link.outstanding := by
  unfold State.laneBandLeaves
  split <;> simp

@[simp] theorem State.disown_outstanding (k : LockerNo) (st : LockerState) :
    (s.disown k st).link.outstanding = s.link.outstanding := rfl

@[simp] theorem State.lockerReturn_outstanding (b : BandNo) :
    (s.lockerReturn b).link.outstanding = s.link.outstanding := by
  unfold State.lockerReturn State.leaveCompanions State.abandonLocker
  dsimp only
  repeat' split
  all_goals simp

@[simp] theorem State.dueTests_outstanding (c : CabinNo) :
    (s.dueTests c).link.outstanding = s.link.outstanding := by
  unfold State.dueTests State.dueOverdue State.dueExpiry State.expireCabin
  dsimp only
  repeat' split
  all_goals simp

/-- A fold of operations that each leave the outstanding request leaves it. -/
theorem State.foldl_outstanding {α : Type} (f : State → α → State)
    (h : ∀ s x, (f s x).link.outstanding = s.link.outstanding) (xs : List α) (s : State) :
    (xs.foldl f s).link.outstanding = s.link.outstanding := by
  induction xs generalizing s with
  | nil => rfl
  | cons x xs ih => rw [List.foldl_cons, ih, h]

@[simp] theorem State.allDueTests_outstanding : s.allDueTests.link.outstanding = s.link.outstanding := by
  unfold State.allDueTests
  exact State.foldl_outstanding State.dueTests State.dueTests_outstanding (allFin 24) s

@[simp] theorem State.tariffSwitch_outstanding (table : TariffTable) :
    (s.tariffSwitch table).link.outstanding = s.link.outstanding := by
  unfold State.tariffSwitch
  dsimp only
  rw [State.askHeaderWrite_eq]
  rfl

@[simp] theorem State.stepClock_outstanding (v : Stamp) :
    (s.stepClock v).link.outstanding = s.link.outstanding := by
  unfold State.stepClock State.switchTest
  repeat' split
  all_goals simp

@[simp] theorem State.evaluateFull_outstanding : s.evaluateFull.link.outstanding = s.link.outstanding := by
  unfold State.evaluateFull
  repeat' split
  all_goals simp

@[simp] theorem State.establish_outstanding (i : StringNo) :
    (s.establish i).link.outstanding = s.link.outstanding := rfl

@[simp] theorem State.unfitString_outstanding (i : StringNo) :
    (s.unfitString i).link.outstanding = s.link.outstanding := rfl

@[simp] theorem State.refitLane_outstanding (x : Settings) (l : LaneNo) :
    (s.refitLane x l).link.outstanding = s.link.outstanding := by
  unfold State.refitLane
  repeat' split
  all_goals rfl

end Sys2Proof.Machine
end

