-- ==== Sys2Proof/WellFormed.lean ====
section
/-!
DEFINITION. The commands the environment may send: what the operands of a command must satisfy for the command to be
one of its row of spec/opcode_table.json. The meanings are total and do not rest on it.
-/

namespace Sys2Proof

/-- The bytes a memory answers are as many as the transfer reads (R172, R173, R3). -/
def seenOk (n : Nat) : Option (List Byte) → Bool
  | none => true
  | some bs => bs.length == n

/-- A body fits a frame: the length byte, which counts kind and tag too, is at most 250 (10.1.1). -/
def bodyOk (body : List Byte) : Bool := decide (body.length ≤ 248)

/-- An answer that a poll or probe can take names a head 0 to 283 and a band number 0 to 2047, and its check agrees
(R154). -/
def answerOk (head : Nat) (answer : Answer) : Bool :=
  answer.check == Machine.answerCheck head answer.kind && decide (head < 284) &&
    match answer.kind with
    | .idle => true
    | .present band _ => decide (band < 2048)

/-- String 8 has 24 positions (R75): no sample beyond them. -/
def samplesOk (string : StringNo) (x : BitVec 32) : Bool := string != 8 || decide (x.toNat < 16777216)

/-- Whether a command is well formed. -/
def Instr.wf : Instr → Bool
  | .headerReadComplete seen => seenOk 256 seen
  | .mirrorReadComplete seen => seenOk 16 seen
  | .fetchComplete seen => seenOk 32 seen
  | .unknownRequest kind _ body => bodyOk body && (Machine.requestOf kind).isNone
  | .pollAnswer _ head answer => answerOk head answer
  | .probeAnswer _ head answer => answerOk head answer
  | .stringScan string doors bolts => samplesOk string doors && samplesOk string bolts
  | .powerOn => true
  | .resetPin => true
  | .enterStarting => true
  | .frameGapExpiry _ => true
  | .frameDiscard _ => true
  | .transmitEnd => true
  | .status _ body => bodyOk body
  | .setFloor _ body => bodyOk body
  | .restart _ body => bodyOk body
  | .bandIssue _ body => bodyOk body
  | .bandAmend _ body => bodyOk body
  | .bandTopup _ body => bodyOk body
  | .bandSettle _ body => bodyOk body
  | .bandBar _ body => bodyOk body
  | .bandUnbar _ body => bodyOk body
  | .bandReturn _ body => bodyOk body
  | .bandRead _ body => bodyOk body
  | .lockerAssign _ body => bodyOk body
  | .lockerShare _ body => bodyOk body
  | .lockerUnshare _ body => bodyOk body
  | .lockerOpen _ body => bodyOk body
  | .lockerRelease _ body => bodyOk body
  | .lockerReset _ body => bodyOk body
  | .lockerSuspend _ body => bodyOk body
  | .lockerResume _ body => bodyOk body
  | .lockerWatch _ body => bodyOk body
  | .stringClose _ body => bodyOk body
  | .stringOpen _ body => bodyOk body
  | .lockerRead _ body => bodyOk body
  | .stringsFitted _ body => bodyOk body
  | .stringSettings _ body => bodyOk body
  | .stringRead _ body => bodyOk body
  | .cabinRelease _ body => bodyOk body
  | .cabinSuspend _ body => bodyOk body
  | .cabinResume _ body => bodyOk body
  | .cabinSettings _ body => bodyOk body
  | .cabinRead _ body => bodyOk body
  | .clockSet _ body => bodyOk body
  | .clockRead _ body => bodyOk body
  | .tariffStage _ body => bodyOk body
  | .tariffSwitch _ body => bodyOk body
  | .tariffDiscard _ body => bodyOk body
  | .tariffRead _ body => bodyOk body
  | .stayQuery _ body => bodyOk body
  | .laneSettings _ body => bodyOk body
  | .laneService _ body => bodyOk body
  | .capacitySet _ body => bodyOk body
  | .occupancySet _ body => bodyOk body
  | .laneRead _ body => bodyOk body
  | .journalRead _ body => bodyOk body
  | .journalOptions _ body => bodyOk body
  | .readerSettings _ body => bodyOk body
  | .headRead _ body => bodyOk body
  | .storeFormat _ body => bodyOk body
  | .storeRestart _ body => bodyOk body
  | .formatWriteComplete => true
  | .writeComplete => true
  | .headerWriteComplete => true
  | .mirrorWriteComplete => true
  | .transferTimeout => true
  | .pollWindowExpiry _ => true
  | .answerDiscard _ => true
  | .probeTimerExpiry => true
  | .probeWindowExpiry _ => true
  | .pulseStart _ => true
  | .pulseEnd _ => true
  | .restExpiry _ => true
  | .lockerConfirmExpiry _ => true
  | .cabinConfirmExpiry _ => true
  | .blinkExpiry => true
  | .secondTimerExpiry => true
  | .minutePulse => true
  | .beamEdge _ _ _ => true
  | .commitRetryExpiry _ => true
  | .linePulseExpiry _ _ => true
  | .armTimerExpiry _ => true

end Sys2Proof
end

