-- ==== Sys2Proof/Tests/Slice0.lean ====
section
/-!
SUPPORT. The model's own tests: an ill-formed term for each check of WellFormed; for each statement that has
hypotheses a state and operands that meet them, clause by clause; and a few single steps whose results are taken from
the manual's worked examples.
-/

namespace Sys2Proof.Tests
set_option Elab.async false
open Sys2Proof.Machine

/-! ### Small states -/

/-- A contact whose level is known: closed, or withdrawn. -/
def known : Contact := ⟨some false, some false, 0⟩

/-- A contact whose level is known: open, or thrown. -/
def thrown : Contact := ⟨some true, some true, 0⟩

/-- A part that is RUNNING with every string fitted, every door closed and bolt withdrawn, and the clock set to
1000. -/
def up : State := { State.cold with
  part := ⟨.running, false, .done⟩
  strings := Vector.replicate 9 ⟨.fitted, [], .idle⟩
  scanner := Vector.replicate 9 ⟨Vector.replicate 32 known, Vector.replicate 32 known⟩
  clock := ⟨1000, true, none, none⟩ }

/-- A band that has been issued, with class 2 and 60 paid minutes. -/
def issued : BandRecord := ⟨.issued, none, 9, 2, 60, none, 100, 0, 255, true, false⟩

/-- The same band inside since 500. -/
def inside : BandRecord := { issued with state := .inside, entry := some 500 }

/-- The same band barred while inside. -/
def barred : BandRecord := { inside with state := .barred, beforeBar := some .inside }

/-- The same band barred while issued. -/
def barredOut : BandRecord := { issued with state := .barred, beforeBar := some .issued }

/-- The same band returned. -/
def returned : BandRecord := { issued with state := .returned }

/-- `up` with band 5 held in entry 3. -/
def holding (r : BandRecord) : State := up.setBand { up.band with
  cache := up.band.cache.set 3 ⟨.valid 5 r, [], false⟩, lastUse := [3] }

/-- `up` with a transfer in flight. -/
def moving (x : Transfer) : State := up.setBand { up.band with port := .transfer, inFlight := some ⟨x, false⟩ }

/-- A request is outstanding. -/
def asked (s : State) : State := s.setLink { s.link with outstanding := some ⟨0x17, 7⟩ }

/-- A frame is being sent. -/
def sending (f : Frame) : State := up.setLink { up.link with outstanding := some ⟨3, 7⟩, sending := some ⟨f, 1⟩ }

/-- `up` with one locker record replaced. -/
def lockerIs (k : LockerNo) (l : Locker) : State := up.setLocker k l

/-- `up` with one cabin record replaced. -/
def cabinIs (c : CabinNo) (x : Cabin) : State := up.setCabin c x

/-- The port in FAULT. -/
def faulty (s : State) : State := s.setBand { s.band with port := .fault }

/-- A dirty locker. -/
def dirtyLocker : Locker := { Locker.atReset with dirty := true }

/-- A poll in flight to a head on line A. -/
def polling (s : State) (h : HeadNo) (probe : Bool) : State :=
  s.setEngine .a ⟨some 0, true, some ⟨h, probe, none, false, false, 5⟩⟩

/-! ### Ill-formed commands -/

theorem test_wf_body_too_long : (Instr.status 0 (List.replicate 249 0)).wf = false := by decide +kernel
theorem test_wf_unknown_is_known : (Instr.unknownRequest 0x01 0 []).wf = false := by decide +kernel
theorem test_wf_header_seen : (Instr.headerReadComplete (some [0])).wf = false := by decide +kernel
theorem test_wf_mirror_seen : (Instr.mirrorReadComplete (some [0])).wf = false := by decide +kernel
theorem test_wf_fetch_seen : (Instr.fetchComplete (some [0])).wf = false := by decide +kernel
theorem test_wf_answer_head : (Instr.pollAnswer .a 284 ⟨.idle, answerCheck 284 .idle⟩).wf = false := by decide +kernel
theorem test_wf_probe_head : (Instr.probeAnswer .b 284 ⟨.idle, answerCheck 284 .idle⟩).wf = false := by decide +kernel
theorem test_wf_answer_band : (Instr.pollAnswer .a 0 (goodAnswer 0 (.present 2048 1))).wf = false := by decide +kernel
theorem test_wf_answer_check : (Instr.pollAnswer .a 0 ⟨.idle, answerCheck 0 .idle + 1⟩).wf = false := by decide +kernel
theorem test_wf_sample_beyond : (Instr.stringScan 8 16777216 0).wf = false := by decide +kernel
theorem test_wf_good : (Instr.pollAnswer .a 283 (goodAnswer 283 (.present 2047 1))).wf = true ∧
    (Instr.unknownRequest 0xFF 0 []).wf = true ∧ (Instr.stringScan 8 16777215 0).wf = true := by decide +kernel

/-! ### The hypotheses of the statements are met: the machine -/

theorem witness_StepRunsFront : (up.setPending [.status 1 [], .powerOn]).pending = .status 1 [] :: [.powerOn] ∧
    up.pending = [] := by decide +kernel

theorem reset_inv : State.reset.Inv :=
  ⟨by decide +kernel, by decide +kernel, ⟨by decide +kernel, by decide +kernel⟩, by decide +kernel⟩

theorem witness_StepKeepsInv : State.reset.Inv ∧ ∃ t : State, step (State.reset.setPending [.minutePulse]) = .next t :=
  ⟨reset_inv, _, rfl⟩

/-! ### What chooses by itself -/

theorem witness_PortChoice :
    (up.band.port = .ready ∧ up.band.inFlight = none ∧ up.part.startup = .done ∧ up.part.winding = false ∧
      up.band.format = none ∧ up.band.queue = [] ∧ ∀ k, (up.locker k).dirty = false) ∧
    (let s := lockerIs 255 dirtyLocker;
      (s.locker 255).dirty = true ∧ (∀ j, j < 255 → (s.locker j).dirty = false) ∧ s.band.queue = []) ∧
    (let s := (holding issued).setBand { (holding issued).band with
        queue := [.write 3], fairness := 3, replyWait := some ⟨.entry 3, .none, false⟩ };
      s.band.queue = .write 3 :: [] ∧ (s.entry 3).content = .valid 5 issued ∧
        s.band.replyWait = some ⟨.entry 3, .none, false⟩ ∧ s.band.fairness ≠ 4) ∧ (faulty up).band.port ≠ .ready ∧
    (moving .headerRead).band.inFlight.isSome = true := by decide +kernel

/-- `up` at a stage of start-up, with a locker dirty, the fairness count at 4 and a queue. -/
def staging (st : Startup) (q : List PortRequest) : State :=
  let s := (lockerIs 9 dirtyLocker).setPart ⟨.starting, false, st⟩
  s.setBand { s.band with
    fairness := 4, queue := q, cache := s.band.cache.set 1 ⟨.filling 77, [.request .read], false⟩ }

theorem witness_PortChoice_stages :
    (State.cold.band.port = .ready ∧ State.cold.band.inFlight = none ∧ State.cold.part.startup = .headerRead) ∧
    (staging (.mirrorRead 255 Settings.default) []).part.startup = .mirrorRead 255 Settings.default ∧
    (let s := staging .establishing [.fetch 1];
      s.part.startup = .establishing ∧ s.band.format = none ∧ s.band.fairness = 4 ∧ s.part.winding = false ∧
        (s.locker 9).dirty = true ∧ ∀ j, j < 9 → (s.locker j).dirty = false) ∧
    (let s := staging (.ownership 0 1 Settings.default) [.fetch 1];
      s.part.startup = .ownership 0 1 Settings.default ∧ s.band.queue = .fetch 1 :: [] ∧
        (s.entry 1).content = .filling 77) ∧
    (let s := (staging .done [.headerWrite]).setPart ⟨.running, true, .done⟩;
      s.part.winding = true ∧ s.band.fairness = 4 ∧ s.band.queue = .headerWrite :: []) ∧
    (let s := up.setBand { up.band with format := some .ended, queue := [.headerWrite] };
      s.band.format = some .ended ∧ s.band.format ≠ none ∧ s.band.queue = .headerWrite :: []) := by decide +kernel

theorem witness_EngineChoice :
    ((polling up 0 false).part.winding = false ∧ ((polling up 0 false).engine .a).poll.isSome = true) ∧
    (let s := (up.setHead 9 ⟨.offline, 0, false, none, .b, .due⟩).setEngine .b ⟨none, true, none⟩;
      (s.engine .b).poll = none ∧ (s.engine .b).lastWasRoster = true ∧ s.inService 9 = true ∧
        (s.head 9).probe = .due ∧ (s.head 9).probeLine = .b ∧
        ∀ g, g < 9 → ¬(s.inService g = true ∧ (s.head g).probe = .due ∧ (s.head g).probeLine = .b)) ∧
    (let s := up.setEngine .a ⟨some 281, true, none⟩;
      (s.engine .a).poll = none ∧ (∀ g, ¬(s.inService g = true ∧ (s.head g).probe = .due ∧ (s.head g).probeLine = .a)) ∧
        s.inService 0 = true ∧ (s.head 0).state = .on .a ∧ (s.engine .a).last = some 281 ∧
        ∀ g : HeadNo, g < 0 ∨ 281 < g → ¬(s.inService g = true ∧ (s.head g).state = .on .a)) ∧
    (let s := (up.setHead 9 ⟨.offline, 0, false, none, .a, .due⟩).setEngine .a ⟨some 0, false, none⟩;
      (s.engine .a).lastWasRoster = false ∧ s.inService 1 = true ∧ (s.head 1).state = .on .a ∧
        (s.engine .a).last = some 0 ∧ (0 : HeadNo) < 1 ∧ ∀ g : HeadNo, 0 < g → ¬g < 1) ∧
    (let s := (up.setHead 9 ⟨.offline, 0, false, none, .b, .due⟩).setEngine .b ⟨none, false, none⟩;
      (s.engine .b).lastWasRoster = false ∧ (s.engine .b).last = none ∧
        ∀ g, ¬(s.inService g = true ∧ (s.head g).state = .on .b)) ∧
    (let s := up.setEngine .b ⟨none, true, none⟩;
      (∀ g, ¬(s.inService g = true ∧ (s.head g).state = .on .b)) ∧
        ∀ g, ¬(s.inService g = true ∧ (s.head g).probe = .due ∧ (s.head g).probeLine = .b)) := by decide +kernel

theorem witness_FrameChoice :
    (sending (.notice ⟨.watch, .locker 3, 5⟩)).link.sending.isSome = true ∧
    (let s := up.setLink { up.link with replies := [⟨1, .ok, .none, true, false⟩] };
      s.link.sending = none ∧ s.link.replies = ⟨1, .ok, .none, true, false⟩ :: []) ∧
    (let s := up.setLink { up.link with
        notices := [⟨.watch, .locker 3, 5⟩, ⟨.hallFull, .none, 6⟩, ⟨.tailgate, .lane 0, 7⟩], floor := 4 };
      s.link.sending = none ∧ s.link.replies = [] ∧ s.part.winding = false ∧
        s.link.notices = [⟨.watch, .locker 3, 5⟩] ++ ⟨.hallFull, .none, 6⟩ :: [⟨.tailgate, .lane 0, 7⟩] ∧
        s.link.floor.val < NoticeKind.hallFull.level ∧ NoticeKind.watch.level < NoticeKind.hallFull.level ∧
        NoticeKind.tailgate.level ≤ NoticeKind.hallFull.level) ∧
    (let s := up.setLink { up.link with notices := [⟨.tailgate, .lane 0, 7⟩], floor := 5 };
      s.link.sending = none ∧ s.link.replies = [] ∧ ∀ m ∈ s.link.notices, m.kind.level ≤ s.link.floor.val) := by
  decide +kernel

/-! ### Power-on, start-up, winding down -/

theorem witness_PowerOnResets : up.band.inFlight = none ∧
    (moving (.mirrorWrite 255 69872 [1, 2])).band.inFlight = some ⟨.mirrorWrite 255 69872 [1, 2], false⟩ ∧
    (Transfer.mirrorWrite 255 69872 [1, 2]).target = some (69872, [1, 2]) ∧ Transfer.headerRead.target = none := by
  decide +kernel

theorem witness_EntersStarting : (up.setPart { up.part with winding := true }).woundDown = true := by decide +kernel

set_option maxRecDepth 20000 in
theorem witness_HeaderReadCompletes :
    State.reset.band.inFlight = some ⟨.headerRead, false⟩ ∧
    judgeHeader ((State.reset.store.seen 0 256 (some Settings.default.encodeHeader)).bytes 0 256) =
      some Settings.default ∧
    judgeHeader ((State.reset.store.seen 0 256 none).bytes 0 256) = none := by decide +kernel

theorem witness_MirrorReadCompletes :
    (let s : State := (moving (.mirrorRead 254)).setPart ⟨.starting, false, .mirrorRead 254 Settings.default⟩;
      s.band.inFlight = some ⟨.mirrorRead 254, false⟩ ∧ s.part.startup = .mirrorRead 254 Settings.default ∧
        judgeMirror ((s.store.seen (256 + 32 * 2048 + 16 * 254) 16 (some (MirrorImage.encode
          ⟨.locked, some 2047, [0]⟩))).bytes (256 + 32 * 2048 + 16 * 254) 16) 2048 s.takenOwners s.takenCompanions =
            some ⟨.locked, some 2047, [0]⟩ ∧
        judgeMirror ((s.store.seen (256 + 32 * 2048 + 16 * 254) 16 (some [9])).bytes (256 + 32 * 2048 + 16 * 254) 16) 2048
          s.takenOwners s.takenCompanions = none) ∧
    (let s : State := (moving (.mirrorRead 255)).setPart ⟨.starting, false, .mirrorRead 255 Settings.default⟩;
      s.band.inFlight = some ⟨.mirrorRead 255, false⟩ ∧
        s.part = ⟨.starting, false, .mirrorRead 255 Settings.default⟩ ∧ 1 ≤ Settings.default.fittedStrings ∧
        judgeMirror ((s.store.seen (256 + 32 * 2048 + 16 * 255) 16 (some (MirrorImage.encode
          ⟨.suspended, none, []⟩))).bytes (256 + 32 * 2048 + 16 * 255) 16) 2048 s.takenOwners s.takenCompanions =
            some ⟨.suspended, none, []⟩ ∧
        ∀ k : LockerNo, k ≠ 255 → (s.locker k).owner = none ∧ (s.locker k).companions = []) := by decide +kernel

/-- The last mirror record is read; locker 30 has an owner already. -/
def lastMirror (l : Locker) : State := ((State.cold.setBand { BandUnit.atReset with
  port := .transfer, inFlight := some ⟨.mirrorRead 255, false⟩ }).setPart
    ⟨.starting, false, .mirrorRead 255 Settings.default⟩).setLocker 30 l

theorem witness_MirrorReadCompletes_ownership :
    (let s := lastMirror { Locker.atReset with state := .locked, owner := some 2047, companions := [0] };
      s.band.inFlight = some ⟨.mirrorRead 255, false⟩ ∧ s.part = ⟨.starting, false, .mirrorRead 255 Settings.default⟩ ∧
        s.band.format = none ∧ s.band.cache = BandUnit.atReset.cache ∧
        judgeMirror ((s.store.seen (256 + 32 * 2048 + 16 * 255) 16 (some [9])).bytes (256 + 32 * 2048 + 16 * 255) 16) 2048
          s.takenOwners s.takenCompanions = none ∧
        (∀ i, i < 30 → (s.locker i).owner = none ∧ (s.locker i).companions = []) ∧
        (s.locker 30).owner = some 2047 ∧ (2047 : BandNo).val < s.tableLength ∧ (s.locker 30).companions = [0] ∧
        (0 : BandNo) ≠ 2047 ∧ (0 : BandNo).val < s.tableLength) ∧
    ((lastMirror { Locker.atReset with state := .opened, owner := some 2047 }).locker 30).companions = [] := by
  decide +kernel

/-! ### The host link -/

theorem witness_FrameRoundTrip : (List.replicate 248 (0 : Byte)).length ≤ 248 ∧ ∀ b ∈ [(1 : Byte), 2], b ≠ 0x5C := by
  decide +kernel

theorem witness_ReceiveDiscards :
    (∀ b ∈ up.link.kept ++ [(1 : Byte), 0x5B], b ≠ 0x5C) ∧
    (up.link.kept ++ [0x5C, 2, 1] = (0x5C : Byte) :: 2 :: [1] ∧ 2 ≤ (2 : Byte).toNat ∧ (2 : Byte).toNat ≤ 250 ∧
      [(1 : Byte)].length < (2 : Byte).toNat + 2 ∧ (2 : Byte) ≠ 0x5C ∧ ∀ b ∈ [(1 : Byte)], b ≠ 0x5C) ∧
    (up.link.kept ++ [0x5C, 251, 1] = (0x5C : Byte) :: 251 :: [1] ∧ 250 < (251 : Byte).toNat) ∧
    (up.link.kept ++ [0x5C, 2, 1, 7, 0, 0] = (0x5C : Byte) :: 2 :: ([1, 7] ++ [0, 0]) ∧
      [(1 : Byte), 7].length = (2 : Byte).toNat ∧ [(0 : Byte), 0].length = 2 ∧
      [(0 : Byte), 0] ≠ crc16Bytes (2 :: [1, 7]) ∧ ∀ b ∈ [(1 : Byte), 7] ++ [0, 0], b ≠ 0x5C) := by decide +kernel

theorem witness_ReceiveDiscards_good :
    huntFrames false (up.link.kept ++ (1 :: frameBytes 0x17 7 [0, 5] ++ [0x5C])).length
      (up.link.kept ++ (1 :: frameBytes 0x17 7 [0, 5] ++ [0x5C])) = ([⟨0x17, 7, [0, 5]⟩], [0x5C]) ∧
    huntFrames true (frameBytes 0xFF 7 []).length (frameBytes 0xFF 7 []) = ([⟨0xFF, 7, []⟩], []) ∧
    Request.bandRead.code = 0x17 ∧ ∀ r ∈ allRequests, r.code ≠ 0xFF := by decide +kernel

theorem witness_ReceiveDiscards_taken : ∃ u, exec (.unknownRequest 0xFF 7 []) up = .next u := ⟨_, rfl⟩

theorem witness_RequestTests :
    (asked up).link.outstanding.isSome = true ∧ up.link.outstanding = none ∧
    [(0 : Byte)].length ≠ Request.status.bodyLength ∧
    (State.reset.shownPart = .starting ∧ ([] : List Byte).length = Request.clockRead.bodyLength ∧
      Request.clockRead ∉ [Request.status, .clockSet] ∧ Request.clockSet ∈ [Request.status, .clockSet]) ∧
    (let s := State.reset.setPart ⟨.noStore, false, .done⟩;
      s.shownPart = .noStore ∧ Request.headRead ∉ [Request.status, .clockSet, .clockRead, .storeFormat, .restart] ∧
        Request.restart ∈ [Request.clockRead, .storeFormat, .restart]) ∧
    up.shownPart = .running ∧ Request.bandRead.code ≠ 0xFF ∧ ∀ r ∈ allRequests, r.code ≠ 0xFF := by decide +kernel

theorem witness_unknown_code (r : Request) : r.code ≠ 0xFF := by cases r <;> decide

theorem witness_FrameEnds :
    (sending (.notice ⟨.watch, .locker 3, 5⟩)).link.sending = some ⟨.notice ⟨.watch, .locker 3, 5⟩, 1⟩ ∧
    (sending (.reply ⟨7, .ok, .none, true, false⟩)).link.sending = some ⟨.reply ⟨7, .ok, .none, true, false⟩, 1⟩ ∧
    (sending (.reply ⟨7, .busy, .none, false, false⟩)).link.sending =
      some ⟨.reply ⟨7, .busy, .none, false, false⟩, 1⟩ ∧ up.link.sending = none := by decide +kernel

theorem witness_WindingBegins :
    (let s := ((sending (.reply ⟨7, .ok, .none, true, true⟩)).setBand { up.band with
        queue := [.write 1, .fetch 4], lastUse := [1, 4],
        cache := up.band.cache.set 4 ⟨.filling 7, [.lookup 283 ⟨7, 9, 1, false, false⟩, .commit 2 9], false⟩ }).setSlot 283
          (some ⟨7, 9, 1, false, false⟩);
      s.link.sending = some ⟨.reply ⟨7, .ok, .none, true, true⟩, 1⟩ ∧ s.part.startup = .done ∧
        .fetch 4 ∈ s.band.queue ∧ (s.entry 4).waiters = [.lookup 283 ⟨7, 9, 1, false, false⟩, .commit 2 9] ∧
        (∀ e, e ≠ 4 → (s.entry e).waiters = []) ∧ s.slot 283 = some ⟨7, 9, 1, false, false⟩ ∧
        s.band.port ≠ .fault) ∧
    (faulty (sending (.reply ⟨7, .ok, .none, true, true⟩))).band.port = .fault := by decide +kernel

/-- A notice queue that is full. -/
def fullQueue : State := up.setLink { up.link with
  notices := List.replicate 3 ⟨.hallFull, .none, 1⟩ ++ ⟨.watch, .locker 0, 2⟩ :: List.replicate 28 ⟨.journalHalf, .lap 1, 3⟩ }

theorem witness_NoticePosting :
    (up.setLink { up.link with notices := List.replicate 31 ⟨.watch, .locker 0, 2⟩ }).link.notices.length < 32 ∧
    (fullQueue.link.notices.length = 32 ∧
      fullQueue.link.notices = List.replicate 3 ⟨.hallFull, .none, 1⟩ ++ ⟨.watch, .locker 0, 2⟩ ::
        List.replicate 28 ⟨.journalHalf, .lap 1, 3⟩ ∧
      (∀ m ∈ List.replicate 3 (⟨.hallFull, .none, 1⟩ : Notice), NoticeKind.watch.level < m.kind.level) ∧
      (∀ m ∈ List.replicate 28 (⟨.journalHalf, .lap 1, 3⟩ : Notice), NoticeKind.watch.level ≤ m.kind.level) ∧
      NoticeKind.watch.level < NoticeKind.armExpired.level) ∧
    (∀ m ∈ fullQueue.link.notices, NoticeKind.watch.level ≤ m.kind.level) ∧
    (let s := up.setLink { up.link with notices := [⟨.watch, .locker 0, 2⟩] };
      s.link.sending = none ∧ s.arbitrate.link.sending = some ⟨.notice ⟨.watch, .locker 0, 2⟩, 5⟩) := by
  decide +kernel

theorem witness_SetFloor : up.takes .setFloor [7] ∧ up.takes .setFloor [8] ∧ argByte [7] 0 = (7 : Fin 8).val ∧
    7 < argByte [8] 0 := by decide +kernel

theorem witness_Status : State.reset.link.outstanding = none := by decide +kernel

theorem witness_Restarts : up.takes .restart [] ∧ (faulty up).takes .storeRestart [] ∧
    (faulty up).band.port = .fault ∧ up.takes .storeRestart [] ∧ up.band.port ≠ .fault := by decide +kernel

/-! ### Band records and band requests -/

theorem witness_BandRecordRoundTrip : barred.Good ∧ BandRecord.free.Good ∧
    ({ issued with paid := 1440, credit := 65535, settled := 65535 } : BandRecord).Good := by
  refine ⟨⟨?_, ?_, ?_, ?_, ?_, ?_, ?_⟩, ⟨?_, ?_, ?_, ?_, ?_, ?_, ?_⟩, ⟨?_, ?_, ?_, ?_, ?_, ?_, ?_⟩⟩ <;> decide +kernel

theorem witness_StoredRecordsRoundTrip : Settings.default.inRange = true ∧
    (let m : MirrorImage := ⟨.locked, some 2047, [0, 1, 2]⟩;
      m.state ≠ .locking ∧ m.state ≠ .unlocking ∧ m.owner.isSome = true ∧ m.companions.length ≤ 3 ∧
        m.companions.Nodup ∧ (2047 : BandNo) ∉ m.companions ∧ (2047 : BandNo).val < 2048 ∧
        ∀ b ∈ m.companions, b.val < 2048) := by decide +kernel

theorem witness_StoreReadsBack : Memory.wf ({ cells := [(3, 1), (131071, 255)], unsettled := [] } : Store).cells := by
  decide

/-- A band request for band 5, held in entry 3. -/
theorem asks_held {s : State} {q : Request} {body : List Byte} {i : Nat} {rec : BandRecord}
    (h : s.takes q body ∧ argWord body i = 5 ∧ 5 < s.tableLength ∧ s.bandService = true ∧ s.entryOf 5 = some 3 ∧
      (s.entry 3).content = .valid 5 rec) : s.Asks q body i 5 3 rec :=
  ⟨h.1, h.2.1, h.2.2.1, h.2.2.2.1, h.2.2.2.2.1, h.2.2.2.2.2⟩

theorem witness_BandRead : (holding returned).Asks .bandRead [0, 5] 0 5 3 returned :=
  asks_held (by decide +kernel)

/-- The body of a BAND ISSUE for band 5. -/
def issueBody (cls rights : Byte) : List Byte := [0, 5, 0, 0, 0, 9, cls, 5, 160, 0, 100, 255, rights]

theorem witness_BandIssue :
    (holding returned).Asks .bandIssue (issueBody 7 3) 0 5 3 returned ∧
    (holding inside).Asks .bandIssue (issueBody 7 3) 0 5 3 inside ∧
    (holding returned).Asks .bandIssue (issueBody 8 0) 0 5 3 returned :=
  ⟨asks_held (by decide +kernel), asks_held (by decide +kernel), asks_held (by decide +kernel)⟩

theorem witness_BandIssue_values :
    argLong (issueBody 7 3) 2 ≠ 0 ∧ argByte (issueBody 7 3) 6 ≤ 7 ∧ argWord (issueBody 7 3) 7 = 1440 ∧
    argByte (issueBody 7 3) 12 ≤ 3 ∧ 7 < argByte (issueBody 8 0) 6 ∧ returned.state = .returned ∧
    inside.state = .inside ∧ (∀ k, ((holding returned).locker k).owner ≠ some 5) ∧
    (∀ k, (5 : BandNo) ∉ ((holding returned).locker k).companions) ∧
    (∀ c, ((holding returned).cabin c).holder ≠ some 5) := by decide +kernel

/-- The body of a BAND AMEND for band 5. -/
def amendBody (cls : Byte) : List Byte := [0, 5, cls, 0, 60, 255, 1]

theorem witness_BandAmend :
    (holding issued).Asks .bandAmend (amendBody 2) 0 5 3 issued ∧
    (holding issued).Asks .bandAmend (amendBody 7) 0 5 3 issued ∧
    (holding issued).Asks .bandAmend (amendBody 8) 0 5 3 issued ∧
    (holding returned).Asks .bandAmend (amendBody 7) 0 5 3 returned ∧
    ({ issued with cls := Fin.ofNat 8 (argByte (amendBody 2) 2), paid := argWord (amendBody 2) 3 } : BandRecord) =
      issued :=
  ⟨asks_held (by decide +kernel), asks_held (by decide +kernel), asks_held (by decide +kernel),
    asks_held (by decide +kernel), by decide +kernel⟩

/-- A band whose credit and settled stand at their top. -/
def topped : BandRecord := { issued with credit := 65535, settled := 65535 }

theorem witness_BandTopupSettle :
    (holding issued).Asks .bandTopup [0, 5, 255, 255] 0 5 3 issued ∧
    (holding topped).Asks .bandTopup [0, 5, 0, 1] 0 5 3 topped ∧
    (holding returned).Asks .bandTopup [0, 5, 0, 1] 0 5 3 returned ∧
    (holding issued).Asks .bandSettle [0, 5, 255, 255] 0 5 3 issued ∧
    (holding topped).Asks .bandSettle [0, 5, 0, 1] 0 5 3 topped ∧
    (holding returned).Asks .bandSettle [0, 5, 0, 1] 0 5 3 returned ∧
    min 65535 (issued.credit + argWord [0, 5, 255, 255] 2) ≠ issued.credit ∧
    min 65535 (topped.credit + argWord [0, 5, 0, 1] 2) = topped.credit :=
  ⟨asks_held (by decide +kernel), asks_held (by decide +kernel), asks_held (by decide +kernel),
    asks_held (by decide +kernel), asks_held (by decide +kernel), asks_held (by decide +kernel), by decide, by decide⟩

/-- Band 5 owns a locker in a state. -/
def owning (r : BandRecord) (st : LockerState) : State :=
  (holding r).setLocker 40 { Locker.atReset with state := st, owner := some 5 }

theorem witness_BandBarUnbarReturn :
    (holding issued).Asks .bandBar [0, 5] 0 5 3 issued ∧ (holding inside).Asks .bandBar [0, 5] 0 5 3 inside ∧
    (holding barred).Asks .bandBar [0, 5] 0 5 3 barred ∧ (holding barred).Asks .bandUnbar [0, 5] 0 5 3 barred ∧
    (holding barredOut).Asks .bandUnbar [0, 5] 0 5 3 barredOut ∧
    (holding inside).Asks .bandUnbar [0, 5] 0 5 3 inside ∧ (holding returned).Asks .bandReturn [0, 5] 0 5 3 returned ∧
    (owning inside .unlocking).Asks .bandReturn [0, 5] 0 5 3 inside ∧
    (owning inside .locked).Asks .bandReturn [0, 5] 0 5 3 inside :=
  ⟨asks_held (by decide +kernel), asks_held (by decide +kernel), asks_held (by decide +kernel),
    asks_held (by decide +kernel), asks_held (by decide +kernel), asks_held (by decide +kernel),
    asks_held (by decide +kernel), asks_held (by decide +kernel), asks_held (by decide +kernel)⟩

theorem witness_BandReturn_owner :
    (owning inside .unlocking).ownedLocker 5 = some 40 ∧ ((owning inside .unlocking).locker 40).state = .unlocking ∧
    (owning inside .locked).ownedLocker 5 = some 40 ∧ ((owning inside .locked).locker 40).state = .locked ∧
    inside.state ≠ .free ∧ inside.state ≠ .returned := by decide +kernel

/-- Cabin 23 held by band 5, in a state and with an action. -/
def holdingCabin (st : CabinState) (w : Option CabinWork) : State :=
  up.setCabin 23 { Cabin.atReset with state := st, holder := some 5, work := w }

theorem witness_BandReactions :
    ((∀ k, (up.locker k).owner ≠ some 5) ∧ (∀ k, (5 : BandNo) ∉ (up.locker k).companions) ∧
      (∀ c, (up.cabin c).holder ≠ some 5) ∧ ∀ l, (up.lane l).arm = none) ∧
    (let s := owning inside .opened;
      (s.locker 40).owner = some 5 ∧ (∀ j, j ≠ 40 → (s.locker j).owner ≠ some 5) ∧
        (∀ j, (5 : BandNo) ∉ (s.locker j).companions) ∧ (s.locker 40).state = .opened) ∧
    ((owning inside .locked).locker 40).state = .locked ∧ ((owning inside .jammed).locker 40).state = .jammed ∧
    (let s := up.setLocker 255 { Locker.atReset with state := .opened, owner := some 2, companions := [1, 5] };
      (5 : BandNo) ∈ (s.locker 255).companions ∧ (∀ j, j ≠ 255 → (5 : BandNo) ∉ (s.locker j).companions) ∧
        ∀ j, (s.locker j).owner ≠ some 5) := by decide +kernel

theorem witness_BandReactions_cabin :
    (let s := holdingCabin .closing (some ⟨.claim, some 5, .owner, 1, .free, .queued⟩);
      (s.cabin 23).holder = some 5 ∧ (∀ d, d ≠ 23 → (s.cabin d).holder ≠ some 5) ∧ (s.cabin 23).state = .closing ∧
        (s.cabin 23).work = some ⟨.claim, some 5, .owner, 1, .free, .queued⟩) ∧
    ((holdingCabin .closing (some ⟨.claim, some 5, .owner, 1, .free, .confirming⟩)).cabin 23).work =
      some ⟨.claim, some 5, .owner, 1, .free, .confirming⟩ ∧
    ((holdingCabin .overdue none).cabin 23).state = .overdue ∧
    ((holdingCabin .opening (some ⟨.opn, some 5, .owner, 1, .held, .queued⟩)).cabin 23).work =
      some ⟨.opn, some 5, .owner, 1, .held, .queued⟩ ∧ CabinAction.undo ≠ .opn ∧
    (let s := up.setLane 0 { Lane.atReset with arm := some ⟨some 5, 1008, true, 8⟩, link := some ⟨0, 0⟩ };
      s.settings.roles[(0 : LaneNo).val] = .entry ∧ (s.lane 0).arm = some ⟨some 5, 1008, true, 8⟩ ∧
        ∀ m, m ≠ 0 → (s.lane m).arm = none) := by decide +kernel

/-- Every entry FILLING, entry 0 the oldest that may be evicted where `r` is given. -/
def crowded (r : Option BandRecord) : State := up.setBand { up.band with
  cache := (Vector.replicate 32 ⟨.filling 9, [], false⟩ : Vector CacheEntry 32).set 31
    (match r with | none => ⟨.filling 8, [], false⟩ | some x => ⟨.valid 8 x, [], false⟩)
  lastUse := match r with | none => [] | some _ => [31] }

theorem witness_BandFill :
    (up.takes .bandRead [8, 0] ∧ bandRequestOf .bandRead [8, 0] = some .read ∧ up.tableLength ≤ argWord [8, 0] 0) ∧
    (up.takes .bandRead [7, 255] ∧ argWord [7, 255] 0 = (2047 : BandNo).val ∧ 2047 < up.tableLength ∧
      up.bandService = true ∧ up.entryOf 2047 = none ∧ up.band.port ≠ .fault ∧ up.itemsHeld < 320 ∧
      (up.entry 0).content = .empty ∧ ∀ f : EntryNo, f < 0 → (up.entry f).content ≠ .empty) ∧
    ((faulty up).takes .bandRead [7, 255] ∧ (faulty up).band.port = .fault ∧ (faulty up).entryOf 2047 = none) ∧
    ((crowded none).takes .bandRead [7, 255] ∧ (crowded none).entryOf 2047 = none ∧
      ∀ e, ((crowded none).entry e).content ≠ .empty ∧ ((crowded none).entry e).evictable = false) ∧
    ((crowded (some issued)).takes .bandRead [7, 255] ∧ (crowded (some issued)).entryOf 2047 = none ∧
      (crowded (some issued)).itemsHeld < 320 ∧ (∀ e, ((crowded (some issued)).entry e).content ≠ .empty) ∧
      (crowded (some issued)).band.lastUse = [] ++ 31 :: [] ∧ ((crowded (some issued)).entry 31).evictable = true) ∧
    ((crowded none).takes .bandRead [0, 8] ∧ (crowded none).entryOf 8 = some 31 ∧
      ((crowded none).entry 31).content = .filling 8) ∧
    (let s := up.setEntry 0 ⟨.filling 1, List.replicate 320 (.request .read), false⟩;
      s.takes .bandRead [7, 255] ∧ s.entryOf 2047 = none ∧ 320 ≤ s.itemsHeld) := by decide +kernel

theorem witness_BandFill_requests :
    up.AsksFor .bandRead [7, 255] 0 .read ∧ up.AsksFor .stayQuery [7, 255] 0 .stayQuery ∧
      up.AsksFor .lockerAssign [0, 255, 7, 255] 2 (.assign 255) ∧ up.AsksFor .lockerShare [0, 255, 7, 255] 2 (.share 255) :=
  ⟨.inl ⟨by decide +kernel, rfl⟩, .inr (.inl ⟨rfl, rfl, rfl, by decide +kernel⟩),
    .inr (.inr ⟨255, by decide +kernel, by decide +kernel, rfl, .inl ⟨rfl, rfl⟩⟩),
    .inr (.inr ⟨255, by decide +kernel, by decide +kernel, rfl, .inr ⟨rfl, rfl⟩⟩)⟩

theorem witness_BandFill_taken :
    up.takes .lockerAssign [0, 255, 7, 255] ∧ up.takes .stayQuery [7, 255] ∧
    (let s := up.setEntry 0 ⟨.filling 2047, List.replicate 320 (.request .read), false⟩;
      s.takes .lockerShare [0, 255, 7, 255] ∧ argWord [0, 255, 7, 255] 2 = (2047 : BandNo).val ∧
        s.entryOf 2047 = some 0 ∧ (s.entry 0).content = .filling 2047 ∧ 320 ≤ s.itemsHeld) := by decide +kernel

theorem witness_BandFill_commit :
    (let s := (up.setBand { up.band with format := some .draining }).setLane 3 { Lane.atReset with
        commit := some ⟨2047, 990, true⟩ };
      s.bandService = false ∧ (s.lane 3).commit = some ⟨2047, 990, true⟩) := by decide +kernel

/-! ### Store transfers -/

/-- `up` with a FETCH of band 5 for entry 3 in flight and one waiter. -/
def fetching (w : Waiter) : State :=
  asked ((moving (.fetch 3 5)).setBand { (moving (.fetch 3 5)).band with
    cache := up.band.cache.set 3 ⟨.filling 5, [w], false⟩ })

theorem witness_FetchCompletes :
    (let s := fetching (.request .read);
      s.band.inFlight = some ⟨.fetch 3 5, false⟩ ∧ s.bandService = true ∧ s.part.startup = .done ∧
        judgeRecord ((s.store.seen (256 + 32 * 5) 32 (some inside.encode)).bytes (256 + 32 * 5) 32) = some inside ∧
        s.link.outstanding = some ⟨0x17, 7⟩ ∧ (s.entry 3).waiters = [.request .read] ∧
        judgeRecord ((s.store.seen (256 + 32 * 5) 32 (some [9])).bytes (256 + 32 * 5) 32) = none) ∧
    ((fetching (.lookup 0 ⟨5, 9, 1, false, true⟩)).entry 3).waiters = [.lookup 0 ⟨5, 9, 1, false, true⟩] ∧
    (let s := fetching (.request (.issue 9 7 1440 0 255 3));
      (s.entry 3).waiters = [.request (.issue 9 7 1440 0 255 3)] ∧ (∀ k, (s.locker k).owner ≠ some 5) ∧
        (∀ k, (5 : BandNo) ∉ (s.locker k).companions) ∧ (∀ c, (s.cabin c).holder ≠ some 5) ∧
        .write 3 ∉ s.band.queue) := by decide +kernel

theorem witness_FetchCompletes_damaged :
    ((fetching (.commit 3 9)).entry 3).waiters = [.commit 3 9] ∧ Waiter.isIssue (.commit 3 9) = false ∧
    Waiter.isCheck (.commit 3 9) = false ∧ Waiter.isIssue (.request (.share 40)) = false ∧
    ((fetching (.request (.share 40))).entry 3).waiters = [.request (.share 40)] := by decide +kernel

/-- A FETCH of band 5 for entry 3 in flight at the ownership check of locker 40. -/
def checking (st : LockerState) (left : Nat) (w : Waiter) : State :=
  (((moving (.fetch 3 5)).setBand { (moving (.fetch 3 5)).band with
    cache := up.band.cache.set 3 ⟨.filling 5, [w], false⟩ }).setPart
      ⟨.starting, false, .ownership 40 (left + 1) Settings.default⟩).setLocker 40
        { Locker.atReset with state := st, owner := some 5, companions := [7, 5] }

theorem witness_FetchCompletes_ownership :
    (let s := checking .locked 1 (.ownerCheck 40);
      s.band.inFlight = some ⟨.fetch 3 5, false⟩ ∧ s.bandService = true ∧
        s.part = ⟨.starting, false, .ownership 40 (1 + 1) Settings.default⟩ ∧
        (s.entry 3).waiters = [.ownerCheck 40] ∧
        judgeRecord ((s.store.seen (256 + 32 * 5) 32 (some barred.encode)).bytes (256 + 32 * 5) 32) = some barred ∧
        judgeRecord ((s.store.seen (256 + 32 * 5) 32 (some returned.encode)).bytes (256 + 32 * 5) 32) = some returned ∧
        judgeRecord ((s.store.seen (256 + 32 * 5) 32 (some inside.encode)).bytes (256 + 32 * 5) 32) = some inside ∧
        judgeRecord ((s.store.seen (256 + 32 * 5) 32 (some [9])).bytes (256 + 32 * 5) 32) = none) ∧
    ((checking .opened 1 (.companionCheck 40)).entry 3).waiters = [.companionCheck 40] ∧
    (let s := checking .locked 0 (.ownerCheck 40);
      1 ≤ Settings.default.fittedStrings ∧
        ∀ j, 40 < j → (s.locker j).owner = none ∧ (s.locker j).companions = []) := by decide +kernel

theorem witness_FetchCompletes_served :
    ((holding issued).entry 3).content = .valid 5 issued ∧ issued.state = .issued ∧ barredOut.state = .barred ∧
    barredOut.beforeBar = some .issued ∧ inside.state ≠ .issued ∧
    bandRequestOf .bandTopup [0, 5, 255, 255] = some (.topup 65535) := by decide +kernel

/-- A FETCH in flight with three waiters, and another in the queue with two. -/
def waitingFetches : State := (moving (.fetch 3 5)).setBand { (moving (.fetch 3 5)).band with
  cache := (up.band.cache.set 3 ⟨.filling 5, [.lookup 283 ⟨5, 9, 1, false, false⟩, .commit 3 9,
    .lookup 0 ⟨5, 9, 1, false, true⟩], false⟩).set 31 ⟨.filling 6, [.lookup 7 ⟨6, 9, 1, false, false⟩], false⟩
  queue := [.write 1, .fetch 31] }

theorem witness_FetchCompletes_busy :
    (let s := waitingFetches.setPart ⟨.running, true, .done⟩;
      s.band.inFlight = some ⟨.fetch 3 5, false⟩ ∧ s.part.winding = true ∧
        ∀ e, ∀ w ∈ (s.entry e).waiters, w.isCheck = false) ∧
    (waitingFetches.setBand { waitingFetches.band with format := some .draining }).band.format.isSome = true := by
  decide +kernel

/-- A WRITE of band 5 in flight, with a queue and a reply that waits. -/
def writing (q : List PortRequest) (w : Option ReplyWait) : State :=
  asked ((moving (.write 3 5 inside.encode)).setBand { (moving (.write 3 5 inside.encode)).band with
    queue := q, replyWait := w })

theorem witness_WritesComplete :
    ((writing [] none).band.inFlight = some ⟨.write 3 5 inside.encode, false⟩ ∧ .write 3 ∉ (writing [] none).band.queue ∧
      (writing [] none).band.replyWait = none) ∧
    (writing [] (some ⟨.entry 3, .none, true⟩)).band.replyWait = some ⟨.entry 3, .none, true⟩ ∧
    (let s := writing [.write 3] (some ⟨.entry 3, .money 1 2, true⟩);
      .write 3 ∈ s.band.queue ∧ s.link.outstanding = some ⟨0x17, 7⟩ ∧
        s.band.replyWait = some ⟨.entry 3, .money 1 2, true⟩) ∧
    (.write 3 ∈ (writing [.write 3] none).band.queue ∧
      (writing [.write 3] (some ⟨.entry 3, .none, false⟩)).band.replyWait = some ⟨.entry 3, .none, false⟩) ∧
    (let s := (asked (moving (.headerWrite [1]))).setBand { (moving (.headerWrite [1])).band with
        replyWait := some ⟨.header, .none, true⟩ };
      s.link.outstanding = some ⟨0x17, 7⟩ ∧ s.band.replyWait = some ⟨.header, .none, true⟩) ∧
    (moving (.headerWrite [1])).band.replyWait = none ∧
    (asked (moving (.headerWrite [1]))).band.inFlight = some ⟨.headerWrite [1], false⟩ ∧
    (asked (moving (.mirrorWrite 255 69872 [1]))).band.inFlight = some ⟨.mirrorWrite 255 69872 [1], false⟩ ∧
    (let s := (moving (.formatWrite 0 [1])).setBand { (moving (.formatWrite 0 [1])).band with
        format := some (.writing 2303) };
      s.band.inFlight = some ⟨.formatWrite 0 [1], false⟩ ∧ s.band.format = some (.writing 2303) ∧
        2303 < s.tableLength + 256) ∧ up.tableLength + 256 ≤ 2304 := by decide +kernel

theorem witness_StoreFormats :
    (up.takes .storeFormat [0, 0] ∧ argWord [0, 0] 0 < 256) ∧ (2048 < argWord [9, 0] 0) ∧
    (up.takes .storeFormat [8, 0] ∧ argWord [8, 0] 0 = 256 * ((7 : Fin 8).val + 1) ∧ ∀ e, .fetch e ∉ up.band.queue) ∧
    argWord [1, 0] 0 = 256 * ((0 : Fin 8).val + 1) ∧ argWord [1, 1] 0 % 256 ≠ 0 ∧
    (let s := up.setBand { up.band with format := some .draining };
      s.band.port = .ready ∧ s.band.inFlight = none ∧ s.part.startup = .done ∧ s.band.format = some .draining) ∧
    (let s := up.setBand { up.band with format := some (.writing 2048) };
      2047 < s.tableLength ∧ s.band.format = some (.writing (2047 + 1))) ∧
    (let s := up.setBand { up.band with format := some (.writing 2304) };
      s.band.format = some (.writing (s.tableLength + 1 + (255 : LockerNo).val))) := by decide +kernel

theorem witness_StoreFormats_fetches : waitingFetches.takes .storeFormat [8, 0] ∧
    argWord [8, 0] 0 = 256 * ((7 : Fin 8).val + 1) ∧ .fetch 31 ∈ waitingFetches.band.queue ∧
    waitingFetches.band.inFlight.isSome = true ∧
    ∀ e, ∀ w ∈ (waitingFetches.entry e).waiters, w.isCheck = false := by decide +kernel

/-- A transfer that has been started again. -/
def again (x : Transfer) : State := (fetching (.request .read)).setBand
  { (fetching (.request .read)).band with inFlight := some ⟨x, true⟩ }

theorem witness_NoResponse :
    (moving .headerRead).band.inFlight = some ⟨.headerRead, false⟩ ∧
    (let s := again (.fetch 3 5);
      s.band.inFlight = some ⟨.fetch 3 5, true⟩ ∧ s.part.startup = .done ∧ s.bandService = true ∧
        s.band.replyWait = none ∧ (∀ e, .fetch e ∉ s.band.queue) ∧ s.link.outstanding = some ⟨0x17, 7⟩ ∧
        (s.entry 3).waiters = [.request .read]) ∧
    (again (.write 3 5 [])).band.inFlight = some ⟨.write 3 5 [], true⟩ ∧
    (again (.mirrorWrite 255 0 [])).band.inFlight = some ⟨.mirrorWrite 255 0 [], true⟩ := by decide +kernel

theorem witness_NoResponse_more :
    (let s := (again (.mirrorRead 255)).setPart ⟨.starting, false, .mirrorRead 255 Settings.default⟩;
      s.band.inFlight = some ⟨.mirrorRead 255, true⟩ ∧ s.part.startup ≠ .establishing ∧ s.part.startup ≠ .done) ∧
    (let s := (again (.headerWrite [1])).setBand { (again (.headerWrite [1])).band with
        replyWait := some ⟨.header, .none, true⟩, queue := [.headerWrite] };
      s.band.inFlight = some ⟨.headerWrite [1], true⟩ ∧ s.band.format = none ∧ s.part.winding = false ∧
        s.band.replyWait.isSome = true ∧ s.link.outstanding.isSome = true ∧ ∀ e, .fetch e ∉ s.band.queue) ∧
    (let s := (again (.mirrorWrite 255 0 [])).setBand { (again (.mirrorWrite 255 0 [])).band with
        queue := [.write 1] ++ .fetch 3 :: [.headerWrite] };
      s.band.replyWait = none ∧ s.band.queue = [.write 1] ++ .fetch 3 :: [.headerWrite] ∧
        (∀ f, PortRequest.fetch f ∉ [PortRequest.write 1] ++ [.headerWrite]) ∧ s.link.outstanding = some ⟨0x17, 7⟩ ∧
        (s.entry 3).waiters = [.request .read]) ∧
    ((fetching (.lookup 283 ⟨5, 9, 1, false, false⟩)).entry 3).waiters = [.lookup 283 ⟨5, 9, 1, false, false⟩] ∧
    (let s := (again (.formatWrite 0 [1])).setBand { (again (.formatWrite 0 [1])).band with
        format := some (.writing 0) };
      s.band.inFlight = some ⟨.formatWrite 0 [1], true⟩ ∧ s.band.format = some (.writing 0) ∧
        s.band.replyWait = none ∧ s.link.outstanding = some ⟨0x17, 7⟩ ∧ ∀ e, .fetch e ∉ s.band.queue) := by
  decide +kernel

theorem witness_NoResponse_waiters :
    (let s := (again (.fetch 3 5)).setEntry 3 ⟨.filling 5, [.commit 3 9], false⟩;
      s.band.format = none ∧ s.part.winding = false ∧ s.band.replyWait.isSome = false ∧
        (∀ e, .fetch e ∉ s.band.queue) ∧ (s.entry 3).waiters = [.commit 3 9]) ∧
    (let s := (again (.fetch 3 5)).setEntry 3 ⟨.filling 5, [.lookup 283 ⟨5, 9, 1, false, false⟩, .commit 3 9], false⟩;
      let t := s.setBand { s.band with format := some .draining };
      let v := s.setPart { s.part with winding := true };
      t.band.format = some .draining ∧ t.link.outstanding = some ⟨0x17, 7⟩ ∧ v.part.winding = true ∧
        v.part.startup = .done ∧ v.band.format = none ∧ v.band.replyWait = none ∧
        ∀ w ∈ (s.entry 3).waiters, w.isCheck = false) := by decide +kernel

/-! ### Presentations and reader lines -/

theorem witness_CheckOrder :
    (⟨5, 9, 1000, false, true⟩ : Presentation).superseded = true ∧ returned.state = .returned ∧
    barred.state = .barred ∧ issued.state = .issued ∧ issued.serial ≠ (⟨5, 8, 1000, false, false⟩ : Presentation).serial ∧
    issued.serial = (⟨5, 9, 1000, false, false⟩ : Presentation).serial ∧ issued.master = false ∧
    (({ issued with mask := 127 } : BandRecord).mask.getLsbD ((255 : LockerNo).val / 32) = false) ∧
    issued.mask.getLsbD ((255 : LockerNo).val / 32) = true ∧
    ({ issued with cabinRight := false } : BandRecord).cabinRight = false := by decide +kernel

theorem witness_CheckOrder_party :
    (let s := up.setLocker 255 { Locker.atReset with state := .locked, owner := some 7, companions := [8, 5] };
      (255 : HeadNo).val = (255 : LockerNo).val ∧ (s.locker 255).owner ≠ some 5 ∧ 5 ∈ (s.locker 255).companions) ∧
    ({ inside with master := true } : BandRecord).master = true ∧ inside.serial = 9 := by decide +kernel

theorem witness_CheckOrder_conclude :
    (headTarget 255 = .locker 255 ∧ headTarget 256 = .cabin 0 ∧ headTarget 280 = .lane 0 ∧ headTarget 281 = .lane 1) ∧
    up.settings.refusals = false ∧ up.settings.roles[(0 : LaneNo).val] = .entry ∧
    up.settings.roles[(1 : LaneNo).val] = .exit ∧ ({ Settings.default with refusals := true } : Settings).refusals = true ∧
    (up.head 255).state ≠ .offline ∧ ((up.setHead 3 ⟨.offline, 0, false, none, .a, .due⟩).head 3).state = .offline := by
  decide +kernel

theorem witness_AnswersTaken :
    (let s := polling up 283 false;
      (s.engine .a).poll = some ⟨283, false, none, false, false, 5⟩ ∧ s.part.winding = false ∧ s.slot 283 = none ∧
        s.inService 281 = true ∧ (s.engine .b).poll = none) ∧
    (let s := (polling up 255 true).setSlot 255 (some ⟨2047, 9, 1, true, false⟩);
      (s.engine .a).poll = some ⟨255, true, none, false, false, 5⟩ ∧
        s.slot 255 = some ⟨2047, 9, 1, true, false⟩ ∧ s.inService 255 = true) ∧
    (let s := (polling up 255 true).setSlot 255 (some ⟨2047, 9, 1, false, false⟩);
      s.slot 255 = some ⟨2047, 9, 1, false, false⟩) := by decide +kernel

theorem witness_PresentationOpens :
    (let s := (polling up 279 false).setSettings { Settings.default with tableUnits := 0 };
      (s.engine .a).poll = some ⟨279, false, none, false, false, 5⟩ ∧ (s.engine .b).poll = none ∧
        s.part = ⟨.running, false, .done⟩ ∧ s.band.format = none ∧ s.inService 279 = true ∧
        (s.head 279).state = .on .a ∧ s.slot 279 = none ∧ s.tableLength ≤ (256 : BandNo).val ∧
        s.settings.refusals = false ∧ (255 : BandNo).val < s.tableLength ∧ s.entryOf 255 = none ∧
        s.band.port ≠ .fault ∧ s.itemsHeld < 320 ∧ (s.entry 0).content = .empty) := by decide +kernel

theorem witness_PresentationOpens_more :
    (let s := polling up 279 false;
      (s.setPart ⟨.starting, false, .establishing⟩).part.part = .starting ∧
        (s.setPart ⟨.noStore, false, .done⟩).part.part = .noStore ∧
        (s.setBand { s.band with format := some .draining }).band.format.isSome = true) ∧
    (let s := (polling up 283 false).setSettings { Settings.default with fittedLanes := 4 };
      let t := s.setSlot 283 (some ⟨7, 9, 1, false, false⟩);
      t.slot 283 = some ⟨7, 9, 1, false, false⟩ ∧ t.inService 283 = true ∧
        ((7 : BandNo) ≠ 255 ∨ (9 : Serial) ≠ 1) ∧ t.entryOf 255 = none ∧ t.itemsHeld < 320 ∧
        (t.entry 0).content = .empty) := by decide +kernel

theorem witness_PollsUnanswered :
    (let s := polling up 5 false;
      (s.engine .a).poll = some ⟨5, false, none, false, false, 5⟩ ∧ s.part.winding = false ∧
        (s.head 5).miss + 1 < s.settings.missLimit) ∧
    (let s := (polling up 5 false).setHead 5 ⟨.on .a, 2, false, none, .a, .none⟩;
      s.settings.missLimit ≤ (s.head 5).miss + 1 ∧ (s.head 5).tried = false) ∧
    (let s := (polling up 5 false).setHead 5 ⟨.on .a, 2, true, none, .a, .none⟩;
      s.settings.missLimit ≤ (s.head 5).miss + 1 ∧ (s.head 5).tried = true ∧ s.slot 5 = none) ∧
    ((polling up 5 true).engine .a).poll = some ⟨5, true, none, false, false, 5⟩ := by decide +kernel

/-! ### Lockers -/

/-- `up` with string 0 not fitted. -/
def stringless : State := up.setString 0 ⟨.notFitted, [], .idle⟩

theorem witness_LockerRangeAndFlags :
    (up.takes .lockerOpen [1, 0] ∧ 255 < argWord [1, 0] 0) ∧
    (stringless.takes .lockerRead [0, 31] ∧ argWord [0, 31] 0 = (31 : LockerNo).val ∧
      (stringless.string (lockerString 31)).fitting ≠ .fitted) ∧
    (let s := lockerIs 255 { Locker.atReset with owner := some 1, companions := [2047] };
      s.takes .lockerUnshare [0, 255, 7, 255] ∧ argWord [0, 255, 7, 255] 0 = (255 : LockerNo).val ∧
        (s.string (lockerString 255)).fitting = .fitted ∧ argWord [0, 255, 7, 255] 2 = (2047 : BandNo).val ∧
        2047 < s.tableLength ∧ (2047 : BandNo) ∈ (s.locker 255).companions ∧
        s.tableLength ≤ argWord [0, 255, 8, 0] 2 ∧ (5 : BandNo) ∉ (s.locker 255).companions) ∧
    (up.takes .lockerWatch [0, 255, 1] ∧ argByte [0, 255, 1] 2 ≤ 1 ∧ 1 < argByte [0, 255, 2] 2) ∧
    (up.takes .stringClose [8] ∧ 7 < argByte [8] 0 ∧ stringless.takes .stringOpen [0] ∧
      argByte [0] 0 = (0 : Fin 8).val ∧ (stringless.string (lockerStringNo 0)).fitting ≠ .fitted) ∧
    (up.takes .stringOpen [7] ∧ argByte [7] 0 = (7 : Fin 8).val ∧ (up.string (lockerStringNo 7)).fitting = .fitted) := by
  decide +kernel

/-- Locker 40, as it stands, beside band 5 held in entry 3. -/
def beside (r : BandRecord) (l : Locker) : State := (holding r).setLocker 40 l

theorem witness_LockerAssignShare :
    (holding inside).Asks .lockerAssign [0, 40, 0, 5] 2 5 3 inside ∧
    (owning inside .opened).Asks .lockerAssign [0, 40, 0, 5] 2 5 3 inside ∧
    (beside inside { Locker.atReset with state := .opened, owner := some 2047, companions := [1, 2] }).Asks
      .lockerShare [0, 40, 0, 5] 2 5 3 inside ∧
    (beside inside { Locker.atReset with state := .opened, owner := some 2047, companions := [1, 2, 3] }).Asks
      .lockerShare [0, 40, 0, 5] 2 5 3 inside ∧
    (holding inside).Asks .lockerShare [0, 40, 0, 5] 2 5 3 inside :=
  ⟨asks_held (by decide +kernel), asks_held (by decide +kernel), asks_held (by decide +kernel),
    asks_held (by decide +kernel), asks_held (by decide +kernel)⟩

theorem witness_LockerAssignShare_tests :
    argWord [0, 40, 0, 5] 0 = (40 : LockerNo).val ∧ ((holding inside).string (lockerString 40)).fitting = .fitted ∧
    ((holding inside).locker 40).state = .vacant ∧ ((holding inside).locker 40).owner = none ∧
    (∀ j, ((holding inside).locker j).owner ≠ some 5) ∧ (∀ j, (5 : BandNo) ∉ ((holding inside).locker j).companions) ∧
    ((owning inside .opened).locker 40).state ≠ .vacant := by decide +kernel

theorem witness_LockerDesk :
    (lockerIs 255 { Locker.atReset with state := .locked, owner := some 2047 }).takes .lockerOpen [0, 255] ∧
    (lockerIs 255 { Locker.atReset with state := .opened, owner := some 2047 }).takes .lockerRelease [0, 255] ∧
    (lockerIs 255 { Locker.atReset with state := .abandoned }).takes .lockerRelease [0, 255] ∧
    (lockerIs 255 { Locker.atReset with state := .forced }).takes .lockerReset [0, 255] ∧
    argWord [0, 255] 0 = (255 : LockerNo).val ∧ (up.string (lockerString 255)).fitting = .fitted := by decide +kernel

theorem witness_LockerSuspendResume : up.takes .lockerSuspend [0, 0] ∧ argWord [0, 0] 0 = (0 : LockerNo).val ∧
    (up.string (lockerString 0)).fitting = .fitted ∧
    (lockerIs 0 { Locker.atReset with state := .suspended }).takes .lockerResume [0, 0] ∧
    ((lockerIs 0 { Locker.atReset with state := .suspended }).locker 0).state = .suspended := by decide +kernel

/-- An action under way at a locker. -/
def working (st : LockerState) (a : LockerAction) (prior : LockerState) (sub : SubPhase) : Locker :=
  { Locker.atReset with state := st, owner := some 5, work := some ⟨a, some 5, .owner, prior, sub⟩, window := some 800 }

theorem witness_LockerActionEnds :
    (let s := lockerIs 255 (working .locking .claim .vacant .confirming);
      (s.locker 255).work = some ⟨.claim, some 5, .owner, .vacant, .confirming⟩ ∧ (s.locker 255).window = some 800 ∧
        (s.locker 255).retryUsed = false ∧ (s.locker 255).state = .locking ∧ (s.locker 255).doorOpened = false) ∧
    (let s := lockerIs 255 { working .unlocking .release .locked .confirming with retryUsed := true };
      (s.locker 255).retryUsed = true ∧ (s.locker 255).state = .unlocking ∧ (s.locker 255).doorOpened = false) ∧
    (let s := lockerIs 0 { working .locking .lock .opened .confirming with doorOpened := true };
      (s.locker 0).state = .locking ∧ (s.locker 0).doorOpened = true) ∧
    (working .unlocking .claim .vacant .confirming).state = .unlocking := by decide +kernel

theorem witness_LockerContacts :
    (let s := lockerIs 255 { Locker.atReset with state := .abandoned };
      (s.locker 255).state = .abandoned ∧ (s.locker 255).work = none) ∧
    (let s := lockerIs 0 (working .unlocking .unlock .locked .queued);
      (s.locker 0).state = .unlocking ∧ (s.locker 0).work = some ⟨.unlock, some 5, .owner, .locked, .queued⟩) ∧
    (let s := lockerIs 0 (working .locking .claim .vacant .queued);
      (s.locker 0).state = .locking ∧ (s.locker 0).work = some ⟨.claim, some 5, .owner, .vacant, .queued⟩) ∧
    (let s := lockerIs 0 (working .locking .lock .opened .inFlight);
      (s.locker 0).work = some ⟨.lock, some 5, .owner, .opened, .inFlight⟩) ∧
    (let s := lockerIs 255 (working .unlocking .unlock .locked .confirming);
      (s.locker 255).work = some ⟨.unlock, some 5, .owner, .locked, .confirming⟩ ∧ (s.locker 255).state = .unlocking) ∧
    ((up.locker 0).work = none ∧ (up.locker 0).state ∈
      [LockerState.vacant, .opened, .suspended, .forced, .jammed]) := by decide +kernel

/-! ### Latch strings and contacts -/

/-- One command gives a next state that passes a test. -/
def shows (c : Instr) (s : State) (p : State → Bool) : Bool :=
  match exec c s with
  | .next t => p t
  | _ => false

/-- String 7 with a pulse of position 31 waiting, and locker 255 that waits for it. -/
def waiting : State := (lockerIs 255 (working .locking .claim .vacant .queued)).setString 7
  ⟨.fitted, [⟨31, .throw⟩], .idle⟩

/-- String 8 with a pulse of position 23 waiting, and cabin 23 that waits for it. -/
def waitingCabin : State := (cabinIs 23 { Cabin.atReset with
  state := .closing, work := some ⟨.claim, some 5, .owner, 1, .free, .queued⟩ }).setString 8
    ⟨.fitted, [⟨23, .throw⟩], .idle⟩

theorem witness_PulsesRun :
    ((waiting.string 7).driver = .idle ∧ (waiting.string 7).fitting = .fitted ∧
      (waiting.string 7).queue = ⟨31, .throw⟩ :: [] ∧ waiting.part.winding = false ∧ lockerString 255 = 7 ∧
      lockerPosition 255 = 31 ∧ (waiting.locker 255).work = some ⟨.claim, some 5, .owner, .vacant, .queued⟩) ∧
    ((waitingCabin.string 8).queue = ⟨23, .throw⟩ :: [] ∧ cabinPosition 23 = 23 ∧
      (waitingCabin.cabin 23).work = some ⟨.claim, some 5, .owner, 1, .free, .queued⟩) ∧
    (up.string 0).queue = [] ∧
    (let s := waiting.setString 7 ⟨.fitted, [], .pulsing ⟨31, .throw⟩ 120⟩;
      (s.string 7).driver = .pulsing ⟨31, .throw⟩ 120 ∧ s.part.winding = false ∧
        (s.locker 255).work = some ⟨.claim, some 5, .owner, .vacant, .queued⟩) ∧
    (let s := waitingCabin.setString 8 ⟨.fitted, [], .pulsing ⟨23, .throw⟩ 120⟩;
      (s.string 8).driver = .pulsing ⟨23, .throw⟩ 120) ∧
    ((up.setString 0 ⟨.fitted, [], .resting 200⟩).string 0).driver = .resting 200 := by decide +kernel

/-- R83: behind the RESTART reply a queue stays as it is, at a retry and at a door opening. -/
theorem test_winding_keeps_queue :
    (let s := (lockerIs 255 (working .locking .claim .vacant .confirming)).setPart ⟨.running, true, .done⟩;
      shows (.lockerConfirmExpiry 255) s (fun t => (t.string 7).queue == [])) ∧
    (let s := waiting.setPart ⟨.running, true, .done⟩;
      ((s.lockerDoorOpened 255).string 7).queue = [⟨31, .throw⟩]) := by decide +kernel

theorem witness_ScanSamples :
    (stringless.string 0).fitting = .notFitted ∧ (up.string 8).fitting = .fitted ∧
    (∀ p : Position, ((up.contacts 8).doors[p.val]).changes ((0xFFFFFF#32).getLsbD p.val) = false ∧
      ((up.contacts 8).bolts[p.val]).changes ((0#32).getLsbD p.val) = false) ∧
    (let x : StringContacts := ⟨Vector.ofFn (fun p => if p.val < 24
        then ((up.contacts 8).doors[p.val]).sample ((0xFFFFFF#32).getLsbD p.val) else (up.contacts 8).doors[p.val]),
        Vector.ofFn (fun p => if p.val < 24
          then ((up.contacts 8).bolts[p.val]).sample ((0#32).getLsbD p.val) else (up.contacts 8).bolts[p.val])⟩;
      ∀ p : Position, (p.val < 24 → x.doors[p.val] = ((up.contacts 8).doors[p.val]).sample
          ((0xFFFFFF#32).getLsbD p.val) ∧ x.bolts[p.val] = ((up.contacts 8).bolts[p.val]).sample
            ((0#32).getLsbD p.val)) ∧
        (24 ≤ p.val → x.doors[p.val] = (up.contacts 8).doors[p.val] ∧
          x.bolts[p.val] = (up.contacts 8).bolts[p.val])) := by decide +kernel

/-- What a scan keeps of each contact of a string. -/
def sampled (s : State) (i : StringNo) (doors bolts : BitVec 32) : StringContacts :=
  ⟨Vector.ofFn (fun p => if i.val < 8 ∨ p.val < 24
      then ((s.contacts i).doors[p.val]).sample (doors.getLsbD p.val) else (s.contacts i).doors[p.val]),
    Vector.ofFn (fun p => if i.val < 8 ∨ p.val < 24
      then ((s.contacts i).bolts[p.val]).sample (bolts.getLsbD p.val) else (s.contacts i).bolts[p.val])⟩

/-- Every scan of every string meets the two premises on what it keeps. -/
theorem witness_ScanSamples_sampled (s : State) (i : StringNo) (doors bolts : BitVec 32) :
    (∀ p : Position, (i.val < 8 ∨ p.val < 24) →
      (sampled s i doors bolts).doors[p.val] = ((s.contacts i).doors[p.val]).sample (doors.getLsbD p.val) ∧
      (sampled s i doors bolts).bolts[p.val] = ((s.contacts i).bolts[p.val]).sample (bolts.getLsbD p.val)) ∧
    (∀ p : Position, (i.val = 8 ∧ 24 ≤ p.val) →
      (sampled s i doors bolts).doors[p.val] = (s.contacts i).doors[p.val] ∧
      (sampled s i doors bolts).bolts[p.val] = (s.contacts i).bolts[p.val]) := by
  refine ⟨fun p h => ?_, fun p h => ?_⟩
  · simp [sampled, h]
  · have g : ¬(i.val < 8 ∨ p.val < 24) := by omega
    simp [sampled, g]

/-- `up` with the door and the bolt of one position about to change. -/
def changing (i : StringNo) (p : Position) : State := up.setContacts i
  ⟨(Vector.replicate 32 known).set p.val ⟨some false, some true, 0⟩,
    (Vector.replicate 32 known).set p.val ⟨some false, some true, 0⟩⟩

/-- A string whose contacts a scan of levels all clear establishes, but for those of one position. -/
def establishing (part : Part) (i : StringNo) (p : Position) (x : Contact) : State :=
  ((up.setPart part).setString i ⟨.establishing, [], .idle⟩).setContacts i
    ⟨Vector.replicate 32 ⟨none, some false, 0⟩, (Vector.replicate 32 ⟨none, some false, 0⟩).set p.val x⟩

theorem witness_ScanSamples_reports :
    (let s := changing 7 31;
      (s.string 7).fitting = .fitted ∧ lockerString 255 = 7 ∧ lockerPosition 255 = 31 ∧
        ((s.contacts 7).doors[31]).changes ((0x80000000#32).getLsbD 31) = true ∧
        ((s.contacts 7).bolts[31]).changes ((0x80000000#32).getLsbD 31) = true ∧
        ∀ q : Position, q ≠ 31 → ((s.contacts 7).doors[q.val]).changes ((0x80000000#32).getLsbD q.val) = false ∧
          ((s.contacts 7).bolts[q.val]).changes ((0x80000000#32).getLsbD q.val) = false) ∧
    (let s := changing 8 23;
      (s.string 8).fitting = .fitted ∧ cabinPosition 23 = 23 ∧
        ((s.contacts 8).doors[23]).changes ((0x800000#32).getLsbD 23) = true ∧
        ∀ q : Position, q ≠ 23 → ((s.contacts 8).doors[q.val]).changes ((0x800000#32).getLsbD q.val) = false ∧
          ((s.contacts 8).bolts[q.val]).changes ((0x800000#32).getLsbD q.val) = false) := by decide +kernel

theorem witness_ScanSamples_fitted :
    (let s := establishing ⟨.starting, false, .establishing⟩ 7 31 ⟨none, none, 23⟩;
      (s.string 7).fitting = .establishing ∧ s.part.startup = .establishing ∧
        (((s.contacts 7).bolts[31]).sample false).accepted = none ∧
        (∀ j : StringNo, j.val = 8 ∨ j.val < s.settings.fittedStrings → j = 7 ∨ (s.string j).fitting = .fitted) ∧
        ∀ q : Position, q ≠ 31 → (((s.contacts 7).bolts[q.val]).sample false).accepted = some false) ∧
    (((establishing ⟨.starting, false, .establishing⟩ 7 31 ⟨none, none, 24⟩).contacts 7).bolts[31].sample
      false).accepted = some false ∧
    (let s := establishing ⟨.noStore, false, .done⟩ 8 23 ⟨none, some true, 0⟩;
      (s.string 8).fitting = .establishing ∧ s.part.part = .noStore ∧
        (((s.contacts 8).bolts[23]).sample true).accepted = some true ∧
        ∀ d : CabinNo, d ≠ 23 → (((s.contacts 8).bolts[d.val]).sample false).accepted ≠ some true) := by
  decide +kernel

theorem witness_StringsFitted :
    (up.takes .stringsFitted [0] ∧ argByte [0] 0 = 0 ∧ 8 < argByte [9] 0 ∧ argByte [8] 0 = up.settings.fittedStrings) ∧
    (let s := lockerIs 255 { Locker.atReset with state := .opened };
      s.takes .stringsFitted [7] ∧ argByte [7] 0 ≤ (255 : LockerNo).val / 32 ∧
        (255 : LockerNo).val / 32 < s.settings.fittedStrings ∧ (s.locker 255).state ≠ .vacant ∧
        (s.locker 255).state ≠ .suspended) ∧
    (let s := stringless.setString 7 ⟨.notFitted, [], .idle⟩;
      let t := s.setSettings { Settings.default with fittedStrings := 7 };
      t.takes .stringsFitted [8] ∧ argByte [8] 0 = t.settings.fittedStrings + 1 ∧
        ∀ i : StringNo, i.val = t.settings.fittedStrings → (t.string i).fitting ≠ .fitted) := by decide +kernel

/-- A state behind the leaving of the heads that meet a test: `u` with those heads gone. -/
def leaving (s u : State) (left : HeadNo → Bool) : State :=
  let gone (e : Engine) : Engine := { e with poll := e.poll.map (fun p => { p with stale := p.stale || left p.head }) }
  { u with
    pres := Vector.ofFn (fun h => if left h = true then none else s.slot h)
    reader := ⟨Vector.ofFn (fun h => if left h = true then HeadRecord.atReset else s.head h),
      gone (s.engine .a), gone (s.engine .b)⟩
    band := { s.band with
      cache := s.band.cache.map (fun x => { x with waiters := x.waiters.map (s.markWaiter left) }) } }

/-- For every state there is one that the heads meeting a test have left. -/
theorem witness_headsLeft (s u : State) (left : HeadNo → Bool) : s.HeadsLeft (leaving s u left) left where
  slots h := by simp [leaving, State.slot]
  heads h := by simp [leaving, State.head]
  engines line := by cases line <;> simp [leaving, State.engine]
  waiters e := by simp [leaving, State.entry]

theorem witness_StringsFitted_lowered :
    (let s := lockerIs 255 { Locker.atReset with state := .suspended };
      s.takes .stringsFitted [7] ∧ 1 ≤ argByte [7] 0 ∧ argByte [7] 0 < s.settings.fittedStrings ∧
        s.settings.fittedStrings ≤ 8 ∧ ∀ k : LockerNo, argByte [7] 0 ≤ k.val / 32 →
          k.val / 32 < s.settings.fittedStrings → (s.locker k).state = .vacant ∨ (s.locker k).state = .suspended) := by
  decide +kernel

/-! ### Settings and reads -/

theorem witness_SettingsRequests :
    (up.takes .stringSettings [8, 1, 244, 3, 232, 11, 184] ∧ argByte [8, 1, 244, 3, 232, 11, 184] 0 = (8 : StringNo).val ∧
      argWord [8, 1, 244, 3, 232, 11, 184] 1 = 500 ∧ argWord [8, 1, 244, 3, 232, 11, 184] 3 = 1000 ∧
      argWord [8, 1, 244, 3, 232, 11, 184] 5 = 3000) ∧
    (8 < argByte [9, 1, 244, 3, 232, 11, 184] 0) ∧
    (up.takes .cabinSettings [14, 16, 7, 8, 3, 232] ∧ argWord [14, 16, 7, 8, 3, 232] 0 = 3600 ∧
      argWord [14, 16, 7, 8, 3, 232] 2 = 1800 ∧ argWord [14, 16, 7, 8, 3, 232] 4 = 1000) ∧
    ¬argWord [14, 17, 7, 8, 3, 232] 0 ≤ 3600 ∧ up.takes .journalOptions [1] ∧ 1 < argByte [2] 0 ∧
    (up.takes .readerSettings [20, 7] ∧ argByte [20, 7] 0 ≤ 20 ∧ argByte [20, 7] 1 ≤ 7 ∧ ¬2 ≤ argByte [1, 7] 0) := by
  decide +kernel

theorem witness_Reads :
    up.takes .lockerRead [0, 255] ∧ up.takes .stringRead [8] ∧ argByte [8] 0 = (8 : StringNo).val ∧ 8 < argByte [9] 0 ∧
    up.takes .cabinRead [23] ∧ argByte [23] 0 = (23 : CabinNo).val ∧ 23 < argByte [24] 0 ∧ up.takes .laneRead [3] ∧
    argByte [3] 0 = (3 : LaneNo).val ∧ 3 < argByte [4] 0 ∧ up.takes .headRead [1, 27] ∧
    argWord [1, 27] 0 = (283 : HeadNo).val ∧ 283 < argWord [1, 28] 0 ∧ up.takes .clockRead [] ∧
    up.takes .tariffRead [] := by decide +kernel

/-! ### Cabins -/

/-- A cabin that is HELD by band 5 until 1001, and then 1002. -/
def held : Cabin := { Cabin.atReset with
  state := .held, holder := some 5, due1 := some 1001, due2 := some 1002, link := some ⟨0, 0⟩ }

/-- `up` with the bolt of a cabin thrown. -/
def bolted (c : CabinNo) (x : Cabin) : State := (cabinIs c x).setContacts 8
  { up.contacts 8 with bolts := (up.contacts 8).bolts.set c.val thrown }

theorem witness_CabinRequests :
    (up.takes .cabinRelease [24] ∧ 23 < argByte [24] 0) ∧ argByte [23] 0 = (23 : CabinNo).val ∧
    (cabinIs 23 held).takes .cabinRelease [23] ∧ up.takes .cabinSuspend [23] ∧ up.takes .cabinResume [23] ∧
    (up.cabin 23).state ≠ .suspended ∧
    (let s := bolted 23 { Cabin.atReset with state := .suspended };
      s.takes .cabinResume [23] ∧ (s.cabin 23).state = .suspended ∧ s.boltThrown 8 (cabinPosition 23) = some true) ∧
    (let s := cabinIs 23 { Cabin.atReset with state := .suspended };
      s.takes .cabinResume [23] ∧ (s.cabin 23).state = .suspended ∧
        s.boltThrown 8 (cabinPosition 23) = some false) := by decide +kernel

/-- A cabin action under way. -/
def acting (st : CabinState) (a : CabinAction) (p : Party) (expiry : Bool) : Cabin := { Cabin.atReset with
  state := st, holder := some 5, work := some ⟨a, some 5, p, 990, .held, .confirming⟩, window := some 800
  expiryMark := expiry }

theorem witness_CabinActionEnds :
    (let s := cabinIs 23 (acting .closing .claim .owner false);
      (s.cabin 23).work = some ⟨.claim, some 5, .owner, 990, .held, .confirming⟩ ∧ (s.cabin 23).window = some 800 ∧
        (s.cabin 23).retryUsed = false ∧ (s.cabin 23).state = .closing ∧
        s.doorOpen 8 (cabinPosition 23) = some false ∧ (s.cabin 23).releaseMark = false ∧
        (1900 : Stamp).toNat = min 4294967295 (s.clock.value.toNat + s.settings.cabinLimit) ∧
        (2200 : Stamp).toNat = min 4294967295 ((1900 : Stamp).toNat + s.settings.cabinGrace) ∧
        s.clock.value.toNat < (1900 : Stamp).toNat) ∧
    (let s := (cabinIs 23 (acting .closing .claim .owner false)).setContacts 8
        { up.contacts 8 with doors := (up.contacts 8).doors.set 23 thrown };
      s.doorOpen 8 (cabinPosition 23) = some true) ∧
    ((acting .opening .opn .master false).state = .opening ∧ (acting .opening .release .desk true).expiryMark = true ∧
      (acting .opening .undo .desk false).link = none) ∧
    (acting .closing .claim .owner false).releaseMark = false ∧
    ({ acting .closing .claim .owner false with releaseMark := true } : Cabin).releaseMark = true ∧
    (let s := bolted 23 { acting .opening .opn .owner false with
        work := some ⟨.opn, some 5, .owner, 990, .held, .queued⟩ };
      (s.cabin 23).work = some ⟨.opn, some 5, .owner, 990, .held, .queued⟩ ∧ (s.cabin 23).state = .opening ∧
        s.boltThrown 8 (cabinPosition 23) = some true) ∧
    ((bolted 0 held).cabin 0).state = .held ∧ (bolted 0 held).boltThrown 8 (cabinPosition 0) = some true ∧
    (up.cabin 0).state = .free := by decide +kernel

/-! ### The site clock and the tariff -/

/-- A tariff whose class 2 is that of the worked case of section 6.5. -/
def evening : TariffTable := Settings.default.tariff.set 2 ⟨300, 15, 250, 1500⟩

/-- `up` at a clock value. -/
def atClock (v : Stamp) : State := up.setClock { up.clock with value := v }

theorem witness_TimersTick :
    ((∀ c, up.cabinQuiet c 1001) ∧ up.switchQuiet 1001) ∧
    (let s := cabinIs 23 held;
      (∀ d, d ≠ 23 → s.cabinQuiet d 1001) ∧ s.switchQuiet 1001 ∧ (s.cabin 23).state = .held ∧
        (s.cabin 23).due1 = some 1001 ∧ (s.cabin 23).due2 = some 1002 ∧ (1001 : Stamp).toNat ≤ (1001 : Stamp).toNat ∧
        (1001 : Stamp).toNat < (1002 : Stamp).toNat) := by decide +kernel

theorem witness_TimersTick_expiry :
    (let s := cabinIs 23 { held with state := .overdue, due2 := some 1001 };
      (∀ d, d ≠ 23 → s.cabinQuiet d 1001) ∧ s.switchQuiet 1001 ∧ (s.cabin 23).state = .overdue) ∧
    (let s := up.setClock { up.clock with pendingTable := some evening, switchStamp := some 1001 };
      (∀ c, s.cabinQuiet c 1001) ∧ s.clock.pendingTable = some evening ∧ s.clock.switchStamp = some 1001) ∧
    State.reset.clock.isSet = false := by decide +kernel

theorem witness_TimersTick_sets :
    ((49980 : Stamp).toNat = (if (atClock 49997).clock.value.toNat % 60 < 30
        then (atClock 49997).clock.value.toNat - (atClock 49997).clock.value.toNat % 60
        else (atClock 49997).clock.value.toNat + 60 - (atClock 49997).clock.value.toNat % 60) ∧
      (50040 : Stamp).toNat = (if (atClock 50010).clock.value.toNat % 60 < 30
        then (atClock 50010).clock.value.toNat - (atClock 50010).clock.value.toNat % 60
        else (atClock 50010).clock.value.toNat + 60 - (atClock 50010).clock.value.toNat % 60) ∧
      (∀ c, (atClock 49997).cabinQuiet c 49980) ∧ (atClock 49997).switchQuiet 49980) ∧
    (State.reset.link.outstanding = none ∧ (∀ c, State.reset.cabinQuiet c (argLong [255, 255, 255, 255] 0)) ∧
      State.reset.switchQuiet (argLong [255, 255, 255, 255] 0)) := by decide +kernel

/-- `up` with a pending tariff. -/
def staged : State := up.setClock { up.clock with pendingTable := some evening }

theorem witness_TariffRequests :
    (up.takes .tariffStage [7, 3, 132, 120, 19, 136, 255, 255] ∧
      argByte [7, 3, 132, 120, 19, 136, 255, 255] 0 = (7 : ClassNo).val ∧
      argWord [7, 3, 132, 120, 19, 136, 255, 255] 1 = 900 ∧ argByte [7, 3, 132, 120, 19, 136, 255, 255] 3 = 120 ∧
      argWord [7, 3, 132, 120, 19, 136, 255, 255] 4 = 5000 ∧ up.clock.pendingTable = none) ∧
    7 < argByte [8, 3, 132, 120, 19, 136, 255, 255] 0 ∧ ¬1 ≤ argByte [7, 3, 132, 0, 19, 136, 255, 255] 3 ∧
    staged.takes .tariffStage [0, 0, 0, 1, 0, 0, 0, 0] ∧ staged.clock.pendingTable = some evening ∧
    (staged.takes .tariffSwitch [0, 0, 0, 3, 232] ∧ (argLong [0, 0, 0, 3, 232] 1).toNat ≤ staged.clock.value.toNat ∧
      staged.clock.value.toNat < (argLong [0, 0, 0, 3, 233] 1).toNat ∧ argByte [1, 0, 0, 0, 0] 0 = 1 ∧
      1 < argByte [2, 0, 0, 0, 0] 0 ∧ staged.clock.isSet = true) ∧
    (staged.setClock { staged.clock with isSet := false }).takes .tariffSwitch [0, 0, 0, 0, 0] ∧
    up.takes .tariffSwitch [1, 0, 0, 0, 0] ∧ up.takes .tariffDiscard [] ∧ staged.takes .tariffDiscard [] := by
  decide +kernel

theorem witness_StayArithmetic :
    1 ≤ (⟨300, 15, 250, 1500⟩ : TariffClass).block ∧
    (let f := stayFigures 46530 36000 120 0 1300 ⟨300, 15, 250, 1500⟩;
      f.owed ≤ 1300 ∧ (⟨300, 15, 250, 1500⟩ : TariffClass).cap ≤ 65535) ∧
    (up.takes .stayQuery [8, 0] ∧ up.tableLength ≤ argWord [8, 0] 0) ∧
    (let s := up.setClock { up.clock with isSet := false };
      s.takes .stayQuery [7, 255] ∧ argWord [7, 255] 0 < s.tableLength ∧ s.clock.isSet = false) := by decide +kernel

theorem witness_StayArithmetic_asks : (holding inside).Asks .stayQuery [0, 5] 0 5 3 inside ∧
    (holding barred).Asks .stayQuery [0, 5] 0 5 3 barred ∧ (holding inside).clock.isSet = true ∧
    inside.entry = some 500 :=
  ⟨asks_held (by decide +kernel), asks_held (by decide +kernel), by decide +kernel, by decide⟩

/-! ### Gate lanes and the hall -/

/-- `up` with four lanes fitted and one lane record replaced. -/
def laneIs (l : LaneNo) (x : Lane) : State := (up.setSettings { Settings.default with fittedLanes := 4 }).setLane l x

/-- An arm of band 5. -/
def armed (inbound : Bool) : Lane := { Lane.atReset with
  arm := some ⟨some 5, 1008, inbound, 8⟩, link := some ⟨0, 0⟩, turnstile := true }

theorem witness_LaneRequests :
    (up.takes .laneService [3, 1] ∧ up.settings.fittedLanes ≤ argByte [3, 1] 0) ∧
    ((laneIs 3 Lane.atReset).takes .laneService [3, 1] ∧ ((laneIs 3 Lane.atReset).lane 3).service = false ∧
      ((laneIs 3 Lane.atReset).lane 3).arm = none) ∧
    ((laneIs 3 (armed false)).takes .laneService [3, 1] ∧ ((laneIs 3 (armed false)).lane 3).arm.isSome = true) ∧
    ((laneIs 3 { Lane.atReset with service := true }).takes .laneService [3, 0] ∧
      ((laneIs 3 { Lane.atReset with service := true }).lane 3).service = true) ∧
    (up.takes .laneSettings [5, 0, 1, 0, 1, 8] ∧ ¬argByte [5, 0, 1, 0, 1, 8] 0 ≤ 4) ∧
    ((laneIs 3 (armed false)).takes .laneSettings [4, 0, 1, 0, 0, 30] ∧ argByte [4, 0, 1, 0, 0, 30] 4 = 0 ∧
      (laneIs 3 (armed false)).settings.roles[3] = .exit) ∧
    (up.takes .laneSettings [4, 1, 1, 0, 1, 2] ∧ up.settings.fittedLanes ≤ argByte [4, 1, 1, 0, 1, 2] 0 ∧
      (∀ l : LaneNo, argByte [4, 1, 1, 0, 1, 2] (l.val + 1) ≤ 1) ∧ (up.lane 0).arm = none ∧
      (up.lane 0).commit = none) ∧
    (up.takes .capacitySet [3, 231, 50] ∧ argWord [3, 231, 50] 0 = 999 ∧ argByte [3, 231, 50] 2 ≤ 50 ∧
      ¬argWord [3, 232, 50] 0 ≤ 999) ∧
    up.takes .occupancySet [255, 255] := by decide +kernel

theorem witness_LaneRequests_lowered :
    (let s := laneIs 3 { Lane.atReset with service := true, beams := ⟨true, false⟩ };
      s.takes .laneSettings [3, 0, 1, 0, 1, 8] ∧ argByte [3, 0, 1, 0, 1, 8] 0 < s.settings.fittedLanes ∧
        s.settings.fittedLanes ≤ 4 ∧ ∀ l, (s.lane l).arm = none ∧ (s.lane l).commit = none) := by decide +kernel

theorem witness_BeamEdges :
    (up.settings.fittedLanes ≤ (2 : LaneNo).val ∧ (up.lane 1).beams.outer = false) ∧
    (((laneIs 3 { Lane.atReset with service := true }).lane 3).service = true ∧
      (3 : LaneNo).val < (laneIs 3 Lane.atReset).settings.fittedLanes) ∧
    (let s := laneIs 0 { armed true with phase := 3, beams := ⟨false, true⟩ };
      (s.lane 0).service = false ∧ (s.lane 0).beams.inner ≠ false ∧ (s.lane 0).phase + 1 = 4 ∧
        s.settings.roles[0] = .entry ∧ (s.lane 0).arm = some ⟨some 5, 1008, true, 8⟩) ∧
    (let s := laneIs 3 { armed false with phase := -3, beams := ⟨true, false⟩ };
      (s.lane 3).beams.outer ≠ false ∧ (s.lane 3).phase + (-1) = -4 ∧ s.settings.roles[3] = .exit ∧
        (s.lane 3).arm = some ⟨some 5, 1008, false, 8⟩) ∧
    (let s := (holding issued).setLane 0 { armed true with phase := 3, beams := ⟨false, true⟩ };
      (s.lane 0).arm = some ⟨some 5, 1008, true, 8⟩ ∧ (5 : BandNo).val < s.tableLength ∧ s.bandService = true ∧
        s.entryOf 5 = some 3 ∧ (s.entry 3).content = .valid 5 issued ∧ issued.state = .issued) := by decide +kernel

theorem witness_LaneTimers :
    (up.lane 3).commit = none ∧
    (let s := (holding barredOut).setLane 0 { Lane.atReset with commit := some ⟨5, 990, true⟩ };
      (s.lane 0).commit = some ⟨5, 990, true⟩ ∧ (5 : BandNo).val < s.tableLength ∧ s.bandService = true ∧
        s.entryOf 5 = some 3 ∧ (s.entry 3).content = .valid 5 barredOut ∧ barredOut.state = .barred ∧
        barredOut.beforeBar = some .issued) ∧
    (up.lane 3).arm = none ∧ ((laneIs 3 (armed false)).lane 3).arm.isSome = true := by decide +kernel

/-- Neither band of these arms and commits is held: the passage and the retry send a commit that starts a fill, or that
ends STORE. -/
theorem witness_commits_not_held :
    (let s := laneIs 0 { armed true with phase := 3, beams := ⟨false, true⟩ };
      (s.lane 0).arm = some ⟨some 5, 1008, true, 8⟩ ∧ s.bandService = true ∧ s.entryOf 5 = none ∧
        s.band.port ≠ .fault ∧ s.itemsHeld < 320 ∧ (s.entry 0).content = .empty) ∧
    (let s := (faulty up).setLane 3 { Lane.atReset with commit := some ⟨2047, 990, true⟩ };
      (s.lane 3).commit = some ⟨2047, 990, true⟩ ∧ s.bandService = true ∧ (2047 : BandNo).val < s.tableLength ∧
        s.entryOf 2047 = none ∧ s.band.port = .fault) ∧
    (let s := (up.setEntry 0 ⟨.filling 1, List.replicate 320 (.request .read), false⟩).setLane 3
        { Lane.atReset with commit := some ⟨2047, 990, true⟩ };
      s.entryOf 2047 = none ∧ s.band.port ≠ .fault ∧ 320 ≤ s.itemsHeld) := by decide +kernel

/-- R131, R6: a passage of an armed band that is not held records the commit and starts a fill. -/
theorem test_passage_not_held :
    shows (.beamEdge 0 .inner false) (laneIs 0 { armed true with phase := 3, beams := ⟨false, true⟩ }) (fun t =>
      (t.lane 0).commit == some ⟨5, 1000, false⟩ && (t.entry 0).waiters == [.commit 0 1000]) = true := by decide +kernel

/-- Band 5 is read at a head. -/
def atHead (r : BandRecord) (h : HeadNo) : State := polling (holding r) h false

theorem presents_held {r : BandRecord} {h : HeadNo} (hr : r.state = .issued ∨ r.state = .inside)
    (hz : (h.val < 256 ∧ r.mask.getLsbD (h.val / 32) = true) ∨ (256 ≤ h.val ∧ h.val < 280 ∧ r.cabinRight = true) ∨
      280 ≤ h.val) (hm : r.master = false) (hs : (atHead r h).inService h = true) (he : (atHead r h).slot h = none)
    (ho : ((atHead r h).head h).state = .on .a) (hv : (atHead r h).entryOf 5 = some 3) :
    (atHead r h).Presents .a h 5 r 3 where
  polled := ⟨none, false, 5, rfl⟩
  other q hq := by cases hq
  online := ⟨_, ho⟩
  running := rfl
  unformatted := rfl
  served := hs
  empty := he
  below := by show (5 : BandNo).val < 256 * (7 + 1); decide
  entry := hv
  content := rfl
  state := hr
  zone := hz
  notMaster := hm

theorem witness_GrantsAtHeads :
    (atHead inside 255).Presents .a 255 5 inside 3 ∧ (atHead inside 279).Presents .a 279 5 inside 3 ∧
    (atHead issued 280).Presents .a 280 5 issued 3 ∧ (atHead inside 281).Presents .a 281 5 inside 3 := by
  refine ⟨presents_held ?_ ?_ ?_ ?_ ?_ ?_ ?_, presents_held ?_ ?_ ?_ ?_ ?_ ?_ ?_, presents_held ?_ ?_ ?_ ?_ ?_ ?_ ?_,
    presents_held ?_ ?_ ?_ ?_ ?_ ?_ ?_⟩ <;> decide +kernel

theorem witness_GrantsAtHeads_tests :
    (let s := atHead inside 255;
      s.clock.isSet = true ∧ (∀ k, (s.locker k).owner ≠ some 5) ∧ (∀ k, (5 : BandNo) ∉ (s.locker k).companions) ∧
        (∀ c, (s.cabin c).holder ≠ some 5) ∧ (255 : HeadNo).val = (255 : LockerNo).val ∧
        (s.locker 255).state = .vacant ∧ s.lockers.closed[(255 : LockerNo).val / 32] = false ∧
        s.doorOpen (lockerString 255) (lockerPosition 255) = some false) ∧
    (let s := atHead inside 279;
      (279 : HeadNo).val = 256 + (23 : CabinNo).val ∧ (s.cabin 23).state = .free ∧
        s.doorOpen 8 (cabinPosition 23) = some false) ∧
    (let s := atHead issued 280;
      (280 : HeadNo).val = 280 + (0 : LaneNo).val ∧ (s.lane 0).service = false ∧ (s.lane 0).arm = none ∧
        s.clock.value.toNat + s.settings.armWindow ≤ 4294967295 ∧ s.settings.roles[0] = .entry ∧
        (s.lane 0).commit = none ∧ s.lanes.full = false ∧ ∀ m : LaneNo, (s.lane m).arm = none) ∧
    (let s := atHead inside 281;
      (281 : HeadNo).val = 280 + (1 : LaneNo).val ∧ s.settings.roles[1] = .exit ∧
        (stayFigures s.clock.value 500 60 0 100 s.settings.tariff[2]).owed ≤ inside.credit) := by decide +kernel

/-- Band 5 at an exit lane, with an OPENED locker and a place as a companion. -/
def leavingHall : State := ((atHead inside 281).setLocker 40 { Locker.atReset with
  state := .opened, owner := some 5, companions := [7] }).setLocker 41 { Locker.atReset with
    state := .locked, owner := some 8, companions := [9, 5] }

theorem witness_GrantsAtHeads_owner : leavingHall.Presents .a 281 5 inside 3 ∧
    (∀ c, (leavingHall.cabin c).holder ≠ some 5) ∧
    (∀ k, (leavingHall.locker k).owner = some 5 → (leavingHall.locker k).state = .opened) ∧
    (leavingHall.locker 40).owner = some 5 ∧ 5 ∈ (leavingHall.locker 41).companions := by
  have h := witness_GrantsAtHeads.2.2.2
  refine ⟨⟨h.polled, h.other, h.online, h.running, h.unformatted, ?_, h.empty, h.below, ?_, h.content, h.state, h.zone,
    h.notMaster⟩, ?_, ?_, ?_, ?_⟩ <;> decide +kernel

/-- R62, R133: the exit makes the OPENED locker VACANT and takes the band off the companion list. -/
theorem test_exit_leaves_lockers :
    shows (.pollAnswer .a 281 (goodAnswer 281 (.present 5 9))) leavingHall (fun t =>
      (t.locker 40).state == .vacant && (t.locker 40).owner == none && (t.locker 41).companions == [9]) = true := by
  decide +kernel

/-! ### The journal -/

/-- `up` with the journal at a position, an entry in the slot there. -/
def ringAt (p : SlotNo) (x : Option JournalEntry) : State :=
  up.setJournal { up.journal with ring := up.journal.ring.set p.val x, pos := p, lap := 7 }

theorem witness_JournalWrites :
    (let s := ringAt 511 (some ⟨6, .cabin 3, some 1500, .owner, .cabinClaim, 69100, none⟩);
      s.part.winding = false ∧ s.journal.ring[s.journal.pos.val] =
        some ⟨6, .cabin 3, some 1500, .owner, .cabinClaim, 69100, none⟩) ∧
    (let s := ringAt 255 (some ⟨6, .cabin 3, some 1500, .owner, .cabinClaim, 69100, some (7, .done)⟩);
      s.journal.ring[s.journal.pos.val] =
        some ⟨6, .cabin 3, some 1500, .owner, .cabinClaim, 69100, some (7, .done)⟩) ∧
    up.journal.ring[up.journal.pos.val] = none ∧ (∀ k, (up.locker k).watch = false) ∧
    (up.takes .journalRead [1, 255, 8] ∧ argWord [1, 255, 8] 0 = (511 : SlotNo).val ∧ argByte [1, 255, 8] 2 = 8) ∧
    (511 < argWord [2, 0, 1] 0 ∧ 8 < argByte [0, 0, 9] 2) := by decide +kernel

theorem witness_JournalWrites_watch :
    (let s := (ringAt 511 (some ⟨6, .locker 255, none, .desk, .claim, 69100, none⟩)).setLocker 255
        { Locker.atReset with watch := true };
      s.part.winding = false ∧ (s.locker 255).watch = true ∧ s.journal.ring[s.journal.pos.val] =
        some ⟨6, .locker 255, none, .desk, .claim, 69100, none⟩) := by decide +kernel

/-! ### The target rules -/

theorem witness_TargetRules_locker :
    (lockerIs 255 { Locker.atReset with state := .jammed }).locker 255 = { Locker.atReset with state := .jammed } ∧
    (let s := lockerIs 0 (working .locking .claim .vacant .queued);
      (s.locker 0).state = .locking ∧ (s.locker 0).work = some ⟨.claim, some 5, .owner, .vacant, .queued⟩) ∧
    (working .locking .claim .vacant .inFlight).work = some ⟨.claim, some 5, .owner, .vacant, .inFlight⟩ ∧
    (up.locker 255).state = .vacant ∧
    (let l := (lockerIs 255 { Locker.atReset with state := .locked, owner := some 5, companions := [2047] }).locker 255;
      l.state = .locked ∧ l.owner = some 5 ∧ l.owner ≠ some 2047 ∧ (2047 : BandNo) ∈ l.companions ∧
        l.owner ≠ some 7 ∧ (7 : BandNo) ∉ l.companions) ∧
    ({ inside with master := true } : BandRecord).master = true ∧ inside.master = false ∧
    ((owning inside .opened).locker 40).state = .opened ∧ ((owning inside .opened).locker 40).owner = some 5 ∧
    (let l := (lockerIs 0 { Locker.atReset with state := .abandoned }).locker 0;
      l.state = .abandoned ∧ l.owner ≠ some 5 ∧ (5 : BandNo) ∉ l.companions) := by decide +kernel

theorem witness_TargetRules_cabin :
    ((cabinIs 23 { Cabin.atReset with state := .suspended }).cabin 23).state = .suspended ∧
    ((waitingCabin.cabin 23).state = .closing ∧
      (waitingCabin.cabin 23).work = some ⟨.claim, some 5, .owner, 1, .free, .queued⟩) ∧
    (let s := cabinIs 23 { held with state := .opening, work := some ⟨.opn, some 5, .owner, 1, .held, .queued⟩ };
      (s.cabin 23).state = .opening ∧ (s.cabin 23).work = some ⟨.opn, some 5, .owner, 1, .held, .queued⟩ ∧
        s.clock.value = 1000 ∧ (s.cabin 23).due1 = some 1001 ∧ (s.cabin 23).due2 = some 1002) ∧
    ((up.cabin 0).state = .free ∧ up.clock.isSet = true ∧ State.reset.clock.isSet = false ∧
      0 < up.settings.fittedLanes ∧ issued.state ≠ .inside ∧ inside.state = .inside ∧
      (∀ d, (up.cabin d).holder ≠ some 5) ∧ up.doorOpen 8 (cabinPosition 0) = some false) ∧
    ((cabinIs 23 held).cabin 23).holder = some 5 ∧ ((cabinIs 23 held).cabin 23).state = .held := by decide +kernel

theorem witness_TargetRules_lane :
    ((laneIs 3 { Lane.atReset with service := true }).lane 3).service = true ∧
    (let s := laneIs 2 (armed true);
      (s.lane 2).service = false ∧ s.settings.roles[(2 : LaneNo).val] = .entry ∧ (s.lane 2).arm.isSome = true ∧
        (s.lane 0).arm = none ∧ (s.lane 0).commit = none ∧ s.settings.roles[(0 : LaneNo).val] = .entry ∧
        (2 : LaneNo) ≠ 0 ∧ (s.lane 2).arm = some ⟨some 5, 1008, true, 8⟩) ∧
    (let s := up;
      s.clock.value.toNat + s.settings.armWindow ≤ 4294967295 ∧ (∀ m, (s.lane m).arm = none) ∧
        s.lanes.full = false ∧ (s.setLanes { s.lanes with full := true }).lanes.full = true) ∧
    ((laneIs 3 (armed false)).lane 3).arm.isSome = true ∧ up.settings.roles[(1 : LaneNo).val] = .exit ∧
    (up.lane 1).service = false ∧ ((cabinIs 23 held).cabin 23).holder = some 5 ∧
    (let s := owning inside .jammed;
      (s.locker 40).owner = some 5 ∧ (∀ j, j ≠ 40 → (s.locker j).owner ≠ some 5) ∧ (s.locker 40).state ≠ .opened) ∧
    (let s := (up.setClock ⟨36000, true, none, none⟩).setSettings { Settings.default with tariff := evening };
      ({ inside with credit := 0 } : BandRecord).credit < (stayFigures s.clock.value 500 inside.paid inside.settled 0
        s.settings.tariff[inside.cls.val]).owed) := by decide +kernel

/-! ### Single steps, with results taken from the manual -/

/-- No word spells a command: the table gives no row any bits. -/
theorem test_no_word : decodeTableWord 8 0x17 = none ∧ decodeTableWord 0 0 = none := by decide

/-- Power-on leaves the header read in flight and engine A polling head 280, as `State.reset` has them (R171, R153). -/
theorem test_power_on : shows .powerOn State.reset (fun t => t.band.port == State.reset.band.port &&
    t.band.inFlight == State.reset.band.inFlight && t.reader.engineA == State.reset.reader.engineA &&
    t.reader.engineB == State.reset.reader.engineB && t.link.sending == none) = true := by decide +kernel

/-- The check value of the CRC-8 and the CRC-16 of 1.1.1 and 10.1.1: the catalogued checks of the bytes 31h to 39h. -/
theorem test_checks : crc8 [0x31, 0x32, 0x33, 0x34, 0x35, 0x36, 0x37, 0x38, 0x39] = 0xF4 ∧
    crc16 [0x31, 0x32, 0x33, 0x34, 0x35, 0x36, 0x37, 0x38, 0x39] = 0x29B1 := by decide +kernel

/-- The cases of section 6.5: an exit refused and granted, the cap with a settled amount, a clock set back, saturation
and a tariff switch. -/
theorem test_stay_cases :
    stayFigures 46512 36000 120 0 800 ⟨300, 15, 250, 1500⟩ = ⟨46512, 10512, 7500, 3012, 4, 1000, 0, 1000, 800⟩ ∧
    stayFigures 47112 36000 120 0 1300 ⟨300, 15, 250, 1500⟩ = ⟨47112, 11112, 7500, 3612, 5, 1250, 0, 1250, 1300⟩ ∧
    stayFigures 110040 100000 60 1500 0 ⟨300, 15, 250, 1500⟩ = ⟨110040, 10040, 3900, 6140, 7, 1500, 1500, 0, 0⟩ ∧
    stayFigures 35995 36000 30 0 0 ⟨300, 15, 250, 1500⟩ = ⟨35995, 0, 2100, 0, 0, 0, 0, 0, 0⟩ ∧
    (stayFigures 4000000 0 0 0 0 ⟨0, 1, 5000, 65535⟩).blocks = 65535 ∧
    (stayFigures 4000000 0 0 0 0 ⟨0, 1, 5000, 65535⟩).owed = 65535 ∧
    (stayFigures 64800 54000 60 0 2000 ⟨600, 30, 200, 1200⟩).owed = 800 ∧
    (stayFigures 64800 54000 60 0 2000 ⟨600, 30, 300, 1200⟩).owed = 1200 := by decide +kernel

/-- The bounce of section 4.6: the fifth sample is accepted, and none before it. -/
theorem test_bounce :
    let after (samples : List Bool) : Contact := samples.foldl (fun x v => x.sample v) ⟨some false, some false, 0⟩
    (after [false, true, false, true]).accepted = some false ∧
      (after [false, true, false, true]).changes true = true ∧
      (after [false, true, false, true, true]).accepted = some true := by decide +kernel

/-- BAND TOPUP by 500 of a credit of 800 gives 1,300 (6.5), and SETTLE stops at 65535 (R22). -/
theorem test_topup : shows (.bandTopup 1 [0, 5, 1, 244]) (holding { inside with credit := 800 })
    (fun t => (t.entry 3).content == .valid 5 { inside with credit := 1300 }) = true := by decide +kernel

theorem test_settle_saturates : shows (.bandSettle 1 [0, 5, 1, 244]) (holding { inside with settled := 65500 })
    (fun t => (t.entry 3).content == .valid 5 { inside with settled := 65535 }) = true := by decide +kernel

/-- The seventh row of section 7.6: the inner beam clears at phase +3, the 400th visitor is in and the hall is
full. -/
theorem test_hall_fills :
    let s := (((holding issued).setLane 0 { armed true with phase := 3, beams := ⟨false, true⟩ }).setLanes
      { ((holding issued).setLane 0 { armed true with phase := 3, beams := ⟨false, true⟩ }).lanes with
        occupancy := 399 })
    shows (.beamEdge 0 .inner false) s (fun t => t.lanes.occupancy == 400 && t.lanes.full &&
      (t.lane 0).phase == 0 && (t.lane 0).arm == none && !(t.lane 0).turnstile &&
      (t.entry 3).content == .valid 5 { issued with state := .inside, entry := some 1000 }) = true := by decide +kernel

/-- The same edge once the arm timer has run out is a TAILGATE, and the band stays ISSUED (7.6). -/
theorem test_tailgate :
    shows (.beamEdge 0 .inner false) ((holding issued).setLane 0 { Lane.atReset with
      phase := 3, beams := ⟨false, true⟩ }) (fun t => t.lanes.occupancy == 1 &&
        t.link.sending == some ⟨.notice ⟨.tailgate, .lane 0, 1000⟩, 5⟩ &&
        (t.entry 3).content == .valid 5 issued) = true := by decide +kernel

/-- The hold of cabin 5 in chapter 5: OVERDUE at 40,901. -/
theorem test_overdue :
    let s := (cabinIs 5 { Cabin.atReset with
      state := .held
      holder := some 1200
      due1 := some 40901
      due2 := some 41201 }).setClock ⟨40900, true, none, none⟩
    shows .secondTimerExpiry s (fun t => (t.cabin 5).state == .overdue && t.clock.value == 40901 &&
      t.link.sending == some ⟨.notice ⟨.cabinOverdue, .cabin 5, 40901⟩, 5⟩) = true := by decide +kernel

/-- A remainder of 30 is taken forwards and one of 29 backwards (R114). -/
theorem test_minute_pulse : snapped 90 = 120 ∧ snapped 89 = 60 ∧ snapped 120 = 120 ∧
    shows .minutePulse (up.setClock ⟨90, true, none, none⟩) (fun t => t.clock.value == 120) = true := by decide +kernel

end Sys2Proof.Tests
end

section
/-!
PROOF. LOCKER SUSPEND and LOCKER RESUME (R71) are one operation read in two directions: a locker in one state enters
another, and in any other state the request is replied STATE. The lemmas about locker requests (R65) and the replies
of a request just taken (R162) serve the other locker requests too.
-/

namespace Sys2Proof.Machine

/-! ### The locker a request names (R65) -/

/-- A member of a range lies in it. -/
@[simp] theorem inRangeOf_val {n : Nat} (i : Fin n) : inRangeOf n i.val = some i := by
  simp [inRangeOf]

/-- A request that names a locker on a fitted string is served at that locker (R65). -/
theorem State.lockerRequest_fitted {s : State} {body : List Byte} {k : LockerNo} (hk : argWord body 0 = k.val)
    (hf : (s.string (lockerString k)).fitting = .fitted) (serve : LockerNo → State) :
    s.lockerRequest body serve = serve k := by
  have hs : s.stringFitted (lockerString k) = true := by simp [State.stringFitted, hf]
  simp [State.lockerRequest, hk, hs]

/-! ### The state a taken request finds -/

@[simp] theorem State.taken_locker (s : State) (r : Request) (tag : Byte) (k : LockerNo) :
    (s.taken r tag).locker k = s.locker k := rfl

@[simp] theorem State.taken_string (s : State) (r : Request) (tag : Byte) (i : StringNo) :
    (s.taken r tag).string i = s.string i := rfl

/-- A reply without data given at once (R162). -/
theorem State.taken_answer (s : State) (r : Request) (tag : Byte) (res : Result) :
    (s.taken r tag).answer res = (s.taken r tag).replied tag res .none :=
  State.answer_outstanding (s.taken_outstanding r tag) res

/-- A reply without data behind a change of one locker (R162). -/
theorem State.taken_setLocker_answer (s : State) (r : Request) (tag : Byte) (k : LockerNo) (l : Locker)
    (res : Result) :
    ((s.taken r tag).setLocker k l).answer res = ((s.taken r tag).setLocker k l).replied tag res .none :=
  State.answer_outstanding (State.setLocker_outstanding (s.taken r tag) k l) res

/-! ### A locker moved between two states at once (R71) -/

/-- A locker in the state `src` enters `dst` and OK is replied; in any other state STATE is. -/
def State.moveLocker (s : State) (k : LockerNo) (src dst : LockerState) : State :=
  if (s.locker k).state = src then (s.setLocker k { s.locker k with state := dst, dirty := true }).answer .ok
  else s.answer .state

/-- A taken request that moves a locker on a fitted string, from its arrival to its reply (R65, R71, R161). -/
theorem State.arrive_moveLocker {s : State} {r : Request} {body : List Byte} {k : LockerNo}
    (hk : argWord body 0 = k.val) (hf : (s.string (lockerString k)).fitting = .fitted) (ht : s.takes r body)
    (tag : Byte) (src dst : LockerState) :
    s.arrive r tag body (fun t => t.lockerRequest body (fun j => t.moveLocker j src dst)) =
      if (s.locker k).state = src
        then ((s.taken r tag).setLocker k { s.locker k with state := dst, dirty := true }).replied tag .ok .none
        else (s.taken r tag).replied tag .state .none := by
  have hf' : ((s.taken r tag).string (lockerString k)).fitting = .fitted := by simpa using hf
  rw [State.arrive_takes ht, State.lockerRequest_fitted hk hf', State.moveLocker, State.taken_locker,
    State.taken_setLocker_answer, State.taken_answer]

/-! ### The two commands, and a claim between them -/

/-- LOCKER SUSPEND moves the locker from VACANT to SUSPENDED. -/
theorem exec_lockerSuspend_eq (tag : Byte) (body : List Byte) (s : State) :
    exec (.lockerSuspend tag body) s = .next (s.arrive .lockerSuspend tag body (fun t =>
      t.lockerRequest body (fun k => t.moveLocker k .vacant .suspended))).arbitrate := rfl

/-- LOCKER RESUME moves the locker from SUSPENDED to VACANT. -/
theorem exec_lockerResume_eq (tag : Byte) (body : List Byte) (s : State) :
    exec (.lockerResume tag body) s = .next (s.arrive .lockerResume tag body (fun t =>
      t.lockerRequest body (fun k => t.moveLocker k .suspended .vacant))).arbitrate := rfl

/-- The target rules refuse every band at a SUSPENDED locker before any other test (R49, R71). -/
theorem State.lockerRules_suspended {s : State} {k : LockerNo} (h : (s.locker k).state = .suspended) (b : BandNo)
    (rec : BandRecord) (arrival : Stamp) : s.lockerRules k b rec arrival = (.refuse .lockerSuspended, s) := by
  simp [State.lockerRules, h]

/-- Settles O42: both commands are the one move of a locker, read in its two directions. -/
theorem lockerSuspendResume : Obligations.LockerSuspendResume := by
  refine ⟨fun s k b rec arrival h => ?_, fun s tag body k hk hf => ⟨fun ht => ?_, fun ht => ?_⟩⟩
  · simp [State.targetRules, State.lockerRules_suspended h]
  · rw [exec_lockerSuspend_eq, State.arrive_moveLocker hk hf ht]
  · rw [exec_lockerResume_eq, State.arrive_moveLocker hk hf ht]

end Sys2Proof.Machine
end

section
/-!
PROOF. The stay arithmetic (R120 to R122) and STAY QUERY (R124). The arithmetic is read stage by stage; its one fact
with content is stage 4, where rounding up is adjoint to multiplication: the blocks are at most `n` just where `n`
blocks cover the excess, or `n` reaches the bound. STAY QUERY goes through two lemmas that serve every host request
whose band is held and whose service leaves the record as it was.
-/

namespace Sys2Proof.Machine

/-! ### The stages of the stay arithmetic (R120, R121) -/

section
variable (now e : Stamp) (paid settled credit : Nat) (t : TariffClass)

/-- The test of stages 3 and 6 in front of a subtraction is that of a subtraction that stops at 0. -/
theorem ite_lt_sub (a b : Nat) : (if a < b then b - a else 0) = b - a := by
  split <;> omega

/-- Stage 1: the time since the entry stamp. -/
theorem stayFigures_elapsed : (stayFigures now e paid settled credit t).elapsed =
    if e.toNat ≤ now.toNat then now.toNat - e.toNat else 0 := rfl

/-- Stage 2: the paid minutes and the grace. -/
theorem stayFigures_allowance : (stayFigures now e paid settled credit t).allowance = paid * 60 + t.grace := rfl

/-- Stage 3: what the time has above the allowance. -/
theorem stayFigures_excess :
    let f := stayFigures now e paid settled credit t
    f.excess = f.elapsed - f.allowance := ite_lt_sub _ _

/-- Stage 4: the excess in blocks, rounded up and held at 65535. -/
theorem stayFigures_blocks :
    let f := stayFigures now e paid settled credit t
    f.blocks = min 65535 (f.excess ⌈/⌉ (t.block * 60)) :=
  congrArg (min 65535) (Nat.ceilDiv_eq_add_pred_div ..).symm

/-- Stage 5: the price of the blocks, up to the cap. -/
theorem stayFigures_charge :
    let f := stayFigures now e paid settled credit t
    f.charge = min (f.blocks * t.price) t.cap := rfl

/-- Stage 6: what the charge has above the settled amount. -/
theorem stayFigures_owed :
    let f := stayFigures now e paid settled credit t
    f.owed = f.charge - settled := ite_lt_sub _ _

variable {t}

/-- The blocks are at most `n` just where `n` reaches their bound or `n` blocks cover the excess (R121, stage 4). -/
theorem stayFigures_blocks_le_iff (hb : 1 ≤ t.block) (n : Nat) :
    let f := stayFigures now e paid settled credit t
    f.blocks ≤ n ↔ 65535 ≤ n ∨ f.excess ≤ n * t.block * 60 := by
  intro f
  rw [stayFigures_blocks, min_le_iff, ceilDiv_le_iff_le_mul (by omega), mul_comm, ← mul_assoc]

/-- The debit of an exit that the credit covers takes what is owed from the credit and adds it to the settled amount,
which stays within the cap or as it was (R122). -/
theorem exitRecord_debit {rec : BandRecord} (hc : (stayFigures now e paid rec.settled rec.credit t).owed ≤ rec.credit) :
    let f := stayFigures now e paid rec.settled rec.credit t
    (exitRecord rec f).credit + f.owed = rec.credit ∧ (exitRecord rec f).settled = rec.settled + f.owed ∧
      (exitRecord rec f).settled ≤ max rec.settled t.cap := by
  intro f
  have hcap : f.charge ≤ t.cap := min_le_right _ _
  have howed : f.owed = f.charge - rec.settled := stayFigures_owed ..
  refine ⟨Nat.sub_add_cancel hc, rfl, ?_⟩
  change rec.settled + f.owed ≤ max rec.settled t.cap
  omega

end

/-! ### A host request at a band that an entry holds (R5, R18) -/

/-- The band operation of a taken request is served at the entry that holds its band (R5). -/
theorem State.Asks.bandRequest_taken {s : State} {q : Request} {body : List Byte} {n : BandNo} {e : EntryNo}
    {rec : BandRecord} (h : s.Asks q body 0 n e rec) (tag : Byte) (r : BandRequest) :
    (s.taken q tag).bandRequest body r = ((s.taken q tag).serveAt e (.request r)).emptyTest e := by
  rw [State.bandRequest, h.names]
  exact (State.bandOp_sent rfl).served e rec ⟨h.service, h.below⟩ h.entry h.content

/-- A service that leaves state and record as they were: the entry becomes the most recently used, and the request is
replied at once (R5, R18). -/
theorem State.serveAt_reply {s : State} {n : BandNo} {e : EntryNo} {rec : BandRecord} {r : BandRequest} {res : Result}
    {data : ReplyData} (hc : (s.entry e).content = .valid n rec)
    (hs : (s.usedLast e).serveRequest n rec r = ⟨s.usedLast e, rec, some (res, data)⟩) :
    s.serveAt e (.request r) = (s.usedLast e).reply res data := by
  have hserve : (s.touch e).serve n rec (.request r) = ⟨s.usedLast e, rec, some (res, data)⟩ := hs
  simp [State.serveAt, hc, hserve, State.replyServed]

/-- The same for a taken request, whose reply becomes ready, with the emptying test behind it (R7, R18). -/
theorem State.Asks.bandRequest_reply {s : State} {q : Request} {body : List Byte} {n : BandNo} {e : EntryNo}
    {rec : BandRecord} (h : s.Asks q body 0 n e rec) {tag : Byte} {r : BandRequest} {res : Result} {data : ReplyData}
    (hs : ((s.taken q tag).usedLast e).serveRequest n rec r = ⟨(s.taken q tag).usedLast e, rec, some (res, data)⟩) :
    (s.taken q tag).bandRequest body r = (((s.taken q tag).usedLast e).replied tag res data).emptyTest e := by
  have hserve : (s.taken q tag).serveAt e (.request r) = ((s.taken q tag).usedLast e).reply res data :=
    State.serveAt_reply (s := s.taken q tag) h.content hs
  rw [h.bandRequest_taken, hserve, State.reply_outstanding (o := ⟨q.code, tag⟩) rfl]

/-- An entry with the record of a band in use stands at the emptying test (R7). -/
theorem State.emptyTest_active {s : State} {n : BandNo} {e : EntryNo} {rec : BandRecord}
    (hc : (s.entry e).content = .valid n rec) (ha : rec.state.active = true) : s.emptyTest e = s := by
  have hu : ¬(rec.state = .free ∨ rec.state = .returned) := by
    rintro (h | h) <;> simp [h, BandState.active] at ha
  simp [State.emptyTest, hc, hu]

/-- So it does behind the reply of a request at a band in use. -/
theorem State.Asks.emptyTest_replied_active {s : State} {q : Request} {body : List Byte} {i : Nat} {n : BandNo}
    {e : EntryNo} {rec : BandRecord} (h : s.Asks q body i n e rec) (ha : rec.state.active = true) (tag : Byte)
    (res : Result) (data : ReplyData) :
    (((s.taken q tag).usedLast e).replied tag res data).emptyTest e =
      ((s.taken q tag).usedLast e).replied tag res data :=
  State.emptyTest_active (n := n) h.content ha

/-! ### STAY QUERY (R124) -/

/-- STAY QUERY is a request that its owning block tests. -/
theorem exec_stayQuery_eq (tag : Byte) (body : List Byte) (s : State) :
    exec (.stayQuery tag body) s =
      .next (s.arrive .stayQuery tag body (fun t => t.serveStayQuery body)).arbitrate := rfl

/-- STAY QUERY that is taken: RANGE for a band number past the table, CLOCK UNSET, else a band operation (R124, steps
1 to 3). -/
theorem exec_stayQuery_takes {s : State} {body : List Byte} (h : s.takes .stayQuery body) (tag : Byte) :
    let u := s.taken .stayQuery tag
    exec (.stayQuery tag body) s = .next (
      if s.tableLength ≤ argWord body 0 then u.replied tag .range .none
      else if s.clock.isSet = false then u.replied tag .clockUnset .none
      else u.bandRequest body .stayQuery).arbitrate := by
  intro u
  rw [exec_stayQuery_eq, State.arrive_takes h, State.serveStayQuery, State.taken_answer, State.taken_answer]
  rfl

/-- STAY QUERY at its service replies the stay of a band INSIDE and changes nothing (R124, step 5). -/
theorem State.serveStay_inside {rec : BandRecord} (h : rec.state = .inside) (s : State) (n : BandNo) :
    s.serveRequest n rec .stayQuery = ⟨s, rec, some (.ok, .stay n (s.stayOf rec))⟩ := if_pos h

/-- A band in another state is replied STATE, with no change (R124, step 4). -/
theorem State.serveStay_elsewhere {rec : BandRecord} (h : rec.state ≠ .inside) (s : State) (n : BandNo) :
    s.serveRequest n rec .stayQuery = ⟨s, rec, some (.state, .none)⟩ := if_neg h

/-- The stay of a record with an entry stamp. -/
theorem State.stayOf_entry {rec : BandRecord} {entry : Stamp} (h : rec.entry = some entry) (s : State) :
    s.stayOf rec = stayFigures s.clock.value entry rec.paid rec.settled rec.credit s.settings.tariff[rec.cls.val] := by
  simp [State.stayOf, h, State.now]

/-- STAY QUERY at a held record: with the clock set, what the service answers is the reply. -/
theorem State.Asks.exec_stayQuery {s : State} {body : List Byte} {n : BandNo} {e : EntryNo} {rec : BandRecord}
    (h : s.Asks .stayQuery body 0 n e rec) (hc : s.clock.isSet = true) {tag : Byte} {res : Result} {data : ReplyData}
    (hs : ((s.taken .stayQuery tag).usedLast e).serveRequest n rec .stayQuery =
      ⟨(s.taken .stayQuery tag).usedLast e, rec, some (res, data)⟩) :
    exec (.stayQuery tag body) s =
      .next ((((s.taken .stayQuery tag).usedLast e).replied tag res data).emptyTest e).arbitrate := by
  have hn : ¬s.tableLength ≤ argWord body 0 := Nat.not_le.mpr (h.names ▸ h.below)
  rw [exec_stayQuery_takes h.takes, if_neg hn, if_neg (by simp [hc]), h.bandRequest_reply hs]

/-- Settles O54: the stages one by one, and STAY QUERY by the three tests of its owning block and its service. -/
theorem stayArithmetic : Obligations.StayArithmetic := by
  refine ⟨fun now e paid settled credit t hb => ?_, fun s tag body => ⟨fun ht hr => ?_, fun ht hn hc => ?_,
    fun n e rec h hc => ⟨fun hs => ?_, fun entry hs he => ?_⟩⟩⟩
  · intro f
    have helapsed : f.elapsed = if e.toNat ≤ now.toNat then now.toNat - e.toNat else 0 := stayFigures_elapsed ..
    have hexcess : f.excess = f.elapsed - f.allowance := stayFigures_excess ..
    have hblocks : ∀ n, f.blocks ≤ n ↔ 65535 ≤ n ∨ f.excess ≤ n * t.block * 60 :=
      stayFigures_blocks_le_iff now e paid settled credit hb
    have hcharge : f.charge = min (f.blocks * t.price) t.cap := stayFigures_charge ..
    have howed : f.owed = f.charge - settled := stayFigures_owed ..
    refine ⟨fun h => by simp [helapsed, h], fun h => by simp [helapsed, Nat.not_le.mpr h], stayFigures_allowance ..,
      fun h => by omega, fun _ => hexcess, (hblocks _).2 (.inl le_rfl),
      fun h => ((hblocks _).1 le_rfl).resolve_left (Nat.not_le.mpr h), fun n h => (hblocks n).2 (.inr h),
      fun h => hcharge.trans (min_eq_left h), fun h => hcharge.trans (min_eq_right h.le), fun _ => howed,
      fun h => by omega, ?_⟩
    rintro rec rfl rfl hdebt hcap
    obtain ⟨hcredit, hsettled, hmax⟩ := exitRecord_debit now e paid (t := t) hdebt
    exact ⟨hcredit, hsettled, fun h => hmax.trans (max_le h hcap)⟩
  · rw [exec_stayQuery_takes ht, if_pos hr]
  · rw [exec_stayQuery_takes ht, if_neg (Nat.not_le.mpr hn), if_pos hc]
  · exact h.exec_stayQuery hc (State.serveStay_elsewhere hs _ n)
  · have hactive : rec.state.active = true := by simp [hs, BandState.active]
    have hstay : ((s.taken .stayQuery tag).usedLast e).stayOf rec = stayFigures s.clock.value entry rec.paid
        rec.settled rec.credit s.settings.tariff[rec.cls.val] := State.stayOf_entry he _
    rw [h.exec_stayQuery hc (State.serveStay_inside hs _ n), hstay, h.emptyTest_replied_active hactive]

end Sys2Proof.Machine
end

section
/-!
PROOF. The notice queue (R165, R166). A posting is decided by the lowest level held, and a list is at or above a level
just where its lowest level is; the displaced notice is the first one at that level. What the transmit side's choice can
do is said once (R164), and gives that no notice at or below the floor starts and that a link at its reset values stays
there.
-/

namespace Sys2Proof.Machine

/-! ### The lowest level held -/

theorem NoticeKind.level_le (k : NoticeKind) : k.level ≤ 7 := by cases k <;> decide

theorem lowestLevel_cons (a : Notice) (q : List Notice) :
    lowestLevel (a :: q) = min a.kind.level (lowestLevel q) := rfl

/-- The lowest level of a list bounds its levels from below, and it is the greatest bound up to 8. -/
theorem le_lowestLevel_iff {q : List Notice} {l : Nat} :
    l ≤ lowestLevel q ↔ l ≤ 8 ∧ ∀ m ∈ q, l ≤ m.kind.level := by
  induction q with
  | nil => simp [lowestLevel]
  | cons a q ih =>
    rw [lowestLevel_cons, le_min_iff, ih, List.forall_mem_cons]
    exact and_left_comm

/-- The level of a kind is at most the lowest level held just where no held notice has a lower one. -/
theorem NoticeKind.level_le_lowestLevel_iff {k : NoticeKind} {q : List Notice} :
    k.level ≤ lowestLevel q ↔ ∀ m ∈ q, k.level ≤ m.kind.level := by
  have := k.level_le
  rw [le_lowestLevel_iff, and_iff_right (by omega)]

/-- A notice that no other one is below has the lowest level. -/
theorem lowestLevel_eq {q : List Notice} {old : Notice} (hold : old ∈ q)
    (hle : ∀ m ∈ q, old.kind.level ≤ m.kind.level) : lowestLevel q = old.kind.level :=
  le_antisymm ((le_lowestLevel_iff.1 le_rfl).2 old hold) (NoticeKind.level_le_lowestLevel_iff.2 hle)

/-! ### A posting at the queue (R165) -/

/-- With room in the queue the notice joins it. -/
theorem enqueueNotice_of_room {q : List Notice} (h : q.length < 32) (n : Notice) :
    enqueueNotice q n = (q ++ [n], false) := if_pos h

/-- With the queue full and a lower level held, the oldest of the lowest level goes and the notice joins. -/
theorem enqueueNotice_displaces {before behind : List Notice} {old n : Notice}
    (hfull : (before ++ old :: behind).length = 32) (hbefore : ∀ m ∈ before, old.kind.level < m.kind.level)
    (hbehind : ∀ m ∈ behind, old.kind.level ≤ m.kind.level) (hn : old.kind.level < n.kind.level) :
    enqueueNotice (before ++ old :: behind) n = (before ++ behind ++ [n], true) := by
  have hlow : lowestLevel (before ++ old :: behind) = old.kind.level := by
    refine lowestLevel_eq (by simp) fun m hm => ?_
    rcases List.mem_append.1 hm with hm | hm
    · exact (hbefore m hm).le
    · rcases List.mem_cons.1 hm with rfl | hm
      · exact le_rfl
      · exact hbehind m hm
  have herase : (before ++ old :: behind).eraseP (fun m => m.kind.level == old.kind.level) = before ++ behind := by
    rw [List.eraseP_append_right _ fun m hm => by simpa using (hbefore m hm).ne', List.eraseP_cons_of_pos (by simp)]
  rw [enqueueNotice, if_neg (by omega), hlow, if_pos hn, herase]

/-- With the queue full and no lower level held, the notice is discarded. -/
theorem enqueueNotice_discards {q : List Notice} {n : Notice} (hfull : q.length = 32)
    (hn : ∀ m ∈ q, n.kind.level ≤ m.kind.level) : enqueueNotice q n = (q, true) := by
  have hlow : n.kind.level ≤ lowestLevel q := NoticeKind.level_le_lowestLevel_iff.2 hn
  rw [enqueueNotice, if_neg (by omega), if_neg (by omega)]

/-- A posting, once what it does at the queue is known; the overflow mark once set stays. -/
theorem State.post_of_enqueue {s : State} {kind : NoticeKind} {sub : NoticeSubject} {q : List Notice} {full : Bool}
    (h : enqueueNotice s.link.notices ⟨kind, sub, s.clock.value⟩ = (q, full)) :
    s.post kind sub = s.setLink { s.link with notices := q, overflow := s.link.overflow || full } := by
  simp only [State.post, State.now, h]

/-! ### What the transmit side takes (R164, R166) -/

theorem topLevel_cons (a : Notice) (q : List Notice) (floor : Nat) : topLevel (a :: q) floor =
    if floor < a.kind.level then max a.kind.level (topLevel q floor) else topLevel q floor := rfl

/-- The level the choice looks for is above the floor, if there is one. -/
theorem floor_lt_topLevel {q : List Notice} {floor : Nat} (h : topLevel q floor ≠ 0) : floor < topLevel q floor := by
  induction q with
  | nil => exact absurd rfl h
  | cons a q ih =>
    rw [topLevel_cons] at h ⊢
    by_cases ha : floor < a.kind.level
    · rw [if_pos ha]
      exact lt_max_of_lt_left ha
    · rw [if_neg ha] at h ⊢
      exact ih h

/-- The notice chosen is above the floor. -/
theorem floor_lt_of_chooseNotice {q : List Notice} {floor : Nat} {n : Notice} (h : chooseNotice q floor = some n) :
    floor < n.kind.level := by
  unfold chooseNotice at h
  split at h
  · cases h
  · next htop =>
    have hlevel : n.kind.level = topLevel q floor := by simpa using List.find?_some h
    exact hlevel ▸ floor_lt_topLevel htop

/-- Everything the transmit side's choice can do: nothing, the reply that became ready first, or the notice chosen. -/
theorem State.startFrame_cases (s : State) :
    s.startFrame = s ∨
    (∃ r rest, s.link.sending = none ∧ s.link.replies = r :: rest ∧
      s.startFrame = (s.setLink { s.link with replies := rest }).sendFrame (.reply r)) ∨
    (∃ n, s.link.sending = none ∧ s.link.replies = [] ∧ s.part.winding = false ∧
      chooseNotice s.link.notices s.link.floor.val = some n ∧
      s.startFrame =
        (s.setLink { s.link with notices := dropNotice s.link.notices s.link.floor.val }).sendFrame (.notice n)) := by
  cases hs : s.link.sending with
  | some f => exact .inl (by simp [State.startFrame, hs])
  | none =>
    cases hr : s.link.replies with
    | cons r rest => exact .inr (.inl ⟨r, rest, rfl, rfl, by simp [State.startFrame, hs, hr]⟩)
    | nil =>
      cases hw : s.part.winding with
      | true => exact .inl (by simp [State.startFrame, hs, hr, hw])
      | false =>
        cases hn : chooseNotice s.link.notices s.link.floor.val with
        | none => exact .inl (by simp [State.startFrame, hs, hr, hw, hn])
        | some n => exact .inr (.inr ⟨n, rfl, rfl, rfl, rfl, by simp [State.startFrame, hs, hr, hw, hn]⟩)

/-- A notice that the transmit side starts is above the floor (R166). -/
theorem State.startFrame_notice {s : State} (hfree : s.link.sending = none) {m : Notice} {flags : Byte}
    (h : s.startFrame.link.sending = some ⟨.notice m, flags⟩) : s.link.floor.val < m.kind.level := by
  rcases s.startFrame_cases with hs | ⟨r, rest, -, -, hs⟩ | ⟨n, -, -, -, hn, hs⟩ <;> rw [hs] at h
  · rw [hfree] at h; cases h
  · cases h
  · cases h; exact floor_lt_of_chooseNotice hn

/-- With no reply and no notice the choice leaves the state as it is. -/
theorem State.startFrame_idle {s : State} (hr : s.link.replies = []) (hn : s.link.notices = []) :
    s.startFrame = s := by
  rcases s.startFrame_cases with hs | ⟨r, rest, -, hr', -⟩ | ⟨n, -, -, -, hn', -⟩
  · exact hs
  · rw [hr] at hr'; cases hr'
  · rw [hn] at hn'; cases hn'

/-! ### The same behind the other choices of a command's end -/

/-- A notice that starts at a command's end is above the floor. -/
theorem State.arbitrate_notice {s : State} (hfree : s.link.sending = none) {m : Notice} {flags : Byte}
    (h : s.arbitrate.link.sending = some ⟨.notice m, flags⟩) : s.link.floor.val < m.kind.level := by
  rw [← s.exchanged_link] at hfree ⊢
  exact State.startFrame_notice hfree h

/-- With no reply and no notice a command's end leaves the link as it is. -/
theorem State.arbitrate_link_idle {s : State} (hr : s.link.replies = []) (hn : s.link.notices = []) :
    s.arbitrate.link = s.link := by
  rw [← s.exchanged_link] at hr hn
  rw [State.arbitrate_eq, State.startFrame_idle hr hn, s.exchanged_link]

/-! ### The resets (R171) -/

/-- Reading the beams leaves the link (R125). -/
theorem State.readBeams_link (s : State) : s.readBeams.link = s.link := by
  unfold State.readBeams
  refine List.foldlRecOn (motive := fun t : State => t.link = s.link) _ _ rfl fun t ht l _ => ?_
  dsimp only
  split <;> exact ht

/-- Every block at its reset values keeps the frame being sent, and nothing else of the link (R170, R171). -/
theorem State.resetBlocks_link (s : State) :
    s.resetBlocks.link = { Link.atReset with sending := s.link.sending } := State.readBeams_link _

/-- Power-on and the reset pin leave the link at its reset values. -/
theorem State.hardReset_link (s : State) : s.hardReset.link = Link.atReset := rfl

/-- So does the entry into STARTING, but that a frame being sent is sent on (R170). -/
theorem State.enterStarting_link (s : State) :
    s.enterStarting.link = { Link.atReset with sending := s.link.sending.map Sending.disown } := by
  rw [State.enterStarting, State.setLink_link, State.resetBlocks_link]

/-- Power-on and the reset pin are one reset of the part. -/
theorem exec_powerOn_eq (s : State) : exec .powerOn s = .next s.hardReset.arbitrate := rfl
theorem exec_resetPin_eq (s : State) : exec .resetPin s = .next s.hardReset.arbitrate := rfl

/-- The entry into STARTING is one only where every block has wound down. -/
theorem exec_enterStarting_woundDown {s : State} (h : s.woundDown = true) :
    exec .enterStarting s = .next s.enterStarting.arbitrate :=
  congrArg (fun t : State => Host.Outcome.next t.arbitrate) (if_pos h)

/-- A command whose reset leaves the link at its reset values, but for the frame being sent, ends with an empty queue,
floor 0 and the mark clear. -/
theorem exec_notices_reset {c : Instr} {s u t : State} {f : Option Sending}
    (hu : u.link = { Link.atReset with sending := f }) (hc : exec c s = .next u.arbitrate) (ht : exec c s = .next t) :
    t.link.notices = [] ∧ t.link.floor = 0 ∧ t.link.overflow = false := by
  obtain rfl := Host.Outcome.next.inj (hc.symm.trans ht)
  rw [State.arbitrate_link_idle (by rw [hu]; rfl) (by rw [hu]; rfl), hu]
  exact ⟨rfl, rfl, rfl⟩

/-- Settles O18: a posting by its three cases at the queue, the floor by what the transmit side can take, and the reset
values by the link each reset leaves. -/
theorem noticePosting : Obligations.NoticePosting := by
  intro s kind sub n
  refine ⟨fun hroom => ?_, fun before old behind hfull hq hbefore hbehind hlevel => ?_, fun hfull hlevel => ?_,
    fun hheld => enqueueNotice_length hheld n, fun m flags hfree hstart => State.arbitrate_notice hfree hstart,
    fun t ht => ?_⟩
  · rw [State.post_of_enqueue (enqueueNotice_of_room hroom n), Bool.or_false]
  · have hpost := hq ▸ enqueueNotice_displaces (n := n) (hq ▸ hfull) hbefore hbehind hlevel
    rw [State.post_of_enqueue hpost, Bool.or_true]
  · rw [State.post_of_enqueue (enqueueNotice_discards (n := n) hfull hlevel), Bool.or_true]
  · rcases ht with hpower | hpin | ⟨hdown, hstart⟩
    · exact exec_notices_reset s.hardReset_link (exec_powerOn_eq s) hpower
    · exact exec_notices_reset s.hardReset_link (exec_resetPin_eq s) hpin
    · exact exec_notices_reset s.enterStarting_link (exec_enterStarting_woundDown hdown) hstart

end Sys2Proof.Machine
end

section
/-!
PROOF. The machine as a whole: one step, the invariant of every step, and the state right after reset. Every request
is one arrival with its owning block's meaning behind it; what a command keeps (`State.Keeps`) is gathered over the
constructors once, and gives both the queue and the invariant.
-/

namespace Sys2Proof.Machine

/-! ### One step -/

/-- Settles O1: a step is the case distinction on the queue of commands. -/
theorem stepRunsFront : Obligations.StepRunsFront := by
  refine ⟨fun s c rest h => ?_, fun s h => ?_⟩ <;> simp [step, h]

/-! ### What every command keeps -/

/-- The command of a request is the arrival of its frame, with the owning block's meaning behind the tests (R161). -/
theorem exec_command_eq (q : Request) (tag : Byte) (body : List Byte) (s : State) :
    exec (q.command tag body) s =
      .next (s.arrive q tag body (fun t => t.serveHostRequest q body)).arbitrate := by
  cases q <;> rfl

/-- Every command answers a next state that keeps each part of the invariant and the queue of commands. -/
theorem exec_keeps (c : Instr) (s : State) : ∃ t, exec c s = .next t ∧ s.Keeps t := by
  have request (q : Request) (tag : Byte) (body : List Byte) :
      ∃ t, exec (q.command tag body) s = .next t ∧ s.Keeps t :=
    ⟨_, exec_command_eq q tag body s, State.arbitrate_keeps (State.arrive_keeps (.refl s) q tag body _
      fun t => State.serveHostRequest_keeps (.refl t) q body)⟩
  cases c
  case powerOn => exact ⟨_, rfl, State.arbitrate_keeps (State.hardReset_keeps (.refl s))⟩
  case resetPin => exact ⟨_, rfl, State.arbitrate_keeps (State.hardReset_keeps (.refl s))⟩
  case enterStarting => exact ⟨_, rfl, State.arbitrate_keeps (State.enterIfWoundDown_keeps (.refl s))⟩
  case headerReadComplete seen =>
    exact ⟨_, rfl, State.arbitrate_keeps (State.headerReadEvent_keeps (.refl s) seen)⟩
  case mirrorReadComplete seen =>
    exact ⟨_, rfl, State.arbitrate_keeps (State.mirrorReadEvent_keeps (.refl s) seen)⟩
  case frameGapExpiry bytes => exact ⟨_, rfl, State.arbitrate_keeps (State.receive_keeps (.refl s) true bytes)⟩
  case frameDiscard bytes => exact ⟨_, rfl, State.arbitrate_keeps (State.receive_keeps (.refl s) false bytes)⟩
  case unknownRequest kind tag _ =>
    exact ⟨_, rfl, State.arbitrate_keeps (State.unknownArrival_keeps (.refl s) kind tag)⟩
  case transmitEnd => exact ⟨_, rfl, State.arbitrate_keeps (State.frameSent_keeps (.refl s))⟩
  case formatWriteComplete => exact ⟨_, rfl, State.arbitrate_keeps (State.formatWriteEvent_keeps (.refl s))⟩
  case fetchComplete seen => exact ⟨_, rfl, State.arbitrate_keeps (State.fetchEvent_keeps (.refl s) seen)⟩
  case writeComplete => exact ⟨_, rfl, State.arbitrate_keeps (State.writeEvent_keeps (.refl s))⟩
  case headerWriteComplete => exact ⟨_, rfl, State.arbitrate_keeps (State.headerWriteEvent_keeps (.refl s))⟩
  case mirrorWriteComplete => exact ⟨_, rfl, State.arbitrate_keeps (State.mirrorWriteEvent_keeps (.refl s))⟩
  case transferTimeout => exact ⟨_, rfl, State.arbitrate_keeps (State.transferTimeout_keeps (.refl s))⟩
  case pollAnswer line head a => exact ⟨_, rfl, State.arbitrate_keeps (State.answerOn_keeps (.refl s) line false head a)⟩
  case probeAnswer line head a => exact ⟨_, rfl, State.arbitrate_keeps (State.answerOn_keeps (.refl s) line true head a)⟩
  case pollWindowExpiry line => exact ⟨_, rfl, State.arbitrate_keeps (State.windowExpiry_keeps (.refl s) line false)⟩
  case probeWindowExpiry line => exact ⟨_, rfl, State.arbitrate_keeps (State.windowExpiry_keeps (.refl s) line true)⟩
  case answerDiscard => exact ⟨_, rfl, State.arbitrate_keeps (.refl s)⟩
  case probeTimerExpiry => exact ⟨_, rfl, State.arbitrate_keeps (State.probeTimer_keeps (.refl s))⟩
  case pulseStart i => exact ⟨_, rfl, State.arbitrate_keeps (State.pulseStart_keeps (.refl s) i)⟩
  case pulseEnd i => exact ⟨_, rfl, State.arbitrate_keeps (State.pulseEnd_keeps (.refl s) i)⟩
  case restExpiry i => exact ⟨_, rfl, State.arbitrate_keeps (State.restEnd_keeps (.refl s) i)⟩
  case lockerConfirmExpiry k => exact ⟨_, rfl, State.arbitrate_keeps (State.lockerWindowExpiry_keeps (.refl s) k)⟩
  case stringScan i doors bolts =>
    exact ⟨_, rfl, State.arbitrate_keeps (State.scanString_keeps (.refl s) i doors bolts)⟩
  case cabinConfirmExpiry c => exact ⟨_, rfl, State.arbitrate_keeps (State.cabinWindowExpiry_keeps (.refl s) c)⟩
  case blinkExpiry => exact ⟨_, rfl, State.arbitrate_keeps (State.blinkExpiry_keeps (.refl s))⟩
  case secondTimerExpiry => exact ⟨_, rfl, State.arbitrate_keeps (State.countSecond_keeps (.refl s))⟩
  case minutePulse => exact ⟨_, rfl, State.arbitrate_keeps (State.minutePulse_keeps (.refl s))⟩
  case beamEdge l beam broken => exact ⟨_, rfl, State.arbitrate_keeps (State.beamChange_keeps (.refl s) l beam broken)⟩
  case commitRetryExpiry l => exact ⟨_, rfl, State.arbitrate_keeps (State.retryCommit_keeps (.refl s) l)⟩
  case linePulseExpiry l line => exact ⟨_, rfl, State.arbitrate_keeps (State.endLinePulse_keeps (.refl s) l line)⟩
  case armTimerExpiry l => exact ⟨_, rfl, State.arbitrate_keeps (State.armTimerExpiry_keeps (.refl s) l)⟩
  case status => exact request .status _ _
  case setFloor => exact request .setFloor _ _
  case restart => exact request .restart _ _
  case bandIssue => exact request .bandIssue _ _
  case bandAmend => exact request .bandAmend _ _
  case bandTopup => exact request .bandTopup _ _
  case bandSettle => exact request .bandSettle _ _
  case bandBar => exact request .bandBar _ _
  case bandUnbar => exact request .bandUnbar _ _
  case bandReturn => exact request .bandReturn _ _
  case bandRead => exact request .bandRead _ _
  case lockerAssign => exact request .lockerAssign _ _
  case lockerShare => exact request .lockerShare _ _
  case lockerUnshare => exact request .lockerUnshare _ _
  case lockerOpen => exact request .lockerOpen _ _
  case lockerRelease => exact request .lockerRelease _ _
  case lockerReset => exact request .lockerReset _ _
  case lockerSuspend => exact request .lockerSuspend _ _
  case lockerResume => exact request .lockerResume _ _
  case lockerWatch => exact request .lockerWatch _ _
  case stringClose => exact request .stringClose _ _
  case stringOpen => exact request .stringOpen _ _
  case lockerRead => exact request .lockerRead _ _
  case stringsFitted => exact request .stringsFitted _ _
  case stringSettings => exact request .stringSettings _ _
  case stringRead => exact request .stringRead _ _
  case cabinRelease => exact request .cabinRelease _ _
  case cabinSuspend => exact request .cabinSuspend _ _
  case cabinResume => exact request .cabinResume _ _
  case cabinSettings => exact request .cabinSettings _ _
  case cabinRead => exact request .cabinRead _ _
  case clockSet => exact request .clockSet _ _
  case clockRead => exact request .clockRead _ _
  case tariffStage => exact request .tariffStage _ _
  case tariffSwitch => exact request .tariffSwitch _ _
  case tariffDiscard => exact request .tariffDiscard _ _
  case tariffRead => exact request .tariffRead _ _
  case stayQuery => exact request .stayQuery _ _
  case laneSettings => exact request .laneSettings _ _
  case laneService => exact request .laneService _ _
  case capacitySet => exact request .capacitySet _ _
  case occupancySet => exact request .occupancySet _ _
  case laneRead => exact request .laneRead _ _
  case journalRead => exact request .journalRead _ _
  case journalOptions => exact request .journalOptions _ _
  case readerSettings => exact request .readerSettings _ _
  case headRead => exact request .headRead _ _
  case storeFormat => exact request .storeFormat _ _
  case storeRestart => exact request .storeRestart _ _

/-- Settles O2: the queue is one of the things every command keeps. -/
theorem execKeepsQueue : Obligations.ExecKeepsQueue := fun c s =>
  let ⟨t, ht, hkeeps⟩ := exec_keeps c s
  ⟨t, ht, hkeeps.pending⟩

/-- Settles O3: a step idles or runs one command, and taking that command from the queue touches no part of the
invariant. -/
theorem stepKeepsInv : Obligations.StepKeepsInv := by
  intro s t hinv ht
  rcases hs : s.pending with _ | ⟨c, rest⟩
  · rw [stepRunsFront.2 s hs] at ht
    cases ht
    exact hinv
  · rw [stepRunsFront.1 s c rest hs] at ht
    obtain ⟨u, hu, hkeeps⟩ := exec_keeps c (s.setPending rest)
    obtain rfl := Host.Outcome.next.inj (hu.symm.trans ht)
    exact hkeeps.inv ⟨hinv.memory, hinv.notices, hinv.hall, hinv.fairness⟩

/-- Settles O4: at reset the store is empty, no notice is held, and every count is 0. -/
theorem resetHasInv : Obligations.ResetHasInv where
  memory := ⟨.nil, by simp [State.reset, State.cold]⟩
  notices := Nat.zero_le 32
  hall := ⟨Nat.zero_le 999, fun l => by simp [State.reset, State.cold, Lane.atReset]⟩
  fairness := Nat.zero_le 4

end Sys2Proof.Machine
end

section
/-!
PROOF. The choices at the end of a command (R12, R153, R164). Each choice is read once as its cases; the two line
engines do not meet: what the one line's choice changes is no part of what the other line's choice reads.
-/

namespace Sys2Proof.Machine

/-! ### The store port (R12) -/

section
variable {s : State}

/-- A start-up stage from the apply step on is one that allows MIRROR WRITEs. -/
theorem Startup.mirrorsAllowed_iff {x : Startup} : x.mirrorsAllowed = true ↔ x = .establishing ∨ x = .done := by
  cases x <;> simp [Startup.mirrorsAllowed]

/-- A MIRROR WRITE may start where the apply step is done and no STORE FORMAT is present (R12; log 26). -/
theorem State.mirrorToWrite_eq (s : State) : s.mirrorToWrite =
    if (s.part.startup = .establishing ∨ s.part.startup = .done) ∧ s.band.format = none then s.lowestDirty
    else none := by
  simp [State.mirrorToWrite, Startup.mirrorsAllowed_iff]

theorem State.lowestDirty_eq_none (h : ∀ k, (s.locker k).dirty = false) : s.lowestDirty = none := by
  simp [State.lowestDirty, List.find?_eq_none, h]

theorem State.lowestDirty_dirty {k : LockerNo} (h : s.lowestDirty = some k) : (s.locker k).dirty = true := by
  simpa using List.find?_some h

theorem State.mirrorToWrite_dirty {k : LockerNo} (h : s.mirrorToWrite = some k) : (s.locker k).dirty = true := by
  rw [State.mirrorToWrite_eq] at h
  split at h
  · exact State.lowestDirty_dirty h
  · cases h

/-- The waiting reply of a target is marked as started, and no other (R10, R11). -/
theorem State.waitStarted_eq (s : State) (g : WaitTarget) : s.waitStarted g = s.setBand { s.band with
    replyWait := s.band.replyWait.map (fun w => if w.target = g then { w with started := true } else w) } := by
  unfold State.waitStarted
  rcases hw : s.band.replyWait with _ | w
  · dsimp only [Option.map_none]
    rw [← hw]; rfl
  · by_cases hg : w.target = g
    · simp [hg]
    · simp only [hg, if_false, Option.map_some]
      rw [← hw]; rfl

/-- Everything the port's choice can do: nothing, or with the port READY a read of the start-up sequence, a MIRROR
WRITE, the head of the queue, or a write of a format. -/
theorem State.choosePort_cases (s : State) : s.choosePort = s ∨ s.band.inFlight = none ∧
    ((∃ x, s.choosePort = s.startTransfer x) ∨
      (∃ k, (s.locker k).dirty = true ∧ s.choosePort = s.startMirror k) ∨
      (∃ r rest, s.choosePort = s.startQueued r rest) ∨
      (∃ i, (s.band.format = some .draining ∧ i = 0 ∨ s.band.format = some (.writing i)) ∧
        s.choosePort = s.startFormatWrite i)) := by
  have table : s.chooseByTable = s ∨ (∃ k, (s.locker k).dirty = true ∧ s.chooseByTable = s.startMirror k) ∨
      (∃ r rest, s.chooseByTable = s.startQueued r rest) := by
    unfold State.chooseByTable
    split
    · exact .inl rfl
    · next hk => exact .inr (.inl ⟨_, State.mirrorToWrite_dirty hk, rfl⟩)
    · exact .inr (.inr ⟨_, _, rfl⟩)
    · next hk =>
      split
      · exact .inr (.inl ⟨_, State.mirrorToWrite_dirty hk, rfl⟩)
      · exact .inr (.inr ⟨_, _, rfl⟩)
  by_cases hbusy : s.band.port ≠ .ready ∨ s.band.inFlight.isSome
  · exact .inl (by simp only [State.choosePort, if_pos hbusy])
  · have hfree : s.band.inFlight = none := by simpa using fun h => hbusy (.inr h)
    simp only [State.choosePort, if_neg hbusy]
    split
    · exact .inr ⟨hfree, .inl ⟨_, rfl⟩⟩
    · exact .inr ⟨hfree, .inl ⟨_, rfl⟩⟩
    · split
      · rcases table with h | h | h
        · exact .inl h
        · exact .inr ⟨hfree, .inr (.inl h)⟩
        · exact .inr ⟨hfree, .inr (.inr (.inl h))⟩
      · next hf => exact .inr ⟨hfree, .inr (.inr (.inr ⟨0, .inl ⟨hf, rfl⟩, rfl⟩))⟩
      · next hf => exact .inr ⟨hfree, .inr (.inr (.inr ⟨_, .inr hf, rfl⟩))⟩
      · rcases table with h | h | h
        · exact .inl h
        · exact .inr ⟨hfree, .inr (.inl h)⟩
        · exact .inr ⟨hfree, .inr (.inr (.inl h))⟩

/-- The reads and the writes a queued request starts leave the format and the lockers; a waiting reply may be marked as
started. -/
theorem State.startQueued_leaves (s : State) (r : PortRequest) (rest : List PortRequest) :
    (s.startQueued r rest).lockers = s.lockers ∧ (s.startQueued r rest).band.format = s.band.format ∧
      ((s.startQueued r rest).band.replyWait = s.band.replyWait ∨
        ∃ w, s.band.replyWait = some w ∧
          (s.startQueued r rest).band.replyWait = some { w with started := true }) := by
  have marked (w : Option ReplyWait) (g : WaitTarget) :
      w.map (fun w => if w.target = g then { w with started := true } else w) = w ∨
        ∃ v, w = some v ∧ w.map (fun w => if w.target = g then { w with started := true } else w) =
          some { v with started := true } := by
    rcases w with _ | v
    · exact .inl rfl
    · by_cases hg : v.target = g
      · exact .inr ⟨v, rfl, by simp [hg]⟩
      · exact .inl (by simp [hg])
  unfold State.startQueued
  simp only [State.waitStarted_eq]
  cases r with
  | fetch e => dsimp only; split <;> exact ⟨rfl, rfl, .inl rfl⟩
  | write e => dsimp only; split <;> first | exact ⟨rfl, rfl, marked _ _⟩ | exact ⟨rfl, rfl, .inl rfl⟩
  | headerWrite => exact ⟨rfl, rfl, marked _ _⟩

/-- The dirty marks behind the start of a MIRROR WRITE: that of its locker is clear. -/
theorem State.startMirror_dirty (s : State) (k j : LockerNo) :
    ((s.startMirror k).locker j).dirty = if k = j then false else (s.locker j).dirty := by
  show ((s.lockers.table.set k.val { s.locker k with dirty := false })[j.val]).dirty = _
  rw [Vector.getElem_set]
  by_cases h : k = j
  · simp [h]
  · simp [h, Fin.val_inj]; rfl

/-! ### A line engine (R153) -/

/-- Everything a line engine's choice can do: nothing, or with no poll in flight a probe of a DUE head or a roster
poll. -/
theorem State.chooseExchange_cases (s : State) (l : Line) : s.chooseExchange l = s ∨ (s.engine l).poll = none ∧
    ((∃ h, s.dueProbe l = some h ∧ s.chooseExchange l = s.sendProbe l h) ∨
      (∃ h, s.chooseExchange l = s.sendPoll l h)) := by
  unfold State.chooseExchange
  split
  · exact .inl rfl
  · next h =>
    have hfree : (s.engine l).poll = none := by simpa using fun g => h (.inr g)
    split
    · next hd => exact .inr ⟨hfree, .inl ⟨_, hd, rfl⟩⟩
    · exact .inr ⟨hfree, .inr ⟨_, rfl⟩⟩
    · next hd _ _ => exact .inr ⟨hfree, .inl ⟨_, hd, rfl⟩⟩
    · exact .inl rfl

/-- A head found DUE on a line is DUE there (R153). -/
theorem State.dueProbe_due {l : Line} {h : HeadNo} (hd : s.dueProbe l = some h) :
    (s.head h).probe = .due ∧ (s.head h).probeLine = l := by
  have hp := List.find?_some hd
  simp only [Bool.and_eq_true, beq_iff_eq] at hp
  exact ⟨hp.1.2, hp.2⟩

@[simp] theorem State.setEngine_engine (s : State) (l : Line) (x : Engine) : (s.setEngine l x).engine l = x := by
  cases l <;> rfl

@[simp] theorem State.setEngine_head (s : State) (l : Line) (x : Engine) (h : HeadNo) :
    (s.setEngine l x).head h = s.head h := by
  cases l <;> rfl

@[simp] theorem State.setHead_engine (s : State) (h : HeadNo) (x : HeadRecord) (l : Line) :
    (s.setHead h x).engine l = s.engine l := by
  cases l <;> rfl

/-- A roster record behind the replacement of one. -/
theorem State.setHead_head (s : State) (h g : HeadNo) (x : HeadRecord) :
    (s.setHead h x).head g = if h = g then x else s.head g := by
  show (s.reader.roster.set h.val x)[g.val] = _
  rw [Vector.getElem_set]
  simp only [Fin.val_inj]
  rfl

theorem State.sendProbe_engine (s : State) (l : Line) (h : HeadNo) : (s.sendProbe l h).engine l =
    { s.engine l with
      lastWasRoster := false, poll := some ⟨h, true, none, false, false, s.settings.pollWindow⟩ } := by
  cases l <;> rfl

theorem State.sendProbe_head (s : State) (l : Line) (h g : HeadNo) : (s.sendProbe l h).head g =
    if h = g then { s.head h with probe := .inFlight } else s.head g := by
  simp [State.sendProbe, State.setHead_head]

theorem State.sendPoll_engine (s : State) (l : Line) (h : HeadNo) : (s.sendPoll l h).engine l =
    ⟨some h, true, some ⟨h, false, (s.head h).verdict, (s.head h).verdict.isSome, false, s.settings.pollWindow⟩⟩ := by
  simp [State.sendPoll]

theorem State.sendPoll_head (s : State) (l : Line) (h g : HeadNo) : (s.sendPoll l h).head g = s.head g := by
  simp [State.sendPoll]

/-- What the store port chooses is no part of what a line engine reads. -/
theorem State.setBand_setLockers_chooseExchange (s : State) (b : BandUnit) (x : LockerEngine) (l : Line) :
    ((s.setBand b).setLockers x).chooseExchange l = ((s.chooseExchange l).setBand b).setLockers x := by
  have hpoll : (((s.setBand b).setLockers x).engine l) = s.engine l := by cases l <;> rfl
  have hnext : ((s.setBand b).setLockers x).nextRoster l = s.nextRoster l := by cases l <;> rfl
  have hdue : ((s.setBand b).setLockers x).dueProbe l = s.dueProbe l := rfl
  simp only [State.chooseExchange, hpoll, hnext, hdue, State.setLockers_part, State.setBand_part]
  repeat' split
  all_goals cases l <;> rfl

/-- Behind the port's choice a line engine chooses as before it. -/
theorem State.choosePort_chooseExchange (s : State) (l : Line) :
    s.choosePort.chooseExchange l =
      ((s.chooseExchange l).setBand s.choosePort.band).setLockers s.choosePort.lockers := by
  conv_lhs => rw [s.choosePort_moves.shape]
  exact s.setBand_setLockers_chooseExchange _ _ l

/-- A line's choice leaves the engine of the other line. -/
theorem State.chooseExchange_engine_other (s : State) (l : Line) :
    (s.chooseExchange l).engine (otherLine l) = s.engine (otherLine l) := (s.chooseExchange_moves l).other

/-- A line's choice leaves each roster record but for the probe status, and that too where the record's probe line is
another. -/
theorem State.chooseExchange_head (s : State) (l : Line) (g : HeadNo) : (s.chooseExchange l).head g = s.head g ∨
    (s.head g).probe = .due ∧ (s.head g).probeLine = l ∧ (s.chooseExchange l).head g =
      { s.head g with probe := .inFlight } ∧ (s.engine l).poll = none ∧
      (s.chooseExchange l).engine l = { s.engine l with
        lastWasRoster := false, poll := some ⟨g, true, none, false, false, s.settings.pollWindow⟩ } := by
  rcases s.chooseExchange_cases l with h | ⟨hfree, ⟨h, hd, hs⟩ | ⟨h, hs⟩⟩
  · exact .inl (by rw [h])
  · rw [hs]
    by_cases hg : h = g
    · obtain rfl := hg
      obtain ⟨hdue, hline⟩ := State.dueProbe_due hd
      exact .inr ⟨hdue, hline, by simp [State.sendProbe_head], hfree, State.sendProbe_engine s l h⟩
    · exact .inl (by simp [State.sendProbe_head, hg])
  · exact .inl (by rw [hs, State.sendPoll_head])

theorem beq_otherLine (l : Line) : (l == otherLine l) = false := by cases l <;> rfl

/-- The DUE heads of a line are the same behind the other line's choice. -/
theorem State.dueProbe_chooseExchange (s : State) (l : Line) :
    (s.chooseExchange l).dueProbe (otherLine l) = s.dueProbe (otherLine l) := by
  refine congrArg (fun p => allHeads.find? p) (funext fun g => ?_)
  have hin : (s.chooseExchange l).inService g = s.inService g := by
    simp [State.inService, State.stringFitted, State.string, State.laneFitted]
  rw [hin]
  rcases s.chooseExchange_head l g with hg | ⟨hdue, hline, hg, -⟩
  · rw [hg]
  · simp [hg, hdue, hline, beq_otherLine]

/-- So is the round of a line. -/
theorem State.nextRoster_chooseExchange (s : State) (l : Line) :
    (s.chooseExchange l).nextRoster (otherLine l) = s.nextRoster (otherLine l) := by
  have hpolled : (s.chooseExchange l).polledOn (otherLine l) = s.polledOn (otherLine l) := by
    funext g
    have hin : (s.chooseExchange l).inService g = s.inService g := by
      simp [State.inService, State.stringFitted, State.string, State.laneFitted]
    rcases s.chooseExchange_head l g with hg | ⟨-, -, hg, -⟩ <;> simp [State.polledOn, hin, hg]
  simp only [State.nextRoster, hpolled, State.chooseExchange_engine_other]

/-- The other line's engine chooses the same behind a line's choice. -/
theorem State.chooseExchange_chooseExchange_engine (s : State) (l : Line) :
    ((s.chooseExchange l).chooseExchange (otherLine l)).engine (otherLine l) =
      (s.chooseExchange (otherLine l)).engine (otherLine l) := by
  have hverdict (h : HeadNo) : ((s.chooseExchange l).head h).verdict = (s.head h).verdict := by
    rcases s.chooseExchange_head l h with hg | ⟨-, -, hg, -⟩ <;> rw [hg]
  simp only [State.chooseExchange.eq_def _ (otherLine l), State.chooseExchange_part,
    State.chooseExchange_engine_other, State.dueProbe_chooseExchange, State.nextRoster_chooseExchange]
  repeat' split
  all_goals simp only [State.sendProbe_engine, State.sendPoll_engine, State.chooseExchange_engine_other,
    State.chooseExchange_settings, hverdict]

/-- The reader lines behind the choices of a command's end. -/
theorem State.arbitrate_reader (s : State) :
    s.arbitrate.reader = ((s.chooseExchange .a).chooseExchange .b).reader := by
  rw [State.arbitrate_eq, State.startFrame_reader, State.choosePort_chooseExchange,
    State.setBand_setLockers_chooseExchange]
  rfl

/-- The engines behind the choices of a command's end: each line's choice by itself. -/
theorem State.arbitrate_engine (s : State) (l : Line) : s.arbitrate.engine l = (s.chooseExchange l).engine l := by
  have hengine : s.arbitrate.engine l = ((s.chooseExchange .a).chooseExchange .b).engine l := by
    cases l with
    | a => exact congrArg Reader.engineA s.arbitrate_reader
    | b => exact congrArg Reader.engineB s.arbitrate_reader
  rw [hengine]
  cases l with
  | a => exact (s.chooseExchange .a).chooseExchange_engine_other .b
  | b => exact s.chooseExchange_chooseExchange_engine .a

/-- The roster records behind the choices of a command's end. -/
theorem State.arbitrate_head (s : State) (h : HeadNo) :
    s.arbitrate.head h = ((s.chooseExchange .a).chooseExchange .b).head h :=
  congrArg (fun x : Reader => x.roster[h.val]) s.arbitrate_reader

/-- A probe status behind the choices of a command's end: as it was, or from DUE to IN_FLIGHT with the probe sent. -/
theorem State.arbitrate_probe (s : State) (h : HeadNo) : s.arbitrate.head h = s.head h ∨
    (s.head h).probe = .due ∧ s.arbitrate.head h = { s.head h with probe := .inFlight } ∧
      (s.engine (s.head h).probeLine).poll = none ∧ (s.arbitrate.engine (s.head h).probeLine).poll =
        some ⟨h, true, none, false, false, s.settings.pollWindow⟩ := by
  simp only [State.arbitrate_head, State.arbitrate_engine]
  rcases s.chooseExchange_head .a h with ha | ⟨hdue, hline, ha, hfree, hengine⟩
  · rcases (s.chooseExchange .a).chooseExchange_head .b h with hb | ⟨hdue, hline, hb, hfree, hengine⟩
    · exact .inl (hb.trans ha)
    · rw [ha] at hdue hline hb
      rw [show Line.b = otherLine .a from rfl, State.chooseExchange_engine_other] at hfree
      rw [show Line.b = otherLine .a from rfl, State.chooseExchange_chooseExchange_engine,
        State.chooseExchange_settings] at hengine
      refine .inr ⟨hdue, hb, hline ▸ hfree, ?_⟩
      rw [hline]
      exact congrArg Engine.poll hengine
  · have hb : ((s.chooseExchange .a).chooseExchange .b).head h = { s.head h with probe := .inFlight } := by
      rcases (s.chooseExchange .a).chooseExchange_head .b h with hb | ⟨hdue', -⟩
      · exact hb.trans ha
      · rw [ha] at hdue'; cases hdue'
    exact .inr ⟨hdue, hb, hline ▸ hfree, hline ▸ congrArg Engine.poll hengine⟩

/-! ### The choices as one: what they leave (R12, R153, R164) -/

/-- The dirty mark the port clears is that of the locker whose MIRROR WRITE it puts in flight. -/
theorem State.choosePort_dirty (s : State) (k : LockerNo) :
    (s.choosePort.locker k).dirty = (s.locker k).dirty ∨
      ((s.locker k).dirty = true ∧ (s.choosePort.locker k).dirty = false ∧ s.band.inFlight = none ∧
        ∃ a bs, s.choosePort.band.inFlight = some ⟨.mirrorWrite k a bs, false⟩) := by
  rcases s.choosePort_cases with h | ⟨hfree, ⟨x, h⟩ | ⟨j, hj, h⟩ | ⟨r, rest, h⟩ | ⟨i, -, h⟩⟩ <;> rw [h]
  · exact .inl rfl
  · exact .inl rfl
  · by_cases hk : j = k
    · obtain rfl := hk
      exact .inr ⟨hj, by simp [State.startMirror_dirty], hfree, _, _, rfl⟩
    · exact .inl (by simp [State.startMirror_dirty, hk])
  · exact .inl (by simp only [State.locker, (s.startQueued_leaves r rest).1])
  · exact .inl rfl

/-- A reply that waits on a write is as it was behind the port's choice, or has the started mark. -/
theorem State.choosePort_replyWait (s : State) : s.choosePort.band.replyWait = s.band.replyWait ∨
    ∃ w, s.band.replyWait = some w ∧ s.choosePort.band.replyWait = some { w with started := true } := by
  rcases s.choosePort_cases with h | ⟨-, ⟨x, h⟩ | ⟨j, -, h⟩ | ⟨r, rest, h⟩ | ⟨i, -, h⟩⟩ <;> rw [h]
  · exact .inl rfl
  · exact .inl rfl
  · exact .inl rfl
  · exact (s.startQueued_leaves r rest).2.2
  · exact .inl rfl

/-- A format's stage behind the port's choice is as it was, or that of its first write. -/
theorem State.choosePort_format (s : State) : s.choosePort.band.format = s.band.format ∨
    (s.band.format = some .draining ∧ s.choosePort.band.format = some (.writing 0)) := by
  rcases s.choosePort_cases with h | ⟨-, ⟨x, h⟩ | ⟨j, -, h⟩ | ⟨r, rest, h⟩ | ⟨i, hi, h⟩⟩ <;> rw [h]
  · exact .inl rfl
  · exact .inl rfl
  · exact .inl rfl
  · exact .inl (s.startQueued_leaves r rest).2.1
  · rcases hi with ⟨hf, rfl⟩ | hf
    · exact .inr ⟨hf, rfl⟩
    · exact .inl hf.symm

/-- A locker record behind the choices of a command's end is that behind the port's. -/
theorem State.arbitrate_locker (s : State) (k : LockerNo) : s.arbitrate.locker k = s.choosePort.locker k := by
  simp only [State.locker, State.arbitrate_lockers]

/-- Settles O5: block by block, the port's changes by its own cases and the probe statuses by the two lines'. -/
theorem arbitrateFrame : Obligations.ArbitrateFrame := by
  intro s
  have hport := s.choosePort_moves
  have hframe := State.startFrame_moves (((s.choosePort).chooseExchange .a).chooseExchange .b)
  have hprobe (h : HeadNo) := s.arbitrate_probe h
  refine ⟨s.arbitrate_part, s.arbitrate_settings, s.arbitrate_store, s.arbitrate_pres, s.arbitrate_strings,
    s.arbitrate_scanner, s.arbitrate_cabins, s.arbitrate_clock, s.arbitrate_lanes, s.arbitrate_journal,
    s.arbitrate_free, s.arbitrate_pending, ?_, ?_, ?_, fun k => ?_, fun h => ?_, ?_, ?_, ?_, ?_, ?_, ?_,
    fun k => ?_, fun h => ?_⟩
  · rw [State.arbitrate_band, hport.cache]
  · rw [State.arbitrate_band, hport.lastUse]
  · rw [State.arbitrate_lockers, hport.closed]
  · rw [State.arbitrate_locker]
    exact hport.table k
  · rcases hprobe h with hh | ⟨-, hh, -⟩ <;> rw [hh]
  · exact hframe.kept.trans (congrArg Link.kept s.exchanged_link)
  · exact hframe.outstanding.trans (congrArg Link.outstanding s.exchanged_link)
  · exact hframe.floor.trans (congrArg Link.floor s.exchanged_link)
  · exact hframe.overflow.trans (congrArg Link.overflow s.exchanged_link)
  · rw [State.arbitrate_band]
    exact s.choosePort_replyWait
  · rw [State.arbitrate_band]
    exact s.choosePort_format
  · rw [State.arbitrate_locker, State.arbitrate_band]
    exact s.choosePort_dirty k
  · rcases hprobe h with hh | ⟨hdue, hh, hfree, hpoll⟩
    · exact .inl (by rw [hh])
    · exact .inr ⟨hdue, by rw [hh], _, hfree, hpoll⟩

/-! ### The choice of an engine (R153) -/

/-- The head whose probe a line's choice has sent carries the status IN_FLIGHT. -/
theorem State.chooseExchange_probe_sent {l : Line} {h : HeadNo} {w : Nat} (hfree : (s.engine l).poll = none)
    (hp : ((s.chooseExchange l).engine l).poll = some ⟨h, true, none, false, false, w⟩) :
    ((s.chooseExchange l).head h).probe = .inFlight := by
  rcases s.chooseExchange_cases l with hs | ⟨-, ⟨g, -, hs⟩ | ⟨g, hs⟩⟩ <;> rw [hs] at hp ⊢
  · rw [hfree] at hp; cases hp
  · rw [State.sendProbe_engine] at hp
    cases hp
    simp [State.sendProbe_head]
  · rw [State.sendPoll_engine] at hp
    cases hp

/-- So it does behind the choices of a command's end. -/
theorem State.arbitrate_probe_sent {l : Line} {h : HeadNo} {w : Nat} (hfree : (s.engine l).poll = none)
    (hp : (s.arbitrate.engine l).poll = some ⟨h, true, none, false, false, w⟩) :
    (s.arbitrate.head h).probe = .inFlight := by
  rw [State.arbitrate_engine] at hp
  rw [State.arbitrate_head]
  cases l with
  | a =>
    have ha := State.chooseExchange_probe_sent hfree hp
    rcases (s.chooseExchange .a).chooseExchange_head .b h with hb | ⟨-, -, hb, -⟩
    · rw [hb, ha]
    · rw [hb]
  | b =>
    have hengine := s.chooseExchange_chooseExchange_engine .a
    exact State.chooseExchange_probe_sent ((congrArg Engine.poll (s.chooseExchange_engine_other .a)).trans hfree)
      ((congrArg Engine.poll hengine).trans hp)

/-- A head is DUE on a line: in service, its probe DUE, its probe line this one. -/
def State.DueOn (s : State) (l : Line) (g : HeadNo) : Prop :=
  s.inService g = true ∧ (s.head g).probe = .due ∧ (s.head g).probeLine = l

/-- A head is polled on a line: in service, its state this line. -/
def State.PolledOn (s : State) (l : Line) (g : HeadNo) : Prop := s.inService g = true ∧ (s.head g).state = .on l

theorem State.polledOn_iff {l : Line} {g : HeadNo} : s.polledOn l g = true ↔ s.PolledOn l g := by
  simp [State.polledOn, State.PolledOn]

theorem State.polledOn_eq_false {l : Line} {g : HeadNo} : s.polledOn l g = false ↔ ¬s.PolledOn l g := by
  rw [← State.polledOn_iff, Bool.not_eq_true]

theorem State.dueProbe_eq_some {l : Line} {h : HeadNo} (hd : s.DueOn l h) (hlow : ∀ g, g < h → ¬s.DueOn l g) :
    s.dueProbe l = some h := by
  refine find?_allFin (by simpa [State.DueOn, and_assoc] using hd) fun g hg => ?_
  simpa [State.DueOn] using hlow g hg

theorem State.dueProbe_eq_none {l : Line} (hd : ∀ g, ¬s.DueOn l g) : s.dueProbe l = none := by
  refine List.find?_eq_none.2 fun g _ => ?_
  simpa [State.DueOn] using hd g

theorem State.nextRoster_eq_none {l : Line} (hp : ∀ g, ¬s.PolledOn l g) : s.nextRoster l = none := by
  have hfalse (g : HeadNo) : s.polledOn l g = false := State.polledOn_eq_false.2 (hp g)
  cases hlast : (s.engine l).last <;> simp [State.nextRoster, hlast, hfalse]

/-- The next head of a round (R153): the next above the last-polled one, or the lowest where there is none above. -/
theorem State.nextRoster_eq_some {l : Line} {h : HeadNo} (hp : s.PolledOn l h)
    (hnext : ∀ j, (s.engine l).last = some j →
      (j < h ∧ ∀ g, j < g → g < h → ¬s.PolledOn l g) ∨ (∀ g, g < h ∨ j < g → ¬s.PolledOn l g))
    (hlow : (s.engine l).last = none → ∀ g, g < h → ¬s.PolledOn l g) : s.nextRoster l = some h := by
  have lowest (hl : ∀ g, g < h → ¬s.PolledOn l g) : allHeads.find? (s.polledOn l) = some h :=
    find?_allFin (State.polledOn_iff.2 hp) fun g hg => State.polledOn_eq_false.2 (hl g hg)
  unfold State.nextRoster
  split
  · next hlast => simp [lowest (hlow hlast)]
  · next j hlast =>
    rcases hnext j hlast with ⟨hj, habove⟩ | hnone
    · have : allHeads.find? (fun g => decide (j < g) && s.polledOn l g) = some h := by
        refine find?_allFin (by simp [hj, State.polledOn_iff.2 hp]) fun g hg => ?_
        by_cases hjg : j < g
        · simp [State.polledOn_eq_false.2 (habove g hjg hg)]
        · simp [hjg]
      simp [this]
    · have : allHeads.find? (fun g => decide (j < g) && s.polledOn l g) = none := by
        refine List.find?_eq_none.2 fun g _ => ?_
        by_cases hjg : j < g
        · simp [State.polledOn_eq_false.2 (hnone g (.inr hjg))]
        · simp [hjg]
      simp [this, lowest fun g hg => hnone g (.inl hg)]

/-- Settles O7: either line's engine by its own choice, whose two searches are read by the tests they make. -/
theorem engineChoice : Obligations.EngineChoice := by
  intro s line
  refine ⟨fun h => ?_, fun hfree hw => ⟨fun h hturn hd hlow => ?_, fun h hturn hp hnext hfirst => ?_, fun hp hd => ?_⟩⟩
  · rw [State.arbitrate_engine, State.chooseExchange, if_pos h.symm]
  all_goals have hopen : ¬(s.part.winding ∨ (s.engine line).poll.isSome) := by simp [hw, hfree]
  · have hdue : s.dueProbe line = some h := State.dueProbe_eq_some hd hlow
    have hsend : s.chooseExchange line = s.sendProbe line h := by
      rw [State.chooseExchange, if_neg hopen]
      rcases hturn with hr | hp
      · simp [hdue, hr]
      · simp [hdue, State.nextRoster_eq_none hp]
        split <;> simp_all
    have hengine := (s.arbitrate_engine line).trans (hsend ▸ State.sendProbe_engine s line h)
    exact ⟨hengine, State.arbitrate_probe_sent hfree (congrArg Engine.poll hengine)⟩
  · have hround : s.nextRoster line = some h := State.nextRoster_eq_some hp hnext hfirst
    have hsend : s.chooseExchange line = s.sendPoll line h := by
      rw [State.chooseExchange, if_neg hopen]
      rcases hturn with hr | hd
      · simp [hround, hr]
      · simp [hround, State.dueProbe_eq_none hd]
    rw [State.arbitrate_engine, hsend, State.sendPoll_engine]
  · rw [State.arbitrate_engine, State.chooseExchange, if_neg hopen]
    simp [State.dueProbe_eq_none hd, State.nextRoster_eq_none hp]

/-! ### The choice of the port (R12) -/

/-- The fairness count behind the start of a queued transfer (R12; log 23). -/
theorem State.nextFairness_eq (s : State) :
    s.nextFairness = if ∃ k, (s.locker k).dirty = true then min 4 (s.band.fairness + 1) else 0 := by
  simp [State.nextFairness, State.anyDirty]

/-- The port chooses by the table behind the reads of start-up, with no write of a format to make. -/
theorem State.choosePort_table (hp : s.band.port = .ready) (hf : s.band.inFlight = none)
    (hstart : s.part.startup = .establishing ∨ s.part.startup = .done ∨
      (∃ k left held, s.part.startup = .ownership k left held))
    (hformat : s.band.format = none ∨ s.band.format = some .ended) : s.choosePort = s.chooseByTable := by
  rcases hstart with h | h | ⟨k, left, held, h⟩ <;> rcases hformat with g | g <;>
    simp [State.choosePort, hp, hf, h, g]

/-- The head of the queue starts where no MIRROR WRITE may, or its turn has not come (R12). -/
theorem State.chooseByTable_queue {r : PortRequest} {rest : List PortRequest} (hq : s.band.queue = r :: rest)
    (h : s.mirrorToWrite = none ∨ s.band.fairness ≠ 4 ∨ s.part.winding = true) :
    s.chooseByTable = s.startQueued r rest := by
  unfold State.chooseByTable
  rcases hk : s.mirrorToWrite with _ | k
  · simp [hq]
  · rcases h with h | h | h
    · rw [hk] at h; cases h
    · simp [hq, h]
    · simp [hq, h]

/-- A MIRROR WRITE starts where one may, with an empty queue or at its turn (R12). -/
theorem State.chooseByTable_mirror {k : LockerNo} (hk : s.mirrorToWrite = some k)
    (h : s.band.queue = [] ∨ (s.band.fairness = 4 ∧ s.part.winding = false)) :
    s.chooseByTable = s.startMirror k := by
  unfold State.chooseByTable
  rcases hq : s.band.queue with _ | ⟨r, rest⟩
  · simp [hk]
  · rcases h with h | h
    · rw [hq] at h; cases h
    · simp [hk, h]

/-- Settles O6: the choice at each stage, and what the start of each kind of transfer leaves. -/
theorem portChoice : Obligations.PortChoice := by
  intro s
  simp only [State.arbitrate_band, State.arbitrate_lockers]
  refine ⟨fun h => ?_, fun hp hf => ⟨fun h => ?_, fun k held h => ?_, fun hstart hformat => ?_⟩⟩
  · simp [State.choosePort, h]
  · simp [State.choosePort, hp, hf, h, State.startTransfer]
  · simp [State.choosePort, hp, hf, h, State.startTransfer]
  · rw [State.choosePort_table hp hf hstart hformat, ← State.nextFairness_eq]
    have unswept (h : ¬((s.part.startup = .establishing ∨ s.part.startup = .done) ∧ s.band.format = none) ∨
        (∀ k, (s.locker k).dirty = false)) : s.mirrorToWrite = none := by
      rw [State.mirrorToWrite_eq]
      split
      · next hs => exact State.lowestDirty_eq_none (h.resolve_left (not_not_intro hs))
      · rfl
    refine ⟨fun hq h => ?_, fun k hs hk hlow hturn => ?_, fun r rest hq hturn => ?_⟩
    · simp [State.chooseByTable, hq, unswept h]
    · have hmirror : s.mirrorToWrite = some k := by
        rw [State.mirrorToWrite_eq, if_pos hs]
        exact find?_allFin hk hlow
      rw [State.chooseByTable_mirror hmirror hturn]
      exact ⟨rfl, rfl⟩
    · have hqueued : s.chooseByTable = s.startQueued r rest := by
        refine State.chooseByTable_queue hq ?_
        rcases hturn with h | h | h
        · exact .inl (unswept (.inl h))
        · exact .inl (unswept (.inr h))
        · exact .inr h
      rw [hqueued]
      refine ⟨(s.startQueued_leaves r rest).1, ?_, ?_, ?_⟩
      · rintro e n rfl hc
        simp [State.startQueued, State.startTransfer, State.entry] at hc ⊢
        simp [hc]
      · rintro e n rec rfl hc
        simp [State.startQueued, State.waitStarted_eq, State.startTransfer, State.entry] at hc ⊢
        simp [hc]
      · rintro rfl
        simp [State.startQueued, State.waitStarted_eq, State.startTransfer]

/-! ### The choice of the transmit side (R164, R166) -/

/-- The level looked for is that of a notice above the floor that no other one is above. -/
theorem topLevel_eq {q : List Notice} {floor : Nat} {n : Notice} (hn : n ∈ q) (hfloor : floor < n.kind.level)
    (hle : ∀ m ∈ q, m.kind.level ≤ n.kind.level) : topLevel q floor = n.kind.level := by
  have upper : topLevel q floor ≤ n.kind.level := by
    clear hn
    induction q with
    | nil => exact Nat.zero_le _
    | cons a q ih =>
      have ha := hle a (by simp)
      have hq := ih fun m hm => hle m (by simp [hm])
      rw [topLevel_cons]
      split
      · exact max_le ha hq
      · exact hq
  have lower : n.kind.level ≤ topLevel q floor := by
    clear hle upper
    induction q with
    | nil => cases hn
    | cons a q ih =>
      rw [topLevel_cons]
      rcases List.mem_cons.1 hn with rfl | hn
      · rw [if_pos hfloor]; exact le_max_left _ _
      · have hq := ih hn
        split
        · exact hq.trans (le_max_right _ _)
        · exact hq
  exact le_antisymm upper lower

/-- With no notice above the floor there is no level to look for. -/
theorem topLevel_eq_zero {q : List Notice} {floor : Nat} (h : ∀ m ∈ q, m.kind.level ≤ floor) :
    topLevel q floor = 0 := by
  induction q with
  | nil => rfl
  | cons a q ih =>
    have ha := h a (by simp)
    rw [topLevel_cons, if_neg (by omega)]
    exact ih fun m hm => h m (by simp [hm])

/-- The flags byte is read off the part state, the clock and the overflow mark. -/
theorem State.flagsByte_congr {t u : State} (hpart : t.part = u.part) (hclock : t.clock = u.clock)
    (hoverflow : t.link.overflow = u.link.overflow) : t.flagsByte = u.flagsByte := by
  unfold State.flagsByte State.shownPart
  rw [hpart, hclock, hoverflow]

/-- A frame starts alike with one link, part state and clock. -/
theorem State.setLink_sendFrame_congr {t u : State} (hpart : t.part = u.part) (hclock : t.clock = u.clock) (x : Link)
    (f : Frame) : ((t.setLink x).sendFrame f).link = ((u.setLink x).sendFrame f).link := by
  have hflags : (t.setLink x).flagsByte = (u.setLink x).flagsByte := State.flagsByte_congr hpart hclock rfl
  simp only [State.sendFrame, State.setLink_link, hflags]

/-- The transmit side's choice at a command's end is that with the link, the part and the flags byte as they stood. -/
theorem State.arbitrate_link (s : State) : s.arbitrate.link = s.startFrame.link := by
  rw [State.arbitrate_eq]
  unfold State.startFrame
  simp only [State.exchanged_link, State.chooseExchange_part, State.choosePort_part]
  repeat' split
  all_goals first
    | exact s.exchanged_link
    | exact State.setLink_sendFrame_congr (by simp) (by simp) _ _

/-- Settles O8: a reply before a notice, and the notice by the highest level above the floor. -/
theorem frameChoice : Obligations.FrameChoice := by
  intro s
  rw [State.arbitrate_link]
  refine ⟨fun h => ?_, fun r rest hfree hr => ?_, fun before n behind hfree hr hw hq hfloor hbefore hbehind => ?_,
    fun hfree hr hnone => ?_⟩
  · simp [State.startFrame, h]
  · simp only [State.startFrame, hfree, hr, Option.isSome_none, Bool.false_eq_true, if_false]
    rfl
  · have htop : topLevel (before ++ n :: behind) s.link.floor.val = n.kind.level := by
      refine topLevel_eq (by simp) hfloor fun m hm => ?_
      rcases List.mem_append.1 hm with hm | hm
      · exact (hbefore m hm).le
      · rcases List.mem_cons.1 hm with rfl | hm
        · exact le_rfl
        · exact hbehind m hm
    have hfind : before.find? (fun m => m.kind.level == n.kind.level) = none :=
      List.find?_eq_none.2 fun m hm => by simpa using (hbefore m hm).ne
    have hchoose : chooseNotice s.link.notices s.link.floor.val = some n := by
      rw [chooseNotice, hq, htop, if_neg (by omega), List.find?_append, hfind]
      simp
    have hdrop : dropNotice s.link.notices s.link.floor.val = before ++ behind := by
      rw [dropNotice, hq, htop, List.eraseP_append_right _ fun m hm => by simpa using (hbefore m hm).ne,
        List.eraseP_cons_of_pos (by simp)]
    simp only [State.startFrame, hfree, hr, hw, hchoose, hdrop, Option.isSome_none, Bool.false_eq_true, if_false]
    rfl
  · have hchoose : chooseNotice s.link.notices s.link.floor.val = none := by
      rw [chooseNotice, if_pos (topLevel_eq_zero hnone)]
    simp [State.startFrame, hfree, hr, hchoose]

end
end Sys2Proof.Machine
end

section
/-!
PROOF. Power-on, the entry into STARTING, and the reads of the start-up sequence (R171 to R175). The reset values are
computed once; what the apply step does is read off the blocks it touches, one operation at a time.
-/

namespace Sys2Proof.Machine

/-! ### The reset values (R171) -/

/-- Every block at its reset values, with what a reset keeps, and the beams of lanes 0 and 1 as read (R171; log 18). -/
theorem State.resetBlocks_eq (s : State) : s.resetBlocks =
    { State.cold with
      link := { Link.atReset with sending := s.link.sending }
      store := s.store
      clock := ⟨s.clock.value, s.clock.isSet, none, none⟩
      lanes := s.poweredOn.lanes
      free := s.free
      pending := s.pending } := rfl

/-- Settles O10: the entry into STARTING is the reset of the blocks, with the frame being sent disowned. -/
theorem entersStarting : Obligations.EntersStarting := by
  intro s h
  rw [exec_enterStarting_woundDown h, State.enterStarting, State.resetBlocks_eq]
  rfl

/-- The state a reset leaves before anything has chosen. -/
def State.coldStart (s : State) : State :=
  { State.cold with store := s.store, lanes := s.poweredOn.lanes, free := s.free, pending := s.pending }

theorem State.hardReset_eq (s : State) : s.hardReset = s.cutOffTransfer.coldStart := by
  rw [State.hardReset, State.resetBlocks_eq]
  rfl

/-! ### The target of a head (R35, R152) -/

theorem headTarget_locker {h : HeadNo} (hh : h.val < 256) : headTarget h = .locker ⟨h.val, hh⟩ := by
  simp [headTarget, hh]

theorem headTarget_cabin {h : HeadNo} (hlo : 256 ≤ h.val) (hhi : h.val < 280) :
    headTarget h = .cabin ⟨h.val - 256, by omega⟩ := by
  simp [headTarget, Nat.not_lt.2 hlo, hhi]

theorem headTarget_lane {h : HeadNo} (hh : 280 ≤ h.val) : headTarget h = .lane ⟨h.val - 280, by omega⟩ := by
  have hlocker : ¬h.val < 256 := by omega
  simp [headTarget, hlocker, Nat.not_lt.2 hh]

/-- A head below 280 is in service with the string of its locker or cabin (R152). -/
theorem State.inService_of_not_fitted {s : State} (hs : ∀ i, s.stringFitted i = false) {h : HeadNo}
    (hh : h.val < 280) : s.inService h = false := by
  by_cases hlocker : h.val < 256
  · simp [State.inService, headTarget_locker hlocker, hs]
  · simp [State.inService, headTarget_cabin (Nat.not_lt.1 hlocker) hh, hs]

/-! ### Power-on and the reset pin (R171) -/

theorem State.coldStart_head (s : State) (h : HeadNo) : s.coldStart.head h = HeadRecord.atReset := by
  simp [State.coldStart, State.cold, State.head]

/-- At the reset values no string is FITTED. -/
theorem State.coldStart_stringFitted (s : State) (i : StringNo) : s.coldStart.stringFitted i = false := by
  have h : ∀ i : StringNo, State.cold.stringFitted i = false := by decide
  exact h i

/-- At the reset values engine A's round begins at head 280, whose lane is fitted by default. -/
theorem State.coldStart_chooseExchange_a (s : State) :
    s.coldStart.chooseExchange .a = s.coldStart.sendPoll .a 280 := by
  have hdue : s.coldStart.dueProbe .a = none :=
    State.dueProbe_eq_none fun g hg => by simp [State.DueOn, State.coldStart_head, HeadRecord.atReset] at hg
  have hround : s.coldStart.nextRoster .a = some 280 := by
    have hin : s.coldStart.inService 280 = true := by
      have htarget : headTarget 280 = .lane 0 := by decide
      simp only [State.inService, htarget]
      rfl
    refine State.nextRoster_eq_some ⟨hin, ?_⟩ (fun j hj => by cases hj) fun _ g hg hp => ?_
    · rw [State.coldStart_head]; rfl
    · have hoff := State.inService_of_not_fitted s.coldStart_stringFitted (h := g) hg
      rw [hp.1] at hoff
      cases hoff
  simp only [State.chooseExchange, hdue, hround]
  rfl

/-- Engine B finds no head on its line. -/
theorem State.coldStart_chooseExchange_b (s : State) :
    (s.coldStart.sendPoll .a 280).chooseExchange .b = s.coldStart.sendPoll .a 280 := by
  have hhead (g : HeadNo) : (s.coldStart.sendPoll .a 280).head g = HeadRecord.atReset := by
    rw [State.sendPoll_head, State.coldStart_head]
  have hdue : (s.coldStart.sendPoll .a 280).dueProbe .b = none :=
    State.dueProbe_eq_none fun g hg => by simp [State.DueOn, hhead, HeadRecord.atReset] at hg
  have hround : (s.coldStart.sendPoll .a 280).nextRoster .b = none :=
    State.nextRoster_eq_none fun g hg => by simp [State.PolledOn, hhead, HeadRecord.atReset] at hg
  simp only [State.chooseExchange, hdue, hround]
  rfl

/-- From the reset values the port starts the header read and engine A its first poll. -/
theorem State.coldStart_arbitrate (s : State) : s.coldStart.arbitrate = s.poweredOn := by
  have hport : s.coldStart.choosePort = s.coldStart.startTransfer .headerRead := rfl
  rw [State.arbitrate_eq, State.choosePort_chooseExchange, State.setBand_setLockers_chooseExchange,
    State.coldStart_chooseExchange_a, State.coldStart_chooseExchange_b, hport]
  rfl

/-- A transfer that writes, cut off, leaves its bytes to a free value; one that reads leaves the store (R4). -/
theorem State.cutOffTransfer_eq {s : State} {f : InFlight} (h : s.band.inFlight = some f) : s.cutOffTransfer =
    match f.transfer.target with
    | some (a, bs) => (s.setStore (s.store.cutOff a bs.length s.free)).setFree (s.free + 1)
    | none => s := by
  simp only [State.cutOffTransfer, h]
  cases f.transfer <;> rfl

/-- Looking an address up behind a filter that keeps every item of that address. -/
theorem find?_address_filter {l : List (Nat × Nat)} {x : Nat} {keep : Nat × Nat → Bool}
    (h : ∀ u, u.1 = x → keep u = true) :
    (l.filter keep).find? (fun u => u.1 = x) = l.find? (fun u => u.1 = x) := by
  rw [List.find?_filter]
  refine congrArg (fun p => l.find? p) (funext fun u => ?_)
  by_cases hu : u.1 = x <;> simp [hu, h]

/-- A byte of a record whose write was cut off is a free value (R4, log 13). -/
theorem Store.cutOff_byte_inside (st : Store) {a len x : Nat} (n : Nat) (hlo : a ≤ x) (hhi : x < a + len) :
    (st.cutOff a len n).byte x = Config.cutOffByte n x := by
  have hindex : (List.range len).find? (fun i => decide (a + i = x)) = some (x - a) := by
    rw [List.find?_range_eq_some]
    refine ⟨by simp; omega, by simp; omega, fun j hj => by simp; omega⟩
  have hfind : ((List.range len).map (fun i => (a + i, n))).find? (fun u => decide (u.1 = x)) = some (x, n) := by
    rw [List.find?_map]
    simp only [Function.comp_def, hindex, Option.map_some]
    congr 2
    omega
  simp [Store.byte, Store.cutOff, hfind]

/-- Every other byte is as it was. -/
theorem Store.cutOff_byte_outside (st : Store) {a len x : Nat} (n : Nat) (h : x < a ∨ a + len ≤ x) :
    (st.cutOff a len n).byte x = st.byte x := by
  have hcut : ((List.range len).map (fun i => (a + i, n))).find? (fun u => decide (u.1 = x)) = none := by
    simp only [List.find?_map, Option.map_eq_none_iff, List.find?_eq_none, List.mem_range, Function.comp_apply,
      decide_eq_true_eq]
    omega
  have hrest := find?_address_filter (l := st.unsettled) (x := x)
    (keep := fun u => u.1 < a || a + len ≤ u.1) fun u hu => by simpa [hu] using h
  simp only [Store.byte, Store.cutOff, List.find?_append, hcut, hrest, Option.none_or]

/-- Settles O9: a reset is the cut-off of the transfer and the state right after reset. -/
theorem powerOnResets : Obligations.PowerOnResets := by
  have hreset (s : State) : s.hardReset.arbitrate = s.cutOffTransfer.poweredOn := by
    rw [State.hardReset_eq, State.coldStart_arbitrate]
  refine ⟨fun s h => ?_, fun s f h => ⟨_, exec_powerOn_eq s, exec_resetPin_eq s, ?_, fun a bs ht => ?_, fun ht => ?_⟩⟩
  · have hcut : s.cutOffTransfer = s := by simp [State.cutOffTransfer, h]
    rw [exec_powerOn_eq, exec_resetPin_eq, hreset, hcut]
    exact ⟨rfl, rfl⟩
  all_goals rw [hreset, State.cutOffTransfer_eq h]
  · split <;> rfl
  · rw [ht]
    exact ⟨rfl, fun x hlo hhi => Store.cutOff_byte_inside s.store s.free hlo hhi,
      fun x hx => Store.cutOff_byte_outside s.store s.free hx⟩
  · rw [ht]
    exact ⟨rfl, rfl⟩

end Sys2Proof.Machine
end

section
/-!
PROOF. Folds over the records of a block, and the operations of start-up that are made of them (R175, R176): strings
that enter or leave service, lanes that are fitted, lockers that are vacated, and heads that leave service (R29, R152).
A fold is read record by record, beside what it leaves of the state.
-/

namespace Sys2Proof.Machine

/-! ### A fold over distinct records -/

section
variable {ι α : Type} [DecidableEq ι] {P : State → Prop} {get : State → ι → α} {f : State → ι → State} {g : ι → α → α}

/-- A step that changes one record, and leaves what is said of the rest, does so for every number of a list without
repetition. -/
theorem foldl_record (hP : ∀ t i, P t → P (f t i))
    (hg : ∀ t i j, P t → get (f t i) j = if i = j then g i (get t i) else get t j) {l : List ι} (hl : l.Nodup)
    {s : State} (hs : P s) :
    P (l.foldl f s) ∧ ∀ j, get (l.foldl f s) j = if j ∈ l then g j (get s j) else get s j := by
  induction l generalizing s with
  | nil => exact ⟨hs, fun j => by simp⟩
  | cons i l ih =>
    obtain ⟨hi, hl⟩ := List.nodup_cons.1 hl
    obtain ⟨hPl, hgl⟩ := ih hl (hP s i hs)
    refine ⟨hPl, fun j => ?_⟩
    rw [List.foldl_cons, hgl j, hg s i j hs]
    by_cases hij : i = j
    · subst hij
      simp [hi]
    · simp [hij, Ne.symm hij]

end

/-! ### Records behind the replacement of one -/

theorem State.setString_string (s : State) (i j : StringNo) (x : StringRecord) :
    (s.setString i x).string j = if i = j then x else s.string j := by
  show (s.strings.set i.val x)[j.val] = _
  rw [Vector.getElem_set]
  simp only [Fin.val_inj]
  rfl

theorem State.setContacts_contacts (s : State) (i j : StringNo) (x : StringContacts) :
    (s.setContacts i x).contacts j = if i = j then x else s.contacts j := by
  show (s.scanner.set i.val x)[j.val] = _
  rw [Vector.getElem_set]
  simp only [Fin.val_inj]
  rfl

theorem State.setLane_lane (s : State) (l m : LaneNo) (x : Lane) :
    (s.setLane l x).lane m = if l = m then x else s.lane m := by
  show (s.lanes.table.set l.val x)[m.val] = _
  rw [Vector.getElem_set]
  simp only [Fin.val_inj]
  rfl

theorem State.setLocker_locker (s : State) (k j : LockerNo) (x : Locker) :
    (s.setLocker k x).locker j = if k = j then x else s.locker j := by
  show (s.lockers.table.set k.val x)[j.val] = _
  rw [Vector.getElem_set]
  simp only [Fin.val_inj]
  rfl

theorem State.setCabin_cabin (s : State) (c d : CabinNo) (x : Cabin) :
    (s.setCabin c x).cabin d = if c = d then x else s.cabin d := by
  show (s.cabins.table.set c.val x)[d.val] = _
  rw [Vector.getElem_set]
  simp only [Fin.val_inj]
  rfl

theorem State.setEntry_entry (s : State) (e f : EntryNo) (x : CacheEntry) :
    (s.setEntry e x).entry f = if e = f then x else s.entry f := by
  show (s.band.cache.set e.val x)[f.val] = _
  rw [Vector.getElem_set]
  simp only [Fin.val_inj]
  rfl

theorem State.setSlot_slot (s : State) (h g : HeadNo) (x : Option Presentation) :
    (s.setSlot h x).slot g = if h = g then x else s.slot g := by
  show (s.pres.set h.val x)[g.val] = _
  rw [Vector.getElem_set]
  simp only [Fin.val_inj]
  rfl

@[simp] theorem State.setSlot_entry (s : State) (h : HeadNo) (x : Option Presentation) (e : EntryNo) :
    (s.setSlot h x).entry e = s.entry e := rfl

/-! ### Strings that enter or leave service (R75, R76) -/

/-- The string drivers and the scanner are all that may differ. -/
def State.StringsOnly (s t : State) : Prop := ∃ x y, t = (s.setStrings x).setScanner y

/-- A string takes a record, with every contact unknown. -/
def State.renewString (x : StringRecord) (s : State) (i : Fin 8) : State :=
  (s.setString (lockerStringNo i) x).setContacts (lockerStringNo i) StringContacts.atReset

theorem State.establish_eq (s : State) (i : Fin 8) :
    s.establish (lockerStringNo i) = s.renewString ⟨.establishing, [], .idle⟩ i := rfl

theorem State.unfitString_eq (s : State) (i : Fin 8) :
    s.unfitString (lockerStringNo i) = s.renewString StringRecord.atReset i := rfl

/-- Strings renewed one after another: each of them has the record and unknown contacts, and nothing else changes. -/
theorem State.foldl_renewString (x : StringRecord) (l : List (Fin 8)) (s : State) :
    s.StringsOnly (l.foldl (State.renewString x) s) ∧
    ∀ j, ((∃ i ∈ l, lockerStringNo i = j) → (l.foldl (State.renewString x) s).string j = x ∧
        (l.foldl (State.renewString x) s).contacts j = StringContacts.atReset) ∧
      ((∀ i ∈ l, lockerStringNo i ≠ j) → (l.foldl (State.renewString x) s).string j = s.string j ∧
        (l.foldl (State.renewString x) s).contacts j = s.contacts j) := by
  induction l using List.reverseRecOn with
  | nil => exact ⟨⟨_, _, rfl⟩, fun j => ⟨by simp, fun _ => ⟨rfl, rfl⟩⟩⟩
  | append_singleton l i ih =>
    obtain ⟨honly, hrecords⟩ := ih
    rw [List.foldl_append, List.foldl_cons, List.foldl_nil]
    set t := l.foldl (State.renewString x) s
    have hstring (j) : (t.renewString x i).string j = if lockerStringNo i = j then x else t.string j :=
      t.setString_string _ j x
    have hcontacts (j) : (t.renewString x i).contacts j =
        if lockerStringNo i = j then StringContacts.atReset else t.contacts j :=
      State.setContacts_contacts _ _ j _
    refine ⟨?_, fun j => ⟨?_, fun hj => ?_⟩⟩
    · obtain ⟨y, z, ht⟩ := honly
      rw [ht]
      exact ⟨_, _, rfl⟩
    · rintro ⟨k, hk, hkj⟩
      rw [hstring, hcontacts]
      by_cases hij : lockerStringNo i = j
      · simp [hij]
      · rcases List.mem_append.1 hk with hk | hk
        · simpa [hij] using (hrecords j).1 ⟨k, hk, hkj⟩
        · obtain rfl := List.mem_singleton.1 hk
          exact absurd hkj hij
    · rw [hstring, hcontacts, if_neg (hj i (by simp)), if_neg (hj i (by simp))]
      exact (hrecords j).2 fun k hk => hj k (by simp [hk])

theorem mem_stringsBetween {lo hi : Nat} {i : Fin 8} : i ∈ stringsBetween lo hi ↔ lo ≤ i.val ∧ i.val < hi := by
  simp [stringsBetween]

/-- The fitted strings of the table enter ESTABLISHING with unknown contacts, and nothing else changes (R175, R176). -/
theorem State.establishFitted_spec (s : State) : s.StringsOnly s.establishFitted ∧
    (∀ j : StringNo, j.val < 8 → j.val < s.settings.fittedStrings →
      s.establishFitted.string j = ⟨.establishing, [], .idle⟩ ∧
        s.establishFitted.contacts j = StringContacts.atReset) := by
  obtain ⟨honly, hrecords⟩ := State.foldl_renewString ⟨.establishing, [], .idle⟩
    (stringsBetween 0 s.settings.fittedStrings) s
  exact ⟨honly, fun j hj hfit => (hrecords j).1 ⟨⟨j.val, hj⟩, mem_stringsBetween.2 ⟨Nat.zero_le _, hfit⟩, rfl⟩⟩

/-! ### Lanes that are fitted (R125) -/

/-- The lane table is all that may differ. -/
def State.LanesOnly (s t : State) : Prop := ∃ x, t = s.setLanes { s.lanes with table := x }

/-- Each fitted lane reads its beams, and nothing else changes (R125; log 18). -/
theorem State.readBeams_spec (s : State) : s.LanesOnly s.readBeams ∧ ∀ l, s.readBeams.lane l =
    if s.laneFitted l then { s.lane l with beams := s.lanes.pins[l.val], phase := 0 } else s.lane l := by
  have step (t : State) (l : LaneNo) (ht : s.LanesOnly t) :
      (if t.laneFitted l then t.setLane l { t.lane l with beams := t.lanes.pins[l.val], phase := 0 } else t) =
        if s.laneFitted l then t.setLane l { t.lane l with beams := s.lanes.pins[l.val], phase := 0 } else t := by
    obtain ⟨x, rfl⟩ := ht
    rfl
  obtain ⟨honly, hlane⟩ := foldl_record (P := s.LanesOnly) (get := State.lane)
    (f := fun t l => if t.laneFitted l then t.setLane l { t.lane l with beams := t.lanes.pins[l.val], phase := 0 }
      else t)
    (g := fun l x => if s.laneFitted l then { x with beams := s.lanes.pins[l.val], phase := 0 } else x)
    (fun t l ht => by
      rw [step t l ht]
      split
      · obtain ⟨x, rfl⟩ := ht
        exact ⟨_, rfl⟩
      · exact ht)
    (fun t l m ht => by
      rw [step t l ht]
      by_cases hlm : l = m
      · subst hlm; split <;> simp [State.setLane_lane]
      · split <;> simp [State.setLane_lane, hlm])
    (List.nodup_finRange 4) ⟨_, rfl⟩
  exact ⟨honly, fun l => (hlane l).trans (if_pos (List.mem_finRange l))⟩

/-- Each lane that is not fitted takes its reset values, and nothing else changes (R125; log 41). -/
theorem State.unfitLanes_spec (s : State) : s.LanesOnly s.unfitLanes ∧ ∀ l, s.unfitLanes.lane l =
    if s.laneFitted l then s.lane l else Lane.atReset := by
  have step (t : State) (l : LaneNo) (ht : s.LanesOnly t) :
      (if t.laneFitted l then t else t.unfitLane l) =
        if s.laneFitted l then t else t.setLane l Lane.atReset := by
    obtain ⟨x, rfl⟩ := ht
    rfl
  obtain ⟨honly, hlane⟩ := foldl_record (P := s.LanesOnly) (get := State.lane)
    (f := fun t l => if t.laneFitted l then t else t.unfitLane l)
    (g := fun l x => if s.laneFitted l then x else Lane.atReset)
    (fun t l ht => by
      rw [step t l ht]
      split
      · exact ht
      · obtain ⟨x, rfl⟩ := ht
        exact ⟨_, rfl⟩)
    (fun t l m ht => by
      rw [step t l ht]
      by_cases hlm : l = m
      · subst hlm; split <;> simp [State.setLane_lane]
      · split <;> simp [State.setLane_lane, hlm])
    (List.nodup_finRange 4) ⟨_, rfl⟩
  exact ⟨honly, fun l => (hlane l).trans (if_pos (List.mem_finRange l))⟩

/-! ### Lockers that are vacated (R175; log 36) -/

/-- The locker table is all that may differ. -/
def State.LockersOnly (s t : State) : Prop := ∃ x, t = s.setLockers { s.lockers with table := x }

/-- A locker on a string that is not fitted, once vacated. -/
def Locker.vacated (l : Locker) : Locker :=
  if l.state = .suspended then l
  else if l.state = .vacant ∧ l.owner = none ∧ l.companions = [] then l
  else { l with state := .vacant, owner := none, companions := [], dirty := true }

theorem State.vacateUnfitted_locker (s : State) (k j : LockerNo) :
    (s.vacateUnfitted k).locker j = if k = j then (s.locker k).vacated else s.locker j := by
  simp only [State.vacateUnfitted, Locker.vacated, State.disown]
  by_cases hkj : k = j
  · subst hkj; split <;> [skip; split] <;> simp [State.setLocker_locker]
  · split <;> [skip; split] <;> simp [State.setLocker_locker, hkj]

/-- The lockers on strings that are not fitted are vacated, and nothing else changes. -/
theorem State.vacateAllUnfitted_spec (s : State) : s.LockersOnly s.vacateAllUnfitted ∧
    ∀ k, s.vacateAllUnfitted.locker k =
      if s.settings.fittedStrings ≤ k.val / 32 then (s.locker k).vacated else s.locker k := by
  have step (t : State) (k : LockerNo) (ht : s.LockersOnly t) :
      (if t.settings.fittedStrings ≤ k.val / 32 then t.vacateUnfitted k else t) =
        if s.settings.fittedStrings ≤ k.val / 32 then t.vacateUnfitted k else t := by
    obtain ⟨x, rfl⟩ := ht
    rfl
  obtain ⟨honly, hlocker⟩ := foldl_record (P := s.LockersOnly) (get := State.locker)
    (f := fun t k => if t.settings.fittedStrings ≤ k.val / 32 then t.vacateUnfitted k else t)
    (g := fun k x => if s.settings.fittedStrings ≤ k.val / 32 then x.vacated else x)
    (fun t k ht => by
      rw [step t k ht]
      split
      · unfold State.vacateUnfitted
        dsimp only
        split
        · exact ht
        · split
          · exact ht
          · obtain ⟨x, rfl⟩ := ht
            exact ⟨_, rfl⟩
      · exact ht)
    (fun t k j ht => by
      rw [step t k ht]
      split
      · exact t.vacateUnfitted_locker k j
      · by_cases hkj : k = j <;> simp [hkj])
    (List.nodup_finRange 256) ⟨_, rfl⟩
  exact ⟨honly, fun k => (hlocker k).trans (if_pos (List.mem_finRange k))⟩

/-! ### Heads that leave service (R29, R152) -/

/-- The presentation records, the cache entries and the reader lines are all that may differ. -/
def State.HeadsOnly (s t : State) : Prop :=
  ∃ p r c, t = ((s.setPres p).setReader r).setBand { s.band with cache := c }

theorem State.HeadsOnly.trans {s t u : State} (h : s.HeadsOnly t) (g : t.HeadsOnly u) : s.HeadsOnly u := by
  obtain ⟨p, r, c, rfl⟩ := h
  obtain ⟨p, r, c, rfl⟩ := g
  exact ⟨p, r, c, rfl⟩

/-- No head has left. -/
theorem State.HeadsLeft.refl (s : State) : s.HeadsLeft s (fun _ => false) where
  slots _ := rfl
  heads _ := rfl
  engines line := by
    rcases hp : (s.engine line).poll with _ | p
    · rw [Option.map_none, ← hp]
    · simp only [Option.map_some, Bool.or_false]
      rw [← hp]
  waiters e := by
    have hmark : s.markWaiter (fun _ => false) = id := by
      funext w
      cases w <;> simp [State.markWaiter]
    rw [hmark, List.map_id]

/-- Heads that leave in two steps leave together. -/
theorem State.HeadsLeft.trans {s t u : State} {left gone : HeadNo → Bool} (h : s.HeadsLeft t left)
    (g : t.HeadsLeft u gone) : s.HeadsLeft u (fun n => left n || gone n) where
  slots n := by
    rw [g.slots, h.slots]
    cases left n <;> cases gone n <;> rfl
  heads n := by
    rw [g.heads, h.heads]
    cases left n <;> cases gone n <;> rfl
  engines line := by
    rw [g.engines, h.engines, Option.map_map]
    refine congrArg (fun p => { s.engine line with poll := p }) (congrFun (congrArg Option.map (funext fun p => ?_)) _)
    simp only [Function.comp_apply, Bool.or_assoc]
  waiters e := by
    rw [g.waiters, h.waiters, List.map_map]
    refine congrArg (fun ws => { s.entry e with waiters := ws }) (congrFun (congrArg List.map (funext fun w => ?_)) _)
    cases w with
    | lookup n p =>
      simp only [Function.comp_apply, State.markWaiter, h.slots]
      rcases left n with _ | _ <;> rcases gone n with _ | _ <;> simp
    | _ => rfl

/-- The mark of a superseded lookup, in one entry after another (R27). -/
theorem State.supersede_spec (s : State) (h : HeadNo) :
    (∃ c, s.supersede h = s.setBand { s.band with cache := c }) ∧
      ∀ e, (s.supersede h).entry e = (s.entry e).supersede h := by
  obtain ⟨honly, hentry⟩ := foldl_record (P := fun t => ∃ c, t = s.setBand { s.band with cache := c })
    (get := State.entry) (f := fun t e => t.setEntry e ((t.entry e).supersede h)) (g := fun _ x => x.supersede h)
    (fun t e ⟨c, ht⟩ => by subst ht; exact ⟨_, rfl⟩) (fun t e f _ => State.setEntry_entry t e f _) (List.nodup_finRange 32)
    ⟨s.band.cache, rfl⟩
  exact ⟨honly, fun e => (hentry e).trans (if_pos (List.mem_finRange e))⟩

/-- With no pending presentation at a head, no lookup is marked for it. -/
theorem State.markWaiter_of_not_pending {s : State} {h : HeadNo} (hs : (s.slot h).any (fun q => !q.decided) = false) :
    s.markWaiter (fun g => g == h) = id := by
  funext w
  cases w with
  | lookup g p =>
    by_cases hg : g = h
    · simp [State.markWaiter, hg, hs]
    · simp [State.markWaiter, beq_eq_false_iff_ne.2 hg]
  | _ => rfl

/-- With a pending one, its lookups are marked. -/
theorem State.markWaiter_of_pending {s : State} {h : HeadNo} (hs : (s.slot h).any (fun q => !q.decided) = true) :
    s.markWaiter (fun g => g == h) = supersedeIn h := by
  funext w
  cases w with
  | lookup g p =>
    by_cases hg : g = h
    · simp [State.markWaiter, supersedeIn, hg, hs]
    · simp [State.markWaiter, supersedeIn, beq_eq_false_iff_ne.2 hg, hg]
  | _ => rfl

/-- A presentation dropped (R29): the head's slot is empty, the lookups of a pending one carry the mark, and nothing
else changes. -/
theorem State.dropPresentation_spec (s : State) (h : HeadNo) :
    (∃ p c, s.dropPresentation h = (s.setPres p).setBand { s.band with cache := c }) ∧
      (∀ g, (s.dropPresentation h).slot g = if h = g then none else s.slot g) ∧
      ∀ e, (s.dropPresentation h).entry e =
        { s.entry e with waiters := (s.entry e).waiters.map (s.markWaiter (fun g => g == h)) } := by
  have unmarked (hs : (s.slot h).any (fun q => !q.decided) = false) (e : EntryNo) : s.entry e =
      { s.entry e with waiters := (s.entry e).waiters.map (s.markWaiter (fun g => g == h)) } := by
    rw [State.markWaiter_of_not_pending hs, List.map_id]
  rcases hslot : s.slot h with _ | p
  · have hdrop : s.dropPresentation h = s := by simp [State.dropPresentation, hslot]
    rw [hdrop]
    refine ⟨⟨_, _, rfl⟩, fun g => ?_, unmarked (by simp [hslot])⟩
    by_cases hg : h = g
    · simp [← hg, hslot]
    · simp [hg]
  · by_cases hp : p.decided = true
    · have hdrop : s.dropPresentation h = s.setSlot h none := by simp [State.dropPresentation, hslot, hp]
      rw [hdrop]
      exact ⟨⟨s.pres.set h.val none, s.band.cache, rfl⟩, fun g => s.setSlot_slot h g none, unmarked (by simp [hslot, hp])⟩
    · have hdrop : s.dropPresentation h = (s.supersede h).setSlot h none := by
        simp [State.dropPresentation, hslot, hp]
      obtain ⟨⟨c, honly⟩, hentry⟩ := s.supersede_spec h
      have hpres : (s.supersede h).pres = s.pres := by rw [honly]; rfl
      rw [hdrop]
      refine ⟨⟨s.pres.set h.val none, c, by rw [State.setSlot, hpres, honly]; rfl⟩, fun g => ?_, fun e => ?_⟩
      · rw [State.setSlot_slot]
        simp only [State.slot, hpres]
      · rw [State.setSlot_entry, hentry, State.markWaiter_of_pending (by simp [hslot, hp])]
        rfl

/-- A poll marked stale where it is one of the head (R152). -/
theorem Engine.markStale_eq (x : Engine) (h : HeadNo) :
    x.markStale h = { x with poll := x.poll.map (fun p => { p with stale := p.stale || p.head == h }) } := by
  unfold Engine.markStale
  rcases hp : x.poll with _ | p
  · dsimp only [Option.map_none]
    rw [← hp]
  · by_cases hh : p.head = h
    · simp [hh]
    · simp only [hh, if_false, Option.map_some, beq_eq_false_iff_ne.2 hh, Bool.or_false]
      rw [← hp]

/-- A head leaves service by itself (R29, R152). -/
theorem State.leaveService_spec (s : State) (h : HeadNo) :
    s.HeadsOnly (s.leaveService h) ∧ s.HeadsLeft (s.leaveService h) (fun g => g == h) := by
  obtain ⟨⟨p, c, honly⟩, hslot, hentry⟩ := s.dropPresentation_spec h
  have hreader : (s.dropPresentation h).reader = s.reader := by rw [honly]; rfl
  refine ⟨⟨p, (s.leaveService h).reader, c, ?_⟩, fun g => ?_, fun g => ?_, fun line => ?_, fun e => ?_⟩
  · simp only [State.leaveService]
    rw [honly]
    rfl
  · refine (hslot g).trans ?_
    by_cases hg : h = g
    · simp [hg]
    · simp [hg, beq_eq_false_iff_ne.2 (Ne.symm hg)]
  · refine ((s.dropPresentation h).setHead_head h g _).trans ?_
    by_cases hg : h = g
    · simp [hg]
    · simp [hg, beq_eq_false_iff_ne.2 (Ne.symm hg), State.head, hreader]
  · have hengine : (s.leaveService h).engine line = (s.engine line).markStale h := by
      have : (s.dropPresentation h).engine line = s.engine line := by cases line <;> simp only [State.engine, hreader]
      rw [← this]
      cases line <;> rfl
    rw [hengine, Engine.markStale_eq]
  · exact hentry e

/-- Whether a head is in service is no matter of the heads' own records. -/
theorem State.HeadsOnly.inService {s t : State} (h : s.HeadsOnly t) (g : HeadNo) : t.inService g = s.inService g := by
  obtain ⟨p, r, c, rfl⟩ := h
  rfl

/-- The heads that were in service before and are not now leave it, and no other does (R29, R152). -/
theorem State.leaveAll_spec (s before : State) : s.HeadsOnly (s.leaveAll before) ∧
    s.HeadsLeft (s.leaveAll before) (fun h => before.inService h && !s.inService h) := by
  have fold (l : List HeadNo) :
      let t := l.foldl (fun t h => if before.inService h && !t.inService h then t.leaveService h else t) s
      s.HeadsOnly t ∧ s.HeadsLeft t (fun h => decide (h ∈ l) && (before.inService h && !s.inService h)) := by
    induction l using List.reverseRecOn with
    | nil => exact ⟨⟨_, _, _, rfl⟩, by simpa using State.HeadsLeft.refl s⟩
    | append_singleton l h ih =>
      obtain ⟨honly, hleft⟩ := ih
      rw [List.foldl_append, List.foldl_cons, List.foldl_nil]
      set t := l.foldl (fun t h => if before.inService h && !t.inService h then t.leaveService h else t) s
      rw [honly.inService h]
      by_cases hh : (before.inService h && !s.inService h) = true
      · obtain ⟨honly', hleft'⟩ := t.leaveService_spec h
        rw [if_pos hh]
        refine ⟨honly.trans honly', ?_⟩
        convert hleft.trans hleft' using 2 with g
        by_cases hg : g = h
        · subst hg; simp [hh]
        · simp [hg]
      · rw [if_neg hh]
        refine ⟨honly, ?_⟩
        convert hleft using 2 with g
        by_cases hg : g = h
        · subst hg; simp [hh]
        · simp [hg]
  obtain ⟨honly, hleft⟩ := fold allHeads
  refine ⟨honly, ?_⟩
  have hall : (fun h => decide (h ∈ allHeads) && (before.inService h && !s.inService h)) =
      (fun h => before.inService h && !s.inService h) := by
    funext g
    simp [List.mem_finRange]
  exact hall ▸ hleft

end Sys2Proof.Machine
end

section
/-!
PROOF. The reads of the start-up sequence and what follows the last of them: NO_STORE, the ownership check's first
operations, and the apply step (R172 to R176).
-/

namespace Sys2Proof.Machine

/-! ### Cabins opened at start-up (R175) -/

/-- The cabin table and the queue of string 8 are all that may differ. -/
def State.CabinsOnly (s t : State) : Prop :=
  ∃ x y, t = (s.setCabins x).setStrings y ∧ ∀ i : StringNo, i.val < 8 → y[i.val] = s.strings[i.val]

theorem State.CabinsOnly.refl (s : State) : s.CabinsOnly s := ⟨_, _, rfl, fun _ _ => rfl⟩

theorem State.openCabin_only {s t : State} (h : s.CabinsOnly t) (c : CabinNo) (a : CabinAction) (prior : CabinState)
    (x : Bool) : s.CabinsOnly (t.openCabin c a prior x) := by
  obtain ⟨x, y, rfl, hy⟩ := h
  rw [State.openCabin, State.placePulse_eq]
  refine ⟨_, _, rfl, fun i hi => ?_⟩
  rw [← hy i hi]
  refine Vector.getElem_set_ne _ _ fun h8 => ?_
  change 8 = i.val at h8
  omega

/-- Opening the bolted cabins changes cabins and the queue of string 8. -/
theorem State.restoreCabins_only (s : State) : s.CabinsOnly s.restoreCabins := by
  refine List.foldlRecOn (motive := s.CabinsOnly) _ _ (.refl s) fun t ht c _ => ?_
  split
  · exact State.openCabin_only ht ..
  · exact ht

theorem State.restoreIfFitted_only (s : State) : s.CabinsOnly s.restoreIfFitted := by
  unfold State.restoreIfFitted
  split
  · exact s.restoreCabins_only
  · exact .refl s

/-! ### The header read and NO_STORE (R172, R176) -/

/-- A header read in flight completes. -/
theorem exec_headerReadComplete_eq {s : State} {seen : Option (List Byte)} {r : Bool}
    (h : s.band.inFlight = some ⟨.headerRead, r⟩) : exec (.headerReadComplete seen) s =
      .next (((s.setStore (s.store.seen 0 256 seen)).portReady).headerRead
        ((s.store.seen 0 256 seen).bytes 0 256)).arbitrate := by
  have hevent : s.headerReadEvent seen = s.headerReadDone seen := by simp [State.headerReadEvent, h]
  exact congrArg (fun t : State => Host.Outcome.next t.arbitrate) hevent

/-- The part that enters NO_STORE (R176): its fields from the reset values on. -/
theorem State.enterNoStore_spec (s : State) :
    let t := s.enterNoStore
    t.part = ⟨.noStore, false, .done⟩ ∧ t.band = BandUnit.atReset ∧ t.settings = Settings.default ∧
    (∀ k, t.locker k = Locker.atReset) ∧ t.lockers.closed = s.lockers.closed ∧
    (∀ i : StringNo, i.val < 8 → t.string i = ⟨.establishing, [], .idle⟩ ∧ t.contacts i = StringContacts.atReset) ∧
    t.link = s.link ∧ t.store = s.store ∧ t.pres = s.pres ∧ t.clock = s.clock ∧
    t.journal = s.journal ∧ t.reader = s.reader ∧ t.free = s.free := by
  let u : State := (((s.setPart ⟨.noStore, false, .done⟩).setBand BandUnit.atReset).setSettings
    Settings.default).setLockers { s.lockers with table := Vector.replicate 256 Locker.atReset }
  intro t
  have ht : t = (u.establishFitted.readBeams).restoreIfFitted := rfl
  clear_value t
  obtain ⟨honly, hestablished⟩ := u.establishFitted_spec
  generalize u.establishFitted = v at ht honly hestablished
  obtain ⟨x, y, rfl⟩ := honly
  obtain ⟨honly, -⟩ := State.readBeams_spec ((u.setStrings x).setScanner y)
  generalize ((u.setStrings x).setScanner y).readBeams = w at ht honly
  obtain ⟨z, rfl⟩ := honly
  obtain ⟨p, q, hcabins, hq⟩ := State.restoreIfFitted_only
    (((u.setStrings x).setScanner y).setLanes { u.lanes with table := z })
  obtain rfl := ht.trans hcabins
  refine ⟨rfl, rfl, rfl, fun k => ?_, rfl, fun i hi => ?_, rfl, rfl, rfl, rfl, rfl, rfl, rfl⟩
  · exact Vector.getElem_replicate k.isLt
  · obtain ⟨hstring, hcontacts⟩ := hestablished i hi hi
    exact ⟨(hq i hi).trans hstring, hcontacts⟩

/-- Settles O11: the header's values are held for the mirror reads, or the part is in NO_STORE. -/
theorem headerReadCompletes : Obligations.HeaderReadCompletes := by
  refine ⟨fun s seen r held h hgood => ?_, fun s seen r h hbad => ⟨_, exec_headerReadComplete_eq h, ?_⟩⟩
  · rw [exec_headerReadComplete_eq h, State.headerRead, hgood]
    rfl
  · rw [State.headerRead, hbad]
    exact State.enterNoStore_spec _

/-! ### The apply step (R175) -/

/-- With a string of the fitted count still ESTABLISHING the part does not enter RUNNING (R175). -/
theorem State.checkRunning_waits {s : State} (hn : 1 ≤ s.settings.fittedStrings)
    (h : s.string 0 = ⟨.establishing, [], .idle⟩) : s.checkRunning = s := by
  have hwaits : s.allFitted = false := by
    have : s.stringFitted (lockerStringNo 0) = false := by
      simp only [State.stringFitted, show lockerStringNo 0 = 0 from rfl, h]
      rfl
    rw [State.allFitted, Bool.and_eq_false_iff]
    refine .inr (List.all_eq_false.2 ⟨0, mem_stringsBetween.2 ⟨Nat.zero_le _, hn⟩, by simp [this]⟩)
  simp [State.checkRunning, hwaits]

/-- The apply step of a part that is starting, with a string to fit (R175). -/
theorem State.applyHeld_applied {s : State} {stage : Startup} {held : Settings} (hpart : s.part = ⟨.starting, false, stage⟩)
    (hn : 1 ≤ held.fittedStrings) : s.Applied (s.applyHeld held) held := by
  let u : State := ((s.setSettings held).setPart { s.part with startup := .establishing }).clampMisses
  have happly : s.applyHeld held =
      (((u.establishFitted.unfitLanes.readBeams.leaveAll s).vacateAllUnfitted).restoreIfFitted).checkRunning := rfl
  generalize s.applyHeld held = t at happly ⊢
  obtain ⟨hstrings, hestablished⟩ := u.establishFitted_spec
  generalize u.establishFitted = t₁ at happly hstrings hestablished
  obtain ⟨hunfit, hunfitted⟩ := t₁.unfitLanes_spec
  generalize t₁.unfitLanes = t₂ at happly hunfit hunfitted
  obtain ⟨hbeams, hread⟩ := t₂.readBeams_spec
  generalize t₂.readBeams = t₃ at happly hbeams hread
  obtain ⟨hheads, -⟩ := t₃.leaveAll_spec s
  generalize t₃.leaveAll s = t₄ at happly hheads
  obtain ⟨hlockers, hvacated⟩ := t₄.vacateAllUnfitted_spec
  generalize t₄.vacateAllUnfitted = t₅ at happly hlockers hvacated
  obtain ⟨x, y, hcabins, hy⟩ := t₅.restoreIfFitted_only
  generalize t₅.restoreIfFitted = t₆ at happly hcabins
  obtain ⟨_, _, rfl⟩ := hstrings
  obtain ⟨_, rfl⟩ := hunfit
  obtain ⟨_, rfl⟩ := hbeams
  obtain ⟨_, _, _, rfl⟩ := hheads
  obtain ⟨_, rfl⟩ := hlockers
  have hwait : t₆.checkRunning = t₆ :=
    State.checkRunning_waits (by rw [hcabins]; exact hn)
      (by rw [hcabins]; exact (hy 0 (by decide)).trans (hestablished 0 (by decide) hn).1)
  obtain rfl := (happly.trans hwait).trans hcabins
  refine ⟨rfl, by simp [u, State.clampMisses, hpart], fun i hi hfit => ?_, fun k hk => ?_, fun k hfit hs => ?_,
    fun l => ?_, rfl, rfl, rfl, rfl, rfl, rfl⟩
  · obtain ⟨hstring, hcontacts⟩ := hestablished i hi hfit
    exact ⟨(hy i hi).trans hstring, hcontacts⟩
  · refine (hvacated k).trans ?_
    rcases hk with hk | hk
    · exact if_neg (Nat.not_le.2 hk)
    · exact (congrArg (ite _ · _) (if_pos hk)).trans (ite_self _)
  · exact (hvacated k).trans ((if_pos hfit).trans (if_neg hs))
  · by_cases hl : l.val < held.fittedLanes
    · have hlane := (hunfitted l).trans (if_pos (decide_eq_true hl))
      refine ((hread l).trans (if_pos (decide_eq_true hl))).trans (Eq.trans ?_ (if_pos hl).symm)
      exact congrArg (fun x : Lane => { x with beams := s.lanes.pins[l.val], phase := 0 }) hlane
    · have hfit : ¬decide (l.val < held.fittedLanes) = true := by simpa using hl
      exact ((hread l).trans (if_neg hfit)).trans
        (((hunfitted l).trans (if_neg hfit)).trans (if_neg hl).symm)

/-! ### The mirror reads (R173) and the first operations of the ownership check (R174) -/

/-- A mirror read in flight completes. -/
theorem exec_mirrorReadComplete_eq {s : State} {seen : Option (List Byte)} {j k : LockerNo} {r : Bool} {held : Settings}
    (h : s.band.inFlight = some ⟨.mirrorRead j, r⟩) (hk : s.part.startup = .mirrorRead k held) :
    exec (.mirrorReadComplete seen) s =
      .next (((s.setStore (s.store.seen (mirrorAddress held.tableLength k) 16 seen)).portReady).mirrorRead k held
        ((s.store.seen (mirrorAddress held.tableLength k) 16 seen).bytes (mirrorAddress held.tableLength k) 16)).arbitrate
    := by
  have hevent : s.mirrorReadEvent seen = s.mirrorReadDone seen := by simp [State.mirrorReadEvent, h]
  refine congrArg (fun t : State => Host.Outcome.next t.arbitrate) (hevent.trans ?_)
  simp only [State.mirrorReadDone, hk]
  rfl

/-- A locker without owner and companions asks for no operation. -/
theorem ownershipOps_none {k : LockerNo} {l : Locker} (h : l.owner = none ∧ l.companions = []) :
    ownershipOps k l = [] := by
  simp [ownershipOps, h]

/-- The ownership check passes over such lockers. -/
theorem State.ownershipFrom_skip {s : State} (held : Settings) {before : List LockerNo} (ks : List LockerNo)
    (h : ∀ k ∈ before, (s.locker k).owner = none ∧ (s.locker k).companions = []) :
    s.ownershipFrom held (before ++ ks) = s.ownershipFrom held ks := by
  induction before with
  | nil => rfl
  | cons k before ih =>
    rw [List.cons_append, State.ownershipFrom, ownershipOps_none (h k (by simp)), if_pos rfl]
    exact ih fun j hj => h j (by simp [hj])

/-- The lockers in their order, up to one of them. -/
theorem allFin_split {n : Nat} (k : Fin n) : ∃ before ks, allFin n = before ++ k :: ks ∧ ∀ i ∈ before, i < k := by
  obtain ⟨before, ks, h⟩ := List.append_of_mem (List.mem_finRange k)
  have hsorted := List.pairwise_lt_finRange n
  rw [h, List.pairwise_append] at hsorted
  exact ⟨before, ks, h, fun i hi => hsorted.2.2 i hi k (by simp)⟩

/-- The operations of a locker are sent, and the sequence waits for them. -/
theorem State.ownershipFrom_sends {s : State} {held : Settings} {k : LockerNo} (ks : List LockerNo)
    {ops : List (BandNo × Waiter)} (hops : ownershipOps k (s.locker k) = ops) {t : State}
    (ht : ops.foldl (fun u o => u.bandOp o.1.val o.2)
      (s.setPart { s.part with startup := .ownership k ops.length held }) = t)
    (hwaits : t.part.startup.checksEnded = false) (hne : ops ≠ []) : s.ownershipFrom held (k :: ks) = t := by
  simp only [State.ownershipFrom, hops, if_neg hne, ht, hwaits]
  rfl

/-- In an empty cache an operation takes entry 0 (R6). -/
theorem State.bandOp_empty {s : State} {b : BandNo} (hb : s.TakesBand b) (hport : s.band.port ≠ .fault)
    (hcache : s.band.cache = BandUnit.atReset.cache) (w : Waiter) : s.bandOp b.val w = s.filledWith 0 b w := by
  have hentry (e : EntryNo) : s.entry e = CacheEntry.atReset := by
    simp [State.entry, hcache, BandUnit.atReset]
  refine State.bandOp_fill ⟨hb, ?_, hport⟩ ?_ (State.entryToTake_lowest ?_ fun f hf => absurd hf (Fin.not_lt_zero f))
  · simp [State.entryOf, hentry, CacheEntry.atReset, EntryContent.band]
  · simp [State.itemsHeld, hentry, CacheEntry.atReset]
  · simp [hentry, CacheEntry.atReset]

/-- Behind one of another band, a second one takes entry 1 (R6). -/
theorem State.bandOp_second {s : State} {b c : BandNo} {v : Waiter} (hc : s.TakesBand c) (hport : s.band.port ≠ .fault)
    (hcache : s.band.cache = BandUnit.atReset.cache.set 0 ⟨.filling b, [v], false⟩) (hne : c ≠ b) (w : Waiter) :
    s.bandOp c.val w = s.filledWith 1 c w := by
  have hentry (e : EntryNo) : s.entry e = if e = 0 then ⟨.filling b, [v], false⟩ else CacheEntry.atReset := by
    simp only [State.entry, hcache, Vector.getElem_set, BandUnit.atReset, Vector.getElem_replicate]
    by_cases he : e = 0
    · simp [he]
    · rw [if_neg he, if_neg fun h => he (Fin.ext h.symm)]
  have hitems : s.itemsHeld = 1 := by
    have hlength : (fun e : EntryNo => (s.entry e).waiters.length) = fun e => if e = 0 then 1 else 0 := by
      funext e
      rw [hentry]
      split <;> rfl
    rw [State.itemsHeld, hlength]
    rfl
  refine State.bandOp_fill ⟨hc, ?_, hport⟩ (by omega) (State.entryToTake_lowest ?_ fun f hf => ?_)
  · refine List.find?_eq_none.2 fun e _ => ?_
    rw [hentry]
    split
    · simpa [EntryContent.band] using hne.symm
    · simp [CacheEntry.atReset, EntryContent.band]
  · simp [hentry, CacheEntry.atReset]
  · obtain rfl : f = 0 := (Fin.lt_one_iff f).1 hf
    simp [hentry]

/-- The state behind the first operation of the check of a locker, that of its owner (R174). -/
def State.ownerAsked (s : State) (held : Settings) (k : LockerNo) (n : Nat) (b : BandNo) : State :=
  (s.setPart { s.part with startup := .ownership k n held }).filledWith 0 b (.ownerCheck k)

/-- The owner's operation in an empty cache. -/
theorem State.bandOp_owner {s : State} {b : BandNo} (held : Settings) (k : LockerNo) (n : Nat) (hb : s.TakesBand b)
    (hport : s.band.port ≠ .fault) (hcache : s.band.cache = BandUnit.atReset.cache) :
    (s.setPart { s.part with startup := .ownership k n held }).bandOp b.val (.ownerCheck k) =
      s.ownerAsked held k n b := by
  have hb' : (s.setPart { s.part with startup := .ownership k n held }).TakesBand b := hb
  exact State.bandOp_empty hb' hport hcache _

/-- The operation of an owner without companions (R174). -/
theorem State.ownershipFrom_one {s : State} {held : Settings} {k : LockerNo} {b : BandNo} (ks : List LockerNo)
    (hops : ownershipOps k (s.locker k) = [(b, .ownerCheck k)]) (hb : s.TakesBand b) (hport : s.band.port ≠ .fault)
    (hcache : s.band.cache = BandUnit.atReset.cache) :
    s.ownershipFrom held (k :: ks) = s.ownerAsked held k 1 b := by
  refine State.ownershipFrom_sends ks hops ?_ rfl (by simp)
  exact State.bandOp_owner held k 1 hb hport hcache

/-- The operations of an owner and one companion (R174; log 44). -/
theorem State.ownershipFrom_two {s : State} {held : Settings} {k : LockerNo} {b c : BandNo} (ks : List LockerNo)
    (hops : ownershipOps k (s.locker k) = [(b, .ownerCheck k), (c, .companionCheck k)]) (hb : s.TakesBand b)
    (hc : s.TakesBand c) (hne : c ≠ b) (hport : s.band.port ≠ .fault)
    (hcache : s.band.cache = BandUnit.atReset.cache) :
    s.ownershipFrom held (k :: ks) = (s.ownerAsked held k 2 b).filledWith 1 c (.companionCheck k) := by
  have hsecond : (s.ownerAsked held k 2 b).bandOp c.val (.companionCheck k) =
      (s.ownerAsked held k 2 b).filledWith 1 c (.companionCheck k) :=
    State.bandOp_second (s := s.ownerAsked held k 2 b) (b := b) (v := .ownerCheck k) hc hport
      (congrArg (fun x : Vector CacheEntry 32 => x.set 0 ⟨.filling b, [.ownerCheck k], false⟩) hcache) hne _
  refine State.ownershipFrom_sends ks hops ?_ rfl (by simp)
  rw [List.foldl_cons, List.foldl_cons, List.foldl_nil, ← hsecond]
  exact congrArg (fun t : State => t.bandOp c.val (.companionCheck k)) (State.bandOp_owner held k 2 hb hport hcache)

/-- Settles O12: the record is taken as the mirror read judges it; behind the last one the lockers without owner and
companions are passed over, and the first other one sends its operations, or the settings are applied. -/
theorem mirrorReadCompletes : Obligations.MirrorReadCompletes := by
  refine ⟨fun s seen k held j r h hfly hk => ?_, fun s read seen held j r hfly hpart => ?_⟩
  · intro a judged u next
    have hread (image : State) (himage : u.takeMirror k held.tableLength ((s.store.seen a 16 seen).bytes a 16) = image)
        (hstage : image.part = s.part) :
        exec (.mirrorReadComplete seen) s = .next (image.setPart next).arbitrate := by
      rw [exec_mirrorReadComplete_eq hfly hk]
      change Host.Outcome.next (u.mirrorRead k held ((s.store.seen a 16 seen).bytes a 16)).arbitrate = _
      simp only [State.mirrorRead, himage, dif_pos h, hstage]
      rfl
    refine ⟨fun m hm => hread _ ?_ rfl, fun hm => hread _ ?_ rfl⟩
    · rw [State.takeMirror, show judgeMirror _ _ u.takenOwners u.takenCompanions = some m from hm]
      rfl
    · rw [State.takeMirror, show judgeMirror _ _ u.takenOwners u.takenCompanions = none from hm]
      rfl
  · intro a judged u hgood hbad sent
    have htake : u.takeMirror 255 held.tableLength ((s.store.seen a 16 seen).bytes a 16) = read := by
      rcases hm : judged with _ | m
      · rw [hbad hm, State.takeMirror, show judgeMirror _ _ u.takenOwners u.takenCompanions = none from hm]
        rfl
      · rw [hgood m hm, State.takeMirror, show judgeMirror _ _ u.takenOwners u.takenCompanions = some m from hm]
        rfl
    have hband : read.band = u.band := by
      rcases hm : judged with _ | m
      · rw [hbad hm]; rfl
      · rw [hgood m hm]; rfl
    have hstage : read.part = s.part := by
      rcases hm : judged with _ | m
      · rw [hbad hm]; rfl
      · rw [hgood m hm]; rfl
    have hsettings : read.settings = s.settings := by
      rcases hm : judged with _ | m
      · rw [hbad hm]; rfl
      · rw [hgood m hm]; rfl
    have hexec : exec (.mirrorReadComplete seen) s = .next (read.ownershipFrom held (allFin 256)).arbitrate := by
      rw [exec_mirrorReadComplete_eq hfly (k := 255) (by rw [hpart])]
      change Host.Outcome.next (u.mirrorRead 255 held ((s.store.seen a 16 seen).bytes a 16)).arbitrate = _
      simp only [State.mirrorRead, htake]
      rfl
    refine ⟨fun hn hnone => ⟨read.applyHeld held, ?_, State.applyHeld_applied (hstage.trans hpart) hn⟩,
      fun k b hformat hcache hbefore howner hb => ?_⟩
    · rw [hexec, ← List.append_nil (allFin 256), State.ownershipFrom_skip held [] fun k _ => hnone k]
      rfl
    obtain ⟨before, ks, hsplit, hlt⟩ := allFin_split k
    have hskip : read.ownershipFrom held (allFin 256) = read.ownershipFrom held (k :: ks) := by
      rw [hsplit, State.ownershipFrom_skip held _ fun i hi => hbefore i (hlt i hi)]
    have hwind : read.part.winding = false := by rw [hstage, hpart]
    have hnone : read.band.format = none := by rw [hband]; exact hformat
    have htakes {c : BandNo} (hc : c.val < s.tableLength) : read.TakesBand c :=
      ⟨by simp [State.bandService, hwind, hnone], by simpa [State.tableLength, hsettings] using hc⟩
    have hport : read.band.port ≠ .fault := by rw [hband]; simp [u, State.portReady]
    have hempty : read.band.cache = BandUnit.atReset.cache := by rw [hband]; exact hcache
    rw [hexec, hskip]
    refine ⟨fun hcomp => ?_, fun c hcomp hne hc => ?_⟩
    · have hops : ownershipOps k (read.locker k) = [(b, .ownerCheck k)] := by simp [ownershipOps, howner, hcomp]
      rw [State.ownershipFrom_one ks hops (htakes hb) hport hempty]
      simp [sent, u, State.ownerAsked, State.filledWith, State.portReady, hband, hstage]
      rfl
    · have hops : ownershipOps k (read.locker k) = [(b, .ownerCheck k), (c, .companionCheck k)] := by
        simp [ownershipOps, howner, hcomp]
      rw [State.ownershipFrom_two ks hops (htakes hb) (htakes hc) hne hport hempty]
      have hfilter : (fun f : EntryNo => !decide (f = 1) && !decide (f = 0)) =
          fun f => !decide (f = 0) && !decide (f = 1) := funext fun f => Bool.and_comm _ _
      simp [sent, u, State.ownerAsked, State.filledWith, State.portReady, hband, hstage, List.filter_filter,
        hfilter]
      rfl

end Sys2Proof.Machine
end


section
/-!
PROOF. The receive side (R160) and the tests at the arrival of a request (R161, R163). The hunt is read case by case:
what is no start byte is passed over, and a start byte is judged by what follows it. Bytes with no start byte behind
leave nothing, so each way a frame can fail ends in the same silence.
-/

namespace Sys2Proof.Machine

/-! ### The hunt (R160) -/

/-- Bytes that are no start byte are passed over. -/
theorem huntFrames_noise (gap : Bool) {noise : List Byte} (h : ∀ b ∈ noise, b ≠ 0x5C) (n : Nat) (bs : List Byte) :
    huntFrames gap (noise.length + n) (noise ++ bs) = huntFrames gap n bs := by
  induction noise with
  | nil => simp
  | cons b noise ih =>
    obtain ⟨hb, hrest⟩ := List.forall_mem_cons.1 h
    rw [List.length_cons, Nat.add_right_comm, List.cons_append, huntFrames, if_pos hb, ih hrest]

/-- Nothing is found in no bytes. -/
theorem huntFrames_nil (gap : Bool) (n : Nat) : huntFrames gap n [] = ([], []) := by
  cases n <;> rfl

/-- Bytes without a start byte are gone. -/
theorem huntFrames_silent (gap : Bool) {bs : List Byte} (h : ∀ b ∈ bs, b ≠ 0x5C) :
    huntFrames gap bs.length bs = ([], []) := by
  simpa [huntFrames_nil] using huntFrames_noise gap h 0 []

/-- Behind a start byte the hunt goes by the judgement of what follows. -/
theorem huntFrames_start (gap : Bool) (n : Nat) (bs : List Byte) :
    huntFrames gap (n + 1) (0x5C :: bs) = match judgeFrame bs with
      | .more => if gap then huntFrames gap n bs else ([], 0x5C :: bs)
      | .bad => huntFrames gap n bs
      | .good f rest => (f :: (huntFrames gap n rest).1, (huntFrames gap n rest).2) := by
  rw [huntFrames]
  exact if_neg (by simp)

/-- A frame not yet complete, with no other start byte, is kept until the gap expires. -/
theorem huntFrames_more {bs : List Byte} (hj : judgeFrame bs = .more) (h : ∀ b ∈ bs, b ≠ 0x5C) :
    huntFrames false (bs.length + 1) (0x5C :: bs) = ([], 0x5C :: bs) ∧
      huntFrames true (bs.length + 1) (0x5C :: bs) = ([], []) := by
  constructor <;> rw [huntFrames_start, hj]
  · rfl
  · exact huntFrames_silent true h

/-- A bad frame with no start byte inside leaves nothing. -/
theorem huntFrames_bad (gap : Bool) {bs : List Byte} (hj : judgeFrame bs = .bad) (h : ∀ b ∈ bs, b ≠ 0x5C) :
    huntFrames gap (bs.length + 1) (0x5C :: bs) = ([], []) := by
  rw [huntFrames_start, hj]
  exact huntFrames_silent gap h

/-! ### The judgement of a frame (R160) -/

/-- A length byte in range with too few bytes behind it. -/
theorem judgeFrame_more {len : Byte} {rest : List Byte} (hlo : 2 ≤ len.toNat) (hhi : len.toNat ≤ 250)
    (h : rest.length < len.toNat + 2) : judgeFrame (len :: rest) = .more := by
  have hrange : ¬(len.toNat < 2 ∨ 250 < len.toNat) := by omega
  simp only [judgeFrame, hrange, if_false, h, if_true]

/-- A length byte out of range. -/
theorem judgeFrame_length {len : Byte} {rest : List Byte} (h : len.toNat < 2 ∨ 250 < len.toNat) :
    judgeFrame (len :: rest) = .bad := by
  simp only [judgeFrame, h, if_true]

/-- A complete frame is good just where its check agrees. -/
theorem judgeFrame_complete {len : Byte} {covered check rest : List Byte} (hlo : 2 ≤ len.toNat)
    (hhi : len.toNat ≤ 250) (hcov : covered.length = len.toNat) (hcheck : check.length = 2) :
    judgeFrame (len :: (covered ++ (check ++ rest))) = if check = crc16Bytes (len :: covered)
      then .good ⟨byteAt covered 0, byteAt covered 1, covered.drop 2⟩ rest else .bad := by
  have hrange : ¬(len.toNat < 2 ∨ 250 < len.toNat) := by omega
  have hlen : ¬(covered ++ (check ++ rest)).length < len.toNat + 2 := by simp; omega
  have htake : (covered ++ (check ++ rest)).take len.toNat = covered := by
    rw [← hcov, List.take_left]
  have hdrop : (covered ++ (check ++ rest)).drop len.toNat = check ++ rest := by
    rw [← hcov, List.drop_left]
  have hrest : (covered ++ (check ++ rest)).drop (len.toNat + 2) = rest := by
    rw [← List.drop_drop, hdrop, ← hcheck, List.drop_left]
  have hbyte : ∀ i, i < 2 → byteAt (covered ++ (check ++ rest)) i = byteAt covered i := fun i hi => by
    simp [byteAt, List.getElem?_append_left (show i < covered.length by omega)]
  simp only [judgeFrame, hrange, if_false, hlen, htake, hdrop, hrest, hbyte 0 (by omega), hbyte 1 (by omega)]
  rw [← hcheck, List.take_left]

/-! ### Settling the round trip -/

/-- The judgement behind the start byte of a frame's own bytes. -/
theorem judgeFrame_frameBytes (kind tag : Byte) {body : List Byte} (h : body.length ≤ 248) :
    judgeFrame (BitVec.ofNat 8 (body.length + 2) :: ((kind :: tag :: body) ++
      (crc16Bytes (BitVec.ofNat 8 (body.length + 2) :: (kind :: tag :: body)) ++ []))) =
      .good ⟨kind, tag, body⟩ [] := by
  have hlen : (BitVec.ofNat 8 (body.length + 2)).toNat = body.length + 2 := by
    rw [BitVec.toNat_ofNat]; omega
  rw [judgeFrame_complete (by omega) (by omega) (by simp [hlen]) rfl, if_pos rfl]
  rfl

/-- Settles O13: the hunt passes over the noise, and the frame's own check agrees. -/
theorem frameRoundTrip : Obligations.FrameRoundTrip := by
  intro gap noise kind tag body hlen hnoise
  have hframe : frameBytes kind tag body = 0x5C :: BitVec.ofNat 8 (body.length + 2) :: ((kind :: tag :: body) ++
      (crc16Bytes (BitVec.ofNat 8 (body.length + 2) :: (kind :: tag :: body)) ++ [])) := by
    simp [frameBytes]
  rw [List.length_append, huntFrames_noise gap hnoise, hframe, List.length_cons, huntFrames_start,
    judgeFrame_frameBytes kind tag hlen]
  simp [huntFrames_nil]

/-! ### The request a kind byte names (R161, test 2) -/

/-- The code of a request names it. -/
theorem requestOf_code (r : Request) : requestOf r.code = some r := by
  cases r <;> decide

/-- A kind that is no code names no request. -/
theorem requestOf_unknown {kind : Byte} (h : ∀ r : Request, r.code ≠ kind) : requestOf kind = none := by
  simpa [requestOf, List.find?_eq_none] using fun r _ => h r

/-- A frame with a known code is taken as the arrival of its request. -/
theorem exec_command_arriveFrame {f : Received} {r : Request} (h : r.code = f.kind) (s : State) :
    exec (r.command f.tag f.body) s = .next (s.arriveFrame f).arbitrate := by
  rw [exec_command_eq, State.arriveFrame, ← h, requestOf_code]

/-- A frame of any other kind is taken as the arrival of an unknown request. -/
theorem exec_unknownRequest_eq {kind : Byte} (h : ∀ r : Request, r.code ≠ kind) (tag : Byte) (body : List Byte)
    (s : State) : exec (.unknownRequest kind tag body) s = .next (s.arriveUnknown kind tag).arbitrate := by
  have hu : s.unknownArrival kind tag = s.arriveUnknown kind tag := by
    rw [State.unknownArrival, requestOf_unknown h]
  exact congrArg (fun t : State => Host.Outcome.next t.arbitrate) hu

/-- The two ways a good frame is taken, as one. -/
theorem arriveFrame_arbitrate {f : Received} {s u : State}
    (hknown : ∀ r : Request, r.code = f.kind → exec (r.command f.tag f.body) s = .next u)
    (hunknown : (∀ r : Request, r.code ≠ f.kind) → exec (.unknownRequest f.kind f.tag f.body) s = .next u) :
    (s.arriveFrame f).arbitrate = u := by
  by_cases h : ∃ r : Request, r.code = f.kind
  · obtain ⟨r, hr⟩ := h
    exact Host.Outcome.next.inj ((exec_command_arriveFrame hr s).symm.trans (hknown r hr))
  · have h' : ∀ r : Request, r.code ≠ f.kind := fun r hr => h ⟨r, hr⟩
    have hu := hunknown h'
    rw [exec_unknownRequest_eq h'] at hu
    rw [State.arriveFrame, requestOf_unknown h']
    exact Host.Outcome.next.inj hu

/-! ### What the receive side leaves (R160) -/

theorem exec_frameDiscard_eq (bytes : List Byte) (s : State) :
    exec (.frameDiscard bytes) s = .next (s.receive false bytes).arbitrate := rfl

theorem exec_frameGapExpiry_eq (bytes : List Byte) (s : State) :
    exec (.frameGapExpiry bytes) s = .next (s.receive true bytes).arbitrate := rfl

/-- With no good frame found the kept bytes are all that changes. -/
theorem State.receive_none {s : State} {gap : Bool} {bytes kept : List Byte}
    (h : huntFrames gap (s.link.kept ++ bytes).length (s.link.kept ++ bytes) = ([], kept)) :
    s.receive gap bytes = s.setLink { s.link with kept := kept } := by
  simp only [State.receive, h, List.foldl_nil]

/-- A good frame found is taken, and then the bytes behind it are kept. -/
theorem State.receive_one {s : State} {gap : Bool} {bytes rest : List Byte} {f : Received}
    (h : huntFrames gap (s.link.kept ++ bytes).length (s.link.kept ++ bytes) = ([f], rest)) :
    s.receive gap bytes = ((s.arriveFrame f).arbitrate).setLink { (s.arriveFrame f).arbitrate.link with kept := rest } := by
  simp only [State.receive, h, List.foldl_cons, List.foldl_nil]

/-- Where neither event finds a frame or keeps a byte, both leave the link with nothing kept. -/
theorem exec_receive_dropped {s : State} {bytes : List Byte}
    (h : ∀ gap, huntFrames gap (s.link.kept ++ bytes).length (s.link.kept ++ bytes) = ([], [])) :
    exec (.frameDiscard bytes) s = .next (s.setLink { s.link with kept := [] }).arbitrate ∧
      exec (.frameGapExpiry bytes) s = .next (s.setLink { s.link with kept := [] }).arbitrate :=
  ⟨by rw [exec_frameDiscard_eq, State.receive_none (h false)],
    by rw [exec_frameGapExpiry_eq, State.receive_none (h true)]⟩

/-- Settles O14: each clause is one outcome of the hunt. -/
theorem receiveDiscards : Obligations.ReceiveDiscards := by
  intro s bytes dropped
  refine ⟨fun h => ?_, fun len rest heq hlo hhi hshort hlen hrest => ?_, fun len rest heq hrange hrest => ?_,
    fun len covered check heq hlo hhi hcov hcheck hne hlen hrest => ?_, fun f rest u hknown hunknown => ?_⟩
  · exact exec_receive_dropped fun gap => huntFrames_silent gap h
  · have hmore := huntFrames_more (judgeFrame_more hlo hhi hshort) (List.forall_mem_cons.2 ⟨hlen, hrest⟩)
    rw [← List.length_cons, ← heq] at hmore
    exact ⟨by rw [exec_frameDiscard_eq, State.receive_none hmore.1],
      by rw [exec_frameGapExpiry_eq, State.receive_none hmore.2]⟩
  · refine exec_receive_dropped fun gap => ?_
    have hlen : len ≠ 0x5C := by rintro rfl; revert hrange; decide
    rw [heq, List.length_cons]
    exact huntFrames_bad gap (judgeFrame_length hrange) (List.forall_mem_cons.2 ⟨hlen, hrest⟩)
  · refine exec_receive_dropped fun gap => ?_
    have hjudge := judgeFrame_complete (rest := []) hlo hhi hcov hcheck
    rw [if_neg hne, List.append_nil] at hjudge
    rw [heq, List.length_cons]
    exact huntFrames_bad gap hjudge (List.forall_mem_cons.2 ⟨hlen, hrest⟩)
  · have hu := arriveFrame_arbitrate hknown hunknown
    exact ⟨fun h => by rw [exec_frameDiscard_eq, State.receive_one h, hu],
      fun h => by rw [exec_frameGapExpiry_eq, State.receive_one h, hu]⟩

/-! ### The tests at the arrival (R161, R163) -/

/-- STARTING takes STATUS and CLOCK SET alone (R161, test 4). -/
theorem State.partTest_starting {s : State} (h : s.shownPart = .starting) (r : Request) :
    s.partTest r = if r ∈ [Request.status, .clockSet] then none else some .starting := by
  simp [State.partTest, h]

/-- NO_STORE takes five requests (R161, test 4). -/
theorem State.partTest_noStore {s : State} (h : s.shownPart = .noStore) (r : Request) :
    s.partTest r =
      if r ∈ [Request.status, .clockSet, .clockRead, .storeFormat, .restart] then none else some .store := by
  simp [State.partTest, h]

/-- RUNNING takes every request (R161, test 4). -/
theorem State.partTest_running {s : State} (h : s.shownPart = .running) (r : Request) : s.partTest r = none := by
  simp [State.partTest, h]

/-- The requests that the part state takes (R161, test 4). -/
theorem State.partTest_taken {s : State} {r : Request} (h : s.shownPart = .running ∨ r ∈ [Request.status, .clockSet] ∨
    (s.shownPart = .noStore ∧ r ∈ [Request.clockRead, .storeFormat, .restart])) : s.partTest r = none := by
  cases hp : s.shownPart with
  | running => exact State.partTest_running hp r
  | starting =>
    rw [State.partTest_starting hp, if_pos]
    simpa [hp] using h
  | noStore =>
    rw [State.partTest_noStore hp, if_pos]
    simp only [hp, reduceCtorEq, false_or, true_and, List.mem_cons, List.not_mem_nil, or_false] at h ⊢
    tauto

/-- Settles O15: a known code by the four ways an arrival ends, an unknown one by its two. -/
theorem requestTests : Obligations.RequestTests := by
  refine ⟨fun r tag body s => ?_, fun kind tag body s hkind => ?_⟩
  · rw [exec_command_eq]
    refine ⟨fun h => ?_, fun h hlen => ?_, fun h hlen => ⟨fun hp hr => ?_, fun hp hr => ?_, fun hp => ?_⟩⟩
    · obtain ⟨o, ho⟩ := Option.isSome_iff_exists.1 h
      rw [State.arrive_busy ho]
    · rw [State.arrive_malformed h hlen]
    · rw [State.arrive_refused h hlen ((State.partTest_starting hp r).trans (if_neg hr))]
    · rw [State.arrive_refused h hlen ((State.partTest_noStore hp r).trans (if_neg hr))]
    · rw [State.arrive_takes ⟨h, hlen, State.partTest_taken hp⟩]
  · rw [exec_unknownRequest_eq hkind]
    refine ⟨fun h => ?_, fun h => ?_⟩
    · simp only [State.arriveUnknown, State.frameTaken, State.setLink_link, h]
      rfl
    · obtain ⟨o, ho⟩ := Option.isSome_iff_exists.1 h
      have hturned : s.arriveUnknown kind tag = s.turnedAway tag := by
        simp only [State.arriveUnknown, State.frameTaken, State.setLink_link, ho, State.replyBusy, State.turnedAway]
        split <;> rfl
      rw [hturned]

/-! ### The end of a frame (R164) -/

theorem exec_transmitEnd_eq (s : State) : exec .transmitEnd s = .next s.frameSent.arbitrate := rfl

/-- Settles O16: each form of a frame by itself. -/
theorem frameEnds : Obligations.FrameEnds := by
  refine fun s => ⟨fun n flags h => ?_, fun tag res data flags h => ?_, fun tag res data flags h => ?_, fun h => ?_⟩
  all_goals rw [exec_transmitEnd_eq, State.frameSent, h]
  all_goals rfl

/-! ### SET FLOOR, STATUS, RESTART and STORE RESTART (R168 to R170, R178) -/

/-- A request that is taken, from its arrival to its owning block (R161, test 5). -/
theorem State.takes.exec {s : State} {r : Request} {body : List Byte} (h : s.takes r body) (tag : Byte) :
    exec (r.command tag body) s = .next ((s.taken r tag).serveHostRequest r body).arbitrate := by
  rw [exec_command_eq, State.arrive_takes h]

/-- A number outside a range is no member of it. -/
theorem inRangeOf_of_le {n v : Nat} (h : n ≤ v) : inRangeOf n v = none := by
  simp [inRangeOf, Nat.not_lt.mpr h]

/-- Settles O19. -/
theorem setFloor : Obligations.SetFloor := by
  refine fun s tag body h => ⟨fun hhigh => ?_, fun f hf => ?_⟩
  · have hserve : (s.taken .setFloor tag).serveHostRequest .setFloor body =
        (s.taken .setFloor tag).replied tag .range .none := by
      simp only [State.serveHostRequest, State.serveSetFloor, inRangeOf_of_le hhigh]
      exact State.taken_answer ..
    exact (h.exec tag).trans (by rw [hserve])
  · have hserve : (s.taken .setFloor tag).serveHostRequest .setFloor body = ((s.taken .setFloor tag).setLink
        { (s.taken .setFloor tag).link with floor := f }).replied tag .ok (.noticesHeld s.link.notices.length) := by
      simp only [State.serveHostRequest, State.serveSetFloor, hf, inRangeOf_val]
      rfl
    exact (h.exec tag).trans (by rw [hserve])

/-- STATUS is taken in every part state (R161, test 4; R169). -/
theorem State.partTest_status (s : State) : s.partTest .status = none :=
  by cases h : s.shownPart <;> simp [State.partTest, h]

/-- Settles O20. -/
theorem status : Obligations.Status := by
  intro s tag h
  exact (State.takes.exec (body := []) ⟨h, rfl, s.partTest_status⟩ tag).trans rfl

/-- Settles O21. -/
theorem restarts : Obligations.Restarts := by
  refine fun s tag => ⟨fun h => (h.exec tag).trans rfl, fun h hf => ?_, fun h hf => ?_⟩
  · have hserve : (s.taken .storeRestart tag).serveHostRequest .storeRestart [] = ((s.taken .storeRestart tag).setBand
        { s.band with port := .ready, fairness := 0 }).replied tag .ok .none := by
      have hf' : (s.taken .storeRestart tag).band.port = .fault := hf
      simp only [State.serveHostRequest, State.serveStoreRestart, State.leaveFault, if_pos hf']
      rfl
    exact (h.exec tag).trans (by rw [hserve])
  · have hserve : (s.taken .storeRestart tag).serveHostRequest .storeRestart [] =
        (s.taken .storeRestart tag).replied tag .state .none := by
      have hf' : (s.taken .storeRestart tag).band.port ≠ .fault := hf
      simp only [State.serveHostRequest, State.serveStoreRestart, if_neg hf']
      rfl
    exact (h.exec tag).trans (by rw [hserve])

end Sys2Proof.Machine
end


section
/-!
PROOF. The records of the band store read back as written (R1 to R3, R48, R172, R173). Each encoding is a list of a
known length whose bytes are read one at a time; what is left is that every field's bytes give the field back.
-/

namespace Sys2Proof.Machine

/-! ### Fields of several bytes -/

/-- Two bytes give a value up to 65535 back. -/
theorem be16_ofNat {n : Nat} (h : n ≤ 65535) : be16 (BitVec.ofNat 8 (n / 256)) (BitVec.ofNat 8 n) = n := by
  simp only [be16, BitVec.toNat_ofNat]
  omega

/-- One byte gives a value up to 255 back. -/
theorem toNat_ofNat8 {n : Nat} (h : n ≤ 255) : (BitVec.ofNat 8 n).toNat = n := by
  rw [BitVec.toNat_ofNat]
  omega

/-- Four bytes give a 32-bit value back. -/
theorem be32_extract (x : BitVec 32) :
    be32 (x.extractLsb' 24 8) (x.extractLsb' 16 8) (x.extractLsb' 8 8) (x.extractLsb' 0 8) = x := by
  rw [be32, BitVec.extractLsb'_append_extractLsb'_eq_extractLsb' (by rfl),
    BitVec.extractLsb'_append_extractLsb'_eq_extractLsb' (by rfl),
    BitVec.extractLsb'_append_extractLsb'_eq_extractLsb' (by rfl)]
  exact BitVec.extractLsb'_eq_self

/-! ### The band record (1.1.1, R2) -/

/-- The bytes of a band record, one by one. -/
theorem BandRecord.encode_eq (r : BandRecord) : r.encode =
    [r.state.code, beforeBarCode r.beforeBar, r.serial.extractLsb' 24 8, r.serial.extractLsb' 16 8,
      r.serial.extractLsb' 8 8, r.serial.extractLsb' 0 8, BitVec.ofNat 8 r.cls.val, r.flags, r.mask,
      BitVec.ofNat 8 (r.paid / 256), BitVec.ofNat 8 r.paid, (r.entry.getD 0).extractLsb' 24 8,
      (r.entry.getD 0).extractLsb' 16 8, (r.entry.getD 0).extractLsb' 8 8, (r.entry.getD 0).extractLsb' 0 8,
      BitVec.ofNat 8 (r.credit / 256), BitVec.ofNat 8 r.credit, BitVec.ofNat 8 (r.settled / 256),
      BitVec.ofNat 8 r.settled, 0, 0, 0, 0, 0, 0, 0, 0, 0, 0, 0, 0, crc8 r.body] := rfl

/-- The bytes the check covers. -/
theorem BandRecord.encode_take (r : BandRecord) : r.encode.take 31 = r.body := rfl

/-- The bits of the flags byte. -/
theorem BandRecord.flags_bits (r : BandRecord) : r.flags.toNat < 8 ∧ r.flags.getLsbD 0 = r.cabinRight ∧
    r.flags.getLsbD 1 = r.master ∧ r.flags.getLsbD 2 = r.entry.isSome := by
  unfold BandRecord.flags
  cases r.cabinRight <;> cases r.master <;> cases r.entry.isSome <;> decide

theorem bandStateOf_code (x : BandState) : bandStateOf x.code = x := by cases x <;> rfl

theorem beforeBarOf_code (x : Option BeforeBar) : beforeBarOf (beforeBarCode x) = x := by
  rcases x with _ | _ | _ <;> rfl

/-- A record with the presences of R1 has its entry stamp where the state bytes say. -/
theorem BandRecord.Good.stampExpected {r : BandRecord} (h : r.Good) :
    r.entry.isSome = stampExpected r.state.code (beforeBarCode r.beforeBar) := by
  have hbefore := h.before
  have hstamp := h.stamp
  rw [Bool.eq_iff_iff, hstamp]
  cases hs : r.state <;> rcases hb : r.beforeBar with _ | _ | _ <;>
    simp_all [Machine.stampExpected, BandState.code, beforeBarCode]

/-- The tests of R2 all pass for a record with the values and presences of R1. -/
theorem BandRecord.Good.not_damaged {r : BandRecord} (h : r.Good) : recordDamaged r.encode = false := by
  obtain ⟨hflags, -, -, hstamp⟩ := r.flags_bits
  have hcheck : byteAt r.encode 31 = crc8 r.body := rfl
  have hstate : byteAt r.encode 0 = r.state.code := rfl
  have hbefore : byteAt r.encode 1 = beforeBarCode r.beforeBar := rfl
  have hcls : (byteAt r.encode 6).toNat = r.cls.val := toNat_ofNat8 (show r.cls.val ≤ 255 by omega)
  have hpaid : be16 (byteAt r.encode 9) (byteAt r.encode 10) = r.paid := be16_ofNat (by have := h.paid; omega)
  have hflag : byteAt r.encode 7 = r.flags := rfl
  have hserial : be32 (byteAt r.encode 2) (byteAt r.encode 3) (byteAt r.encode 4) (byteAt r.encode 5) = r.serial :=
    be32_extract r.serial
  have hcode : r.state.code.toNat ≤ 4 := by cases r.state <;> decide
  have hbar : r.state.code = 4 ↔ r.beforeBar.isSome = true := by
    rw [h.before]; cases r.state <;> simp [BandState.code]
  have hnone : beforeBarCode r.beforeBar = 0 ↔ r.beforeBar.isSome = false := by
    rcases r.beforeBar with _ | _ | _ <;> simp [beforeBarCode]
  have htwo : beforeBarCode r.beforeBar = 0 ∨ beforeBarCode r.beforeBar = 1 ∨ beforeBarCode r.beforeBar = 2 := by
    rcases r.beforeBar with _ | _ | _ <;> simp [beforeBarCode]
  have hfree : r.state.code = 0 → r.state = .free := by cases r.state <;> simp [BandState.code]
  have hzero : r.state.code = 0 → ((r.encode.take 31).drop 1).any (· != 0) = false := fun hc => by
    rw [h.free (hfree hc)]; rfl
  simp only [recordDamaged, Bool.or_eq_false_iff, hcheck, hstate, hbefore, hcls, hpaid, hflag, hserial,
    r.encode_take]
  refine ⟨⟨⟨⟨⟨⟨⟨⟨?_, ?_⟩, ?_⟩, ?_⟩, ?_⟩, ?_⟩, ?_⟩, ?_⟩, ?_⟩
  · simp
  · simpa using hcode
  · cases hb : r.beforeBar.isSome
    · rw [hnone.2 hb]; simp
    · rw [hbar.2 hb]; rfl
  · rcases htwo with h2 | h2 | h2 <;> simp_all
  · have := h.paid
    refine ⟨⟨?_, ?_⟩, ?_⟩ <;> simp <;> omega
  · rw [hstamp, h.stampExpected]; simp
  · by_cases hc : r.state.code = 0
    · rw [← r.encode_take, hzero hc, Bool.and_false]
    · rw [beq_false_of_ne hc, Bool.false_and]
  · by_cases hc : r.state.code = 0
    · rw [hc]; rfl
    · rw [beq_false_of_ne (h.serial fun hs => hc (by rw [hs]; rfl)), Bool.and_false]
  · rfl

/-- The values of a record are read back from its bytes. -/
theorem BandRecord.Good.recordOf_encode {r : BandRecord} (h : r.Good) : recordOf r.encode = r := by
  obtain ⟨-, hcabin, hmaster, hstamp⟩ := r.flags_bits
  have hcls : Fin.ofNat 8 (BitVec.ofNat 8 r.cls.val).toNat = r.cls := by
    rw [toNat_ofNat8 (by omega)]; exact Fin.ofNat_val_eq_self r.cls
  have hentry : (if r.flags.getLsbD 2 then some (be32 ((r.entry.getD 0).extractLsb' 24 8)
      ((r.entry.getD 0).extractLsb' 16 8) ((r.entry.getD 0).extractLsb' 8 8) ((r.entry.getD 0).extractLsb' 0 8))
      else none) = r.entry := by
    rw [be32_extract, hstamp]
    cases r.entry <;> rfl
  calc recordOf r.encode = ⟨bandStateOf r.state.code, beforeBarOf (beforeBarCode r.beforeBar),
        be32 (r.serial.extractLsb' 24 8) (r.serial.extractLsb' 16 8) (r.serial.extractLsb' 8 8)
          (r.serial.extractLsb' 0 8), Fin.ofNat 8 (BitVec.ofNat 8 r.cls.val).toNat,
        be16 (BitVec.ofNat 8 (r.paid / 256)) (BitVec.ofNat 8 r.paid),
        if r.flags.getLsbD 2 then some (be32 ((r.entry.getD 0).extractLsb' 24 8)
          ((r.entry.getD 0).extractLsb' 16 8) ((r.entry.getD 0).extractLsb' 8 8) ((r.entry.getD 0).extractLsb' 0 8))
          else none,
        be16 (BitVec.ofNat 8 (r.credit / 256)) (BitVec.ofNat 8 r.credit),
        be16 (BitVec.ofNat 8 (r.settled / 256)) (BitVec.ofNat 8 r.settled), r.mask, r.flags.getLsbD 0,
        r.flags.getLsbD 1⟩ := rfl
    _ = r := by
      rw [bandStateOf_code, beforeBarOf_code, be32_extract, hcls, be16_ofNat (by have := h.paid; omega), hentry,
        be16_ofNat h.credit, be16_ofNat h.settled, hcabin, hmaster]

/-- Settles O22. -/
theorem bandRecordRoundTrip : Obligations.BandRecordRoundTrip := fun r h => by
  rw [judgeRecord, if_neg (by simp [h.not_damaged]), h.recordOf_encode]

/-! ### Bytes of lists put together -/

theorem byteAt_append_left {a b : List Byte} {i : Nat} (h : i < a.length) : byteAt (a ++ b) i = byteAt a i := by
  simp [byteAt, List.getElem?_append_left h]

theorem byteAt_append_right {a : List Byte} {n : Nat} (h : a.length = n) (b : List Byte) (i : Nat) :
    byteAt (a ++ b) (n + i) = byteAt b i := by
  simp [byteAt, ← h, List.getElem?_append_right]

/-- The byte behind a list. -/
theorem byteAt_append_last {a : List Byte} {n : Nat} (h : a.length = n) (c : Byte) : byteAt (a ++ [c]) n = c := by
  subst h
  simp [byteAt]

/-- A byte of one block of a row of blocks of one length. -/
theorem byteAt_flatMap {α : Type} {f : α → List Byte} {m : Nat} (hf : ∀ a, (f a).length = m) (rest : List Byte)
    {l : List α} {i j : Nat} (hi : i < l.length) (hj : j < m) :
    byteAt (l.flatMap f ++ rest) (m * i + j) = byteAt (f l[i]) j := by
  induction l generalizing i with
  | nil => simp at hi
  | cons a l ih =>
    rw [List.flatMap_cons, List.append_assoc]
    cases i with
    | zero => simpa using byteAt_append_left (by rw [hf]; exact hj)
    | succ i =>
      have hi' : i < l.length := by simpa using hi
      rw [Nat.mul_succ, Nat.add_comm (m * i) m, Nat.add_assoc, byteAt_append_right (hf a), ih hi', List.getElem_cons_succ]

/-- The length of a row of blocks of one length. -/
theorem length_flatMap_const {α : Type} {f : α → List Byte} {m : Nat} (hf : ∀ a, (f a).length = m) (l : List α) :
    (l.flatMap f).length = m * l.length := by
  simp [List.length_flatMap, hf, Nat.mul_comm]

/-! ### The header (R3, R172) -/

/-- The bytes of one string's pulse settings in the header (log 12). -/
def StringSettings.bytes (g : StringSettings) : List Byte := toBe16 g.pulse ++ toBe16 g.rest ++ toBe16 g.window

/-- The bytes of one tariff class record in the header (log 12). -/
def TariffClass.bytes (t : TariffClass) : List Byte :=
  toBe16 t.grace ++ [BitVec.ofNat 8 t.block] ++ toBe16 t.price ++ toBe16 t.cap

theorem StringSettings.bytes_length (g : StringSettings) : g.bytes.length = 6 := rfl

theorem TariffClass.bytes_length (t : TariffClass) : t.bytes.length = 7 := rfl

/-- The header's bytes in front of the strings' settings. -/
def Settings.headerStart (x : Settings) : List Byte :=
  signature ++ toBe16 x.tableLength ++ [BitVec.ofNat 8 x.fittedStrings]

/-- The header's bytes between the strings' settings and the tariff table. -/
def Settings.headerMiddle (x : Settings) : List Byte :=
  [BitVec.ofNat 8 x.fittedLanes] ++ x.roles.toList.map LaneRole.code ++
    [BitVec.ofNat 8 x.armWindow] ++ toBe16 x.capacity ++ [BitVec.ofNat 8 x.margin] ++
    toBe16 x.cabinLimit ++ toBe16 x.cabinGrace ++ toBe16 x.halfPeriod ++
    [BitVec.ofNat 8 x.pollWindow, BitVec.ofNat 8 x.missLimit, onOffByte x.refusals]

/-- The five parts of the header's bytes in front of its check. -/
theorem Settings.headerBody_eq (x : Settings) : x.headerBody = x.headerStart ++
    (x.strings.toList.flatMap StringSettings.bytes ++ (x.headerMiddle ++
      (x.tariff.toList.flatMap TariffClass.bytes ++ List.replicate 120 0))) := by
  simp only [Settings.headerBody, Settings.headerFields, Settings.headerStart, Settings.headerMiddle,
    List.append_assoc]
  rfl

theorem Settings.headerStart_length (x : Settings) : x.headerStart.length = 7 := rfl

theorem Settings.headerMiddle_length (x : Settings) : x.headerMiddle.length = 18 := by
  simp [Settings.headerMiddle, toBe16]

theorem Settings.headerStrings_length (x : Settings) :
    (x.strings.toList.flatMap StringSettings.bytes).length = 54 := by
  rw [length_flatMap_const StringSettings.bytes_length, Vector.length_toList]

theorem Settings.headerTariff_length (x : Settings) :
    (x.tariff.toList.flatMap TariffClass.bytes).length = 56 := by
  rw [length_flatMap_const TariffClass.bytes_length, Vector.length_toList]

theorem Settings.headerBody_length (x : Settings) : x.headerBody.length = 255 := by
  simp only [x.headerBody_eq, List.length_append, x.headerStart_length, x.headerStrings_length,
    x.headerMiddle_length, x.headerTariff_length, List.length_replicate]

/-- A byte in front of the strings' settings. -/
theorem Settings.byteAt_start (x : Settings) {i : Nat} (h : i < 7) :
    byteAt x.encodeHeader i = byteAt x.headerStart i := by
  rw [Settings.encodeHeader, x.headerBody_eq, List.append_assoc]
  exact byteAt_append_left h

/-- A byte of a string's settings. -/
theorem Settings.byteAt_string (x : Settings) (i : Fin 9) {j : Nat} (hj : j < 6) :
    byteAt x.encodeHeader (7 + (6 * i.val + j)) = byteAt x.strings[i.val].bytes j := by
  rw [Settings.encodeHeader, x.headerBody_eq, List.append_assoc, byteAt_append_right x.headerStart_length,
    List.append_assoc, byteAt_flatMap StringSettings.bytes_length _ (by simp) hj, Vector.getElem_toList]

/-- A byte between the strings' settings and the tariff table. -/
theorem Settings.byteAt_middle (x : Settings) {j : Nat} (hj : j < 18) :
    byteAt x.encodeHeader (61 + j) = byteAt x.headerMiddle j := by
  rw [show 61 + j = 7 + (54 + j) by omega, Settings.encodeHeader, x.headerBody_eq, List.append_assoc,
    byteAt_append_right x.headerStart_length, List.append_assoc, byteAt_append_right x.headerStrings_length,
    List.append_assoc, byteAt_append_left (x.headerMiddle_length ▸ hj)]

/-- A byte of a tariff class record. -/
theorem Settings.byteAt_class (x : Settings) (i : Fin 8) {j : Nat} (hj : j < 7) :
    byteAt x.encodeHeader (79 + (7 * i.val + j)) = byteAt x.tariff[i.val].bytes j := by
  rw [show 79 + (7 * i.val + j) = 7 + (54 + (18 + (7 * i.val + j))) by omega, Settings.encodeHeader, x.headerBody_eq,
    List.append_assoc, byteAt_append_right x.headerStart_length, List.append_assoc,
    byteAt_append_right x.headerStrings_length, List.append_assoc, byteAt_append_right x.headerMiddle_length,
    List.append_assoc, byteAt_flatMap TariffClass.bytes_length _ (by simp) hj, Vector.getElem_toList]

/-- The settings of a string are read back. -/
theorem headerString_encode {x : Settings} {i : Fin 9} (h : x.strings[i.val].inRange = true) :
    headerString x.encodeHeader i.val = x.strings[i.val] := by
  have hb : ∀ j, j < 6 → byteAt x.encodeHeader (7 + 6 * i.val + j) = byteAt x.strings[i.val].bytes j :=
    fun j hj => by rw [Nat.add_assoc]; exact x.byteAt_string i hj
  simp only [StringSettings.inRange, onTens, Bool.and_eq_true, decide_eq_true_eq] at h
  rw [headerString, headerWord, headerWord, headerWord, show 9 + 6 * i.val = 7 + 6 * i.val + 2 by omega,
    show 11 + 6 * i.val = 7 + 6 * i.val + 4 by omega, hb 1 (by omega), hb 2 (by omega), Nat.add_assoc _ 2 1,
    hb 3 (by omega), hb 4 (by omega), Nat.add_assoc _ 4 1, hb 5 (by omega), ← Nat.add_zero (7 + 6 * i.val),
    hb 0 (by omega)]
  generalize x.strings[i.val] = g at h
  calc (⟨be16 (BitVec.ofNat 8 (g.pulse / 256)) (BitVec.ofNat 8 g.pulse),
        be16 (BitVec.ofNat 8 (g.rest / 256)) (BitVec.ofNat 8 g.rest),
        be16 (BitVec.ofNat 8 (g.window / 256)) (BitVec.ofNat 8 g.window)⟩ : StringSettings) = g := by
        rw [be16_ofNat (by omega), be16_ofNat (by omega), be16_ofNat (by omega)]

/-- A tariff class record is read back. -/
theorem headerClass_encode {x : Settings} {i : Fin 8} (h : x.tariff[i.val].inRange = true) :
    headerClass x.encodeHeader i.val = x.tariff[i.val] := by
  have hb : ∀ n j, n = 79 + (7 * i.val + j) → j < 7 →
      byteAt x.encodeHeader n = byteAt x.tariff[i.val].bytes j := fun n j hn hj => by rw [hn]; exact x.byteAt_class i hj
  simp only [TariffClass.inRange, within, Bool.and_eq_true, decide_eq_true_eq] at h
  rw [headerClass, headerWord, headerWord, headerWord, hb _ 0 (by omega) (by omega), hb _ 1 (by omega) (by omega),
    hb _ 2 (by omega) (by omega), hb _ 3 (by omega) (by omega), hb _ 4 (by omega) (by omega),
    hb _ 5 (by omega) (by omega), hb _ 6 (by omega) (by omega)]
  generalize x.tariff[i.val] = t at h
  calc (⟨be16 (BitVec.ofNat 8 (t.grace / 256)) (BitVec.ofNat 8 t.grace), (BitVec.ofNat 8 t.block).toNat,
        be16 (BitVec.ofNat 8 (t.price / 256)) (BitVec.ofNat 8 t.price),
        be16 (BitVec.ofNat 8 (t.cap / 256)) (BitVec.ofNat 8 t.cap)⟩ : TariffClass) = t := by
        rw [be16_ofNat (by omega), toNat_ofNat8 (by omega), be16_ofNat (by omega), be16_ofNat (by omega)]

theorem laneRoleOf_code (r : LaneRole) : laneRoleOf r.code = some r := by cases r <;> rfl

/-- A lane's role is read back. -/
theorem headerRole_encode (x : Settings) (i : Fin 4) :
    laneRoleOf (byteAt x.encodeHeader (62 + i.val)) = some x.roles[i.val] := by
  have hmid : byteAt x.headerMiddle (1 + i.val) = x.roles[i.val].code := by
    simp only [Settings.headerMiddle, List.append_assoc]
    rw [byteAt_append_right (n := 1) rfl, byteAt_append_left (by simp)]
    simp [byteAt]
  rw [show 62 + i.val = 61 + (1 + i.val) by omega, x.byteAt_middle (by omega), hmid, laneRoleOf_code]

/-- The bytes between the tables, one by one. -/
theorem Settings.headerMiddle_eq (x : Settings) : x.headerMiddle =
    [BitVec.ofNat 8 x.fittedLanes, x.roles[0].code, x.roles[1].code, x.roles[2].code, x.roles[3].code,
      BitVec.ofNat 8 x.armWindow, BitVec.ofNat 8 (x.capacity / 256), BitVec.ofNat 8 x.capacity,
      BitVec.ofNat 8 x.margin, BitVec.ofNat 8 (x.cabinLimit / 256), BitVec.ofNat 8 x.cabinLimit,
      BitVec.ofNat 8 (x.cabinGrace / 256), BitVec.ofNat 8 x.cabinGrace, BitVec.ofNat 8 (x.halfPeriod / 256),
      BitVec.ofNat 8 x.halfPeriod, BitVec.ofNat 8 x.pollWindow, BitVec.ofNat 8 x.missLimit,
      onOffByte x.refusals] := by
  have hroles : x.roles.toList = [x.roles[0], x.roles[1], x.roles[2], x.roles[3]] := by
    refine List.ext_getElem (by simp) fun i h₁ h₂ => ?_
    simp only [Vector.length_toList] at h₁
    interval_cases i <;> simp
  rw [Settings.headerMiddle, hroles]
  rfl

/-- The ranges of R172, one by one. -/
theorem Settings.inRange_iff (x : Settings) : x.inRange = true ↔
    (1 ≤ x.fittedStrings ∧ x.fittedStrings ≤ 8) ∧ (∀ i : Fin 9, x.strings[i.val].inRange = true) ∧
    x.fittedLanes ≤ 4 ∧ (2 ≤ x.armWindow ∧ x.armWindow ≤ 30) ∧ (1 ≤ x.capacity ∧ x.capacity ≤ 999) ∧
    x.margin ≤ 50 ∧ (60 ≤ x.cabinLimit ∧ x.cabinLimit ≤ 3600) ∧ x.cabinGrace ≤ 1800 ∧
    onTens 100 1000 x.halfPeriod = true ∧ (2 ≤ x.pollWindow ∧ x.pollWindow ≤ 20) ∧
    (1 ≤ x.missLimit ∧ x.missLimit ≤ 7) ∧ (∀ i : Fin 8, x.tariff[i.val].inRange = true) := by
  have hall : ∀ {α : Type} {n : Nat} (v : Vector α n) (p : α → Bool),
      v.toList.all p = true ↔ ∀ i : Fin n, p v[i.val] = true := fun v p => by
    rw [List.all_eq_true]
    constructor
    · exact fun h i => h _ (by simp)
    · intro h a ha
      obtain ⟨i, hi, rfl⟩ := List.mem_iff_getElem.1 ha
      simpa using h ⟨i, by simpa using hi⟩
  simp only [Settings.inRange, within, Bool.and_eq_true, decide_eq_true_eq, hall, Nat.zero_le, true_and, and_assoc]

/-- What a header names is read field by field. -/
theorem headerSettings_eq {bs : List Byte} {x : Settings} (hunits : headerWord bs 4 = x.tableLength)
    (hstrings : (byteAt bs 6).toNat = x.fittedStrings) (hs : ∀ i : Fin 9, headerString bs i.val = x.strings[i.val])
    (hlanes : (byteAt bs 61).toNat = x.fittedLanes) (hr : ∀ i : Fin 4, headerRole bs i.val = x.roles[i.val])
    (harm : (byteAt bs 66).toNat = x.armWindow) (hcap : headerWord bs 67 = x.capacity)
    (hmargin : (byteAt bs 69).toNat = x.margin) (hlimit : headerWord bs 70 = x.cabinLimit)
    (hgrace : headerWord bs 72 = x.cabinGrace) (hhalf : headerWord bs 74 = x.halfPeriod)
    (hpoll : (byteAt bs 76).toNat = x.pollWindow) (hmiss : (byteAt bs 77).toNat = x.missLimit)
    (hrefusals : (byteAt bs 78 == 1) = x.refusals) (hc : ∀ i : Fin 8, headerClass bs i.val = x.tariff[i.val]) :
    headerSettings bs = x := by
  have htables : Fin.ofNat 8 (headerWord bs 4 / 256 - 1) = x.tableUnits := by
    refine Fin.ext ?_
    simp only [hunits, Settings.tableLength, Fin.ofNat]
    omega
  have hstringTable : (headerSettings bs).strings = x.strings := Vector.ext fun i hi =>
    (show (headerSettings bs).strings[i] = headerString bs i by interval_cases i <;> rfl).trans (hs ⟨i, hi⟩)
  have hroleTable : (headerSettings bs).roles = x.roles := Vector.ext fun i hi =>
    (show (headerSettings bs).roles[i] = headerRole bs i by interval_cases i <;> rfl).trans (hr ⟨i, hi⟩)
  have hclassTable : (headerSettings bs).tariff = x.tariff := Vector.ext fun i hi =>
    (show (headerSettings bs).tariff[i] = headerClass bs i by interval_cases i <;> rfl).trans (hc ⟨i, hi⟩)
  cases x
  exact Settings.mk.injEq .. ▸ ⟨htables, hstrings, hstringTable, hlanes, hroleTable, harm, hcap, hmargin, hlimit,
    hgrace, hhalf, hpoll, hmiss, hrefusals, hclassTable⟩

/-- A byte of the middle part of the header. -/
theorem Settings.middle_byte (x : Settings) {j n : Nat} (hj : j < 18) (hn : n ≤ 255)
    (h : byteAt x.headerMiddle j = BitVec.ofNat 8 n) : (byteAt x.encodeHeader (61 + j)).toNat = n := by
  rw [x.byteAt_middle hj, h, toNat_ofNat8 hn]

/-- Two bytes of the middle part of the header. -/
theorem Settings.middle_word (x : Settings) {j n : Nat} (hj : j + 1 < 18) (hn : n ≤ 65535)
    (h₁ : byteAt x.headerMiddle j = BitVec.ofNat 8 (n / 256)) (h₂ : byteAt x.headerMiddle (j + 1) = BitVec.ofNat 8 n) :
    headerWord x.encodeHeader (61 + j) = n := by
  rw [headerWord, Nat.add_assoc, x.byteAt_middle (by omega), x.byteAt_middle hj, h₁, h₂, be16_ofNat hn]

/-- The table length is read back. -/
theorem Settings.header_tableLength (x : Settings) : headerWord x.encodeHeader 4 = x.tableLength := by
  rw [headerWord, x.byteAt_start (by omega), x.byteAt_start (by omega)]
  exact be16_ofNat (by rw [Settings.tableLength]; omega)

/-- The refusals option stands in byte 78. -/
theorem Settings.header_refusals (x : Settings) : byteAt x.encodeHeader 78 = onOffByte x.refusals := by
  rw [show 78 = 61 + 17 by rfl, x.byteAt_middle (by omega), x.headerMiddle_eq]
  rfl

/-- Settings in their ranges are read back from their header. -/
theorem headerSettings_encode {x : Settings} (h : x.inRange = true) : headerSettings x.encodeHeader = x := by
  obtain ⟨hstrings, hstring, hlanes, harm, hcap, hmargin, hlimit, hgrace, hhalf, hpoll, hmiss, hclass⟩ :=
    x.inRange_iff.1 h
  simp only [onTens, Bool.and_eq_true, decide_eq_true_eq] at hhalf
  have hm := x.headerMiddle_eq
  refine headerSettings_eq x.header_tableLength ?_ (fun i => headerString_encode (hstring i))
    (x.middle_byte (j := 0) (by omega) (by omega) (by rw [hm]; rfl))
    (fun i => by rw [headerRole, headerRole_encode, Option.getD_some])
    (x.middle_byte (j := 5) (by omega) (by omega) (by rw [hm]; rfl))
    (x.middle_word (j := 6) (by omega) (by omega) (by rw [hm]; rfl) (by rw [hm]; rfl))
    (x.middle_byte (j := 8) (by omega) (by omega) (by rw [hm]; rfl))
    (x.middle_word (j := 9) (by omega) (by omega) (by rw [hm]; rfl) (by rw [hm]; rfl))
    (x.middle_word (j := 11) (by omega) (by omega) (by rw [hm]; rfl) (by rw [hm]; rfl))
    (x.middle_word (j := 13) (by omega) (by omega) (by rw [hm]; rfl) (by rw [hm]; rfl))
    (x.middle_byte (j := 15) (by omega) (by omega) (by rw [hm]; rfl))
    (x.middle_byte (j := 16) (by omega) (by omega) (by rw [hm]; rfl))
    (by rw [x.header_refusals]; cases x.refusals <;> rfl) (fun i => headerClass_encode (hclass i))
  rw [x.byteAt_start (by omega)]
  exact toNat_ofNat8 (by omega)

/-- Settles the header's half of O23: the signature, the check and the ranges all pass. -/
theorem judgeHeader_encode {x : Settings} (h : x.inRange = true) : judgeHeader x.encodeHeader = some x := by
  have hsig : x.encodeHeader.take 4 = signature := by
    rw [Settings.encodeHeader, x.headerBody_eq, Settings.headerStart]
    simp only [List.append_assoc]
    exact List.take_left' rfl
  have htake : x.encodeHeader.take 255 = x.headerBody := by
    rw [Settings.encodeHeader, ← x.headerBody_length, List.take_left]
  have hcheck : byteAt x.encodeHeader 255 = crc8 x.headerBody := by
    rw [Settings.encodeHeader, byteAt_append_last x.headerBody_length]
  have hlength : within 256 2048 x.tableLength = true ∧ x.tableLength % 256 = 0 := by
    have := x.tableUnits.isLt
    refine ⟨?_, by rw [Settings.tableLength]; omega⟩
    rw [within, Settings.tableLength, Bool.and_eq_true]
    exact ⟨decide_eq_true (by omega), decide_eq_true (by omega)⟩
  have hroles : (List.range 4).all (fun i => (laneRoleOf (byteAt x.encodeHeader (62 + i))).isSome) = true := by
    rw [List.all_eq_true]
    intro i hi
    rw [headerRole_encode x ⟨i, List.mem_range.1 hi⟩, Option.isSome_some]
  have hrefusals : (byteAt x.encodeHeader 78 == 0 || byteAt x.encodeHeader 78 == 1) = true := by
    rw [x.header_refusals]
    cases x.refusals <;> rfl
  rw [judgeHeader, headerSettings_encode h, if_pos]
  simp only [hsig, htake, hcheck, x.header_tableLength, hlength, hroles, hrefusals, h, beq_self_eq_true, Bool.and_self]

/-! ### The mirror record (R48, R173) -/

/-- The bytes of a mirror record, one by one. -/
theorem MirrorImage.encode_eq (m : MirrorImage) : m.encode = [restingCode m.state, onOffByte m.owner.isSome] ++
    toBe16 ((m.owner.map Fin.val).getD 0) ++ [BitVec.ofNat 8 m.companions.length] ++ companionBytes m.companions 0 ++
    companionBytes m.companions 1 ++ companionBytes m.companions 2 ++ [0, 0, 0, 0, crc8 m.body] := rfl

theorem restingOf_code {st : LockerState} (h₁ : st ≠ .locking) (h₂ : st ≠ .unlocking) :
    restingOf (restingCode st) = some st := by
  cases st <;> simp_all [restingCode, restingOf]

/-- The owner is read back. -/
theorem mirrorOwner_encode (m : MirrorImage) : mirrorOwner m.encode = m.owner.map Fin.val := by
  have hflag : byteAt m.encode 1 = onOffByte m.owner.isSome := rfl
  have hword : be16 (byteAt m.encode 2) (byteAt m.encode 3) = (m.owner.map Fin.val).getD 0 := by
    refine be16_ofNat ?_
    cases h : m.owner with
    | none => exact Nat.zero_le _
    | some b => exact (show b.val ≤ 65535 by omega)
  rw [mirrorOwner, hflag, hword]
  cases m.owner <;> rfl

/-- The companion at a place of the list is read back. -/
theorem be16_companion (l : List BandNo) (i : Nat) :
    be16 (BitVec.ofNat 8 ((l[i]?.map Fin.val).getD 0 / 256)) (BitVec.ofNat 8 ((l[i]?.map Fin.val).getD 0)) =
      (l[i]?.map Fin.val).getD 0 := by
  refine be16_ofNat ?_
  cases h : l[i]? with
  | none => exact Nat.zero_le _
  | some b => exact (show b.val ≤ 65535 by omega)

/-- The companion list is read back. -/
theorem mirrorCompanions_encode {m : MirrorImage} (h : m.companions.length ≤ 3) :
    mirrorCompanions m.encode = m.companions.map Fin.val := by
  have hcount : (byteAt m.encode 4).toNat = m.companions.length := toNat_ofNat8 (by omega)
  have hplace : ∀ i, i < 3 → be16 (byteAt m.encode (5 + 2 * i)) (byteAt m.encode (6 + 2 * i)) =
      (m.companions[i]?.map Fin.val).getD 0 := fun i hi => by
    interval_cases i <;> exact be16_companion _ _
  rw [mirrorCompanions, hcount]
  refine List.ext_getElem (by simp) fun i h₁ h₂ => ?_
  have hi : i < m.companions.length := by simpa using h₁
  rw [List.getElem_map, List.getElem_range, hplace i (by omega), List.getElem_map, List.getElem?_eq_getElem hi]
  rfl

/-- Settles O23: the header by its fields, and the mirror record by the tests of R173 in their order. -/
theorem storedRecordsRoundTrip : Obligations.StoredRecordsRoundTrip := by
  refine ⟨fun x h => judgeHeader_encode h, fun m tableLength owners companions h₁ h₂ howned hfree halone hlen hnodup
    howner hcomp => ?_⟩
  have hstate : byteAt m.encode 0 = restingCode m.state := rfl
  have hflag : (byteAt m.encode 1).toNat ≤ 1 := by
    change (onOffByte m.owner.isSome).toNat ≤ 1
    cases m.owner.isSome <;> decide
  have hcount : (byteAt m.encode 4).toNat ≤ 3 := (toNat_ofNat8 (by omega)).trans_le hlen
  have hcheck : byteAt m.encode 15 = crc8 (m.encode.take 15) := rfl
  have howner' : (m.owner.map Fin.val).map bandNoOf = m.owner := by cases m.owner <;> simp
  have hcomp' : (m.companions.map Fin.val).map bandNoOf = m.companions := by simp [Function.comp_def]
  rw [judgeMirror, hstate, restingOf_code h₁ h₂, mirrorOwner_encode, mirrorCompanions_encode hlen]
  dsimp only
  rw [if_pos, howner', hcomp']
  simp only [Bool.and_eq_true]
  refine ⟨⟨⟨⟨⟨⟨⟨⟨⟨⟨?_, ?_⟩, ?_⟩, ?_⟩, ?_⟩, ?_⟩, ?_⟩, ?_⟩, ?_⟩, ?_⟩, ?_⟩
  · rw [hcheck]; exact beq_self_eq_true _
  · exact decide_eq_true hflag
  · exact decide_eq_true hcount
  · split
    · next h => simpa using howned h
    · rfl
  · split
    · next h => simp [hfree h]
    · rfl
  · cases ho : m.owner <;> simp [ho, halone]
  · exact decide_eq_true (hnodup.map Fin.val_injective)
  · cases ho : m.owner with
    | none => rfl
    | some b =>
      have hb : b ∉ m.companions := (howner b ho).1
      simpa [Fin.val_inj] using hb
  · rw [List.all_append, Bool.and_eq_true]
    constructor
    · cases ho : m.owner with
      | none => rfl
      | some b => simpa using (howner b ho).2.1
    · simpa using fun b hb => (hcomp b hb).1
  · rw [← Option.toList_map, howner']
    cases ho : m.owner with
    | none => rfl
    | some b => simpa using (howner b ho).2.2
  · rw [hcomp']
    simpa using fun b hb => (hcomp b hb).2

/-! ### The memory's cells (R3, log 10) -/

/-- An address below every listed one reads as blank. -/
theorem readCell_below {m : List Host.Cell} {x : Nat} (h : ∀ c ∈ m, x < c.1) : readCell m x = blankByte := by
  cases m with
  | nil => rfl
  | cons c m =>
    obtain ⟨a, b⟩ := c
    have hx : x < a := h (a, b) (by simp)
    rw [readCell, if_neg (by omega), if_pos hx]

/-- A byte put at an address is read there, and every other address reads as before. -/
theorem readCell_writeCell {m : List Host.Cell} (h : Memory.wf m) (a : Nat) (v : Byte) (x : Nat) :
    readCell (writeCell m a v) x = if x = a then v else readCell m x := by
  induction m with
  | nil =>
    by_cases hv : v = blankByte <;> by_cases hx : x = a <;> simp [writeCell, readCell, hv, hx]
  | cons c m ih =>
    obtain ⟨n, b⟩ := c
    have hwf : Memory.wf m := ⟨h.1.of_cons, fun d hd => h.2 d (List.mem_cons_of_mem _ hd)⟩
    have hrise : ∀ d ∈ m, n < d.1 := fun d hd => List.rel_of_pairwise_cons h.1 hd
    rcases Nat.lt_trichotomy a n with hlt | rfl | hlt
    · rw [writeCell, if_neg (by omega), if_pos hlt]
      split
      · next hv =>
        split
        · next hx => rw [readCell, if_neg (by omega), if_pos (by omega), hv]
        · rfl
      · rw [readCell]
        split
        · rfl
        · split
          · next hx => rw [readCell, if_neg (by omega), if_pos (by omega)]
          · rfl
    · rw [writeCell, if_pos rfl]
      split
      · next hv =>
        rw [readCell]
        rcases Nat.lt_trichotomy x a with hx | rfl | hx
        · rw [if_neg (by omega), if_neg (by omega), if_pos hx, readCell_below fun d hd => hx.trans (hrise d hd)]
        · rw [if_pos rfl, readCell_below hrise, hv]
        · rw [if_neg (by omega), if_neg (by omega), if_neg (by omega)]
      · rw [readCell, readCell]
        split <;> rfl
    · rw [writeCell, if_neg (by omega), if_neg (by omega), readCell, readCell, ih hwf]
      rcases Nat.lt_trichotomy x n with hx | rfl | hx
      · simp [show x ≠ n by omega, show x ≠ a by omega, hx]
      · simp [show x ≠ a by omega]
      · simp [show x ≠ n by omega, show ¬x < n by omega]

/-- Bytes put at consecutive addresses are read there, and every other address reads as before. -/
theorem readCell_writeCells {m : List Host.Cell} (h : Memory.wf m) (a : Nat) (bs : List Byte) (x : Nat) :
    readCell (writeCells m a bs) x =
      if hx : a ≤ x ∧ x < a + bs.length then bs[x - a]'(by omega) else readCell m x := by
  induction bs generalizing m a with
  | nil => rw [writeCells, dif_neg (by simp)]
  | cons b bs ih =>
    rw [writeCells, ih (writeCell_wf h a b), readCell_writeCell h]
    rcases Nat.lt_trichotomy x a with hx | rfl | hx
    · rw [dif_neg (by omega), if_neg (by omega), dif_neg (by omega)]
    · rw [dif_neg (by omega), if_pos rfl, dif_pos (by simp)]
      simp
    · by_cases hin : x < a + (bs.length + 1)
      · rw [dif_pos (by omega), dif_pos (by simp; omega)]
        simp only [show x - a = x - (a + 1) + 1 by omega, List.getElem_cons_succ]
      · rw [dif_neg (by omega), if_neg (by omega), dif_neg (by simp; omega)]

/-- Settles O24: inside the bytes written no byte is left unsettled, and outside them none becomes so. -/
theorem storeReadsBack : Obligations.StoreReadsBack := by
  intro st a bs x hwf
  have hcells := readCell_writeCells hwf a bs x
  by_cases hx : a ≤ x ∧ x < a + bs.length
  · have hnone : (st.write a bs).unsettled.find? (fun u => u.1 = x) = none := by
      rw [List.find?_eq_none]
      intro u hu heq
      simp only [Store.write, List.mem_filter, Bool.or_eq_true, decide_eq_true_eq] at hu heq
      omega
    rw [dif_pos hx] at hcells ⊢
    rw [Store.byte, hnone]
    exact hcells
  · have hfind : (st.write a bs).unsettled.find? (fun u => u.1 = x) = st.unsettled.find? (fun u => u.1 = x) :=
      find?_address_filter fun u hu => by
        simp only [Bool.or_eq_true, decide_eq_true_eq]
        omega
    rw [dif_neg hx] at hcells ⊢
    rw [Store.byte, Store.byte, hfind]
    cases st.unsettled.find? (fun u => u.1 = x) with
    | none => exact hcells
    | some u => rfl

end Sys2Proof.Machine
end


section
/-!
PROOF. The ends of the operations that wait at FETCH requests which leave the queue (R4, R15, R177), and the winding-down
interval's beginning (R170, R171). Where the presentations are dropped, no request is outstanding and no commit is
pending, such an end touches no more than the lockers' own records.
-/

namespace Sys2Proof.Machine

/-! ### The presentations dropped at once (R29) -/

/-- Marks set for two sets of heads in turn are the marks for both together (R27). -/
theorem State.markWaiter_comp {s t : State} {left gone : HeadNo → Bool}
    (h : ∀ n, t.slot n = if left n = true then none else s.slot n) (w : Waiter) :
    t.markWaiter gone (s.markWaiter left w) = s.markWaiter (fun n => left n || gone n) w := by
  cases w with
  | lookup n p =>
    simp only [State.markWaiter, h]
    rcases left n with _ | _ <;> rcases gone n with _ | _ <;> simp
  | _ => rfl

/-- The presentations of some heads are dropped one after another. -/
theorem State.dropPresentations_spec (s : State) (l : List HeadNo) :
    (∃ p c, l.foldl State.dropPresentation s = (s.setPres p).setBand { s.band with cache := c }) ∧
      (∀ g, (l.foldl State.dropPresentation s).slot g = if decide (g ∈ l) = true then none else s.slot g) ∧
      ∀ e, (l.foldl State.dropPresentation s).entry e =
        { s.entry e with waiters := (s.entry e).waiters.map (s.markWaiter (fun g => decide (g ∈ l))) } := by
  induction l using List.reverseRecOn with
  | nil =>
    refine ⟨⟨s.pres, s.band.cache, rfl⟩, fun g => rfl, fun e => ?_⟩
    have hid : s.markWaiter (fun g => decide (g ∈ ([] : List HeadNo))) = id := by
      funext w
      cases w <;> simp [State.markWaiter]
    rw [hid, List.map_id]
    rfl
  | append_singleton l h ih =>
    obtain ⟨⟨p, c, honly⟩, hslot, hentry⟩ := ih
    rw [List.foldl_append, List.foldl_cons, List.foldl_nil]
    set t := l.foldl State.dropPresentation s
    obtain ⟨⟨p', c', honly'⟩, hslot', hentry'⟩ := t.dropPresentation_spec h
    refine ⟨⟨p', c', by rw [honly', honly]; rfl⟩, fun g => ?_, fun e => ?_⟩
    · rw [hslot', hslot]
      by_cases hg : g = h
      · simp [hg]
      · simp [hg, Ne.symm hg]
    · rw [hentry', hentry, List.map_map]
      refine congrArg (fun ws => { s.entry e with waiters := ws }) (List.map_congr_left fun w _ => ?_)
      rw [Function.comp_apply, State.markWaiter_comp hslot]
      refine congrArg (fun p => s.markWaiter p w) (funext fun g => ?_)
      by_cases hg : g = h <;> simp [hg]

/-! ### Ends that are not heard (R4) -/

/-- The end of a band operation places no verdict, gives no reply and keeps no commit. -/
def State.Unheard (s : State) : Waiter → Prop
  | .lookup _ p => p.superseded = true
  | .request _ => s.link.outstanding = none
  | .commit l _ => (s.lane l).commit = none
  | .ownerCheck _ => s.part.startup = .done
  | .companionCheck _ => s.part.startup = .done

theorem State.LockersOnly.refl (s : State) : s.LockersOnly s := ⟨_, rfl⟩

theorem State.LockersOnly.trans {s t u : State} (h : s.LockersOnly t) (g : t.LockersOnly u) : s.LockersOnly u := by
  obtain ⟨x, rfl⟩ := h
  obtain ⟨x, rfl⟩ := g
  exact ⟨x, rfl⟩

/-- Whether an end is heard is no matter of the lockers. -/
theorem State.LockersOnly.unheard {s t : State} (h : s.LockersOnly t) {w : Waiter} (hw : s.Unheard w) :
    t.Unheard w := by
  obtain ⟨x, rfl⟩ := h
  cases w <;> exact hw

theorem State.ownershipEnded_done {s : State} (h : s.part.startup = .done) : s.ownershipEnded = s := by
  rw [State.ownershipEnded, h]

theorem State.checkOwner_only (s : State) (k : LockerNo) (found : Option BandState) :
    s.LockersOnly (s.checkOwner k found) := by
  unfold State.checkOwner
  split
  · exact ⟨_, rfl⟩
  · exact ⟨_, rfl⟩
  · exact ⟨_, rfl⟩
  · exact ⟨_, rfl⟩

theorem State.checkCompanion_only (s : State) (k : LockerNo) (b : BandNo) (found : Option BandState) :
    s.LockersOnly (s.checkCompanion k b found) := by
  unfold State.checkCompanion
  split
  · exact ⟨_, rfl⟩
  · exact ⟨_, rfl⟩
  · dsimp only
    split <;> exact ⟨_, rfl⟩

/-- An end that is not heard changes lockers at most. -/
theorem State.endOp_unheard {s : State} {w : Waiter} (h : s.Unheard w) (n : Option BandNo) (res : Result) :
    s.LockersOnly (s.endOp w n res) := by
  cases w with
  | lookup g p =>
    have hp : p.superseded = true := h
    simp only [State.endOp, hp, if_true]
    exact .refl s
  | request r =>
    have ho : s.link.outstanding = none := h
    simp only [State.endOp, State.answer, State.giveReply, ho]
    exact .refl s
  | commit l stamp =>
    have hc : (s.lane l).commit = none := h
    simp only [State.endOp, hc]
    exact .refl s
  | ownerCheck k =>
    have honly := s.checkOwner_only k none
    have hdone : (s.checkOwner k none).part.startup = .done := by obtain ⟨x, hx⟩ := honly; rw [hx]; exact h
    simp only [State.endOp, State.ownershipEnded_done hdone]
    exact honly
  | companionCheck k =>
    cases n with
    | none =>
      simp only [State.endOp, State.ownershipEnded_done (s := s) h]
      exact .refl s
    | some b =>
      have honly := s.checkCompanion_only k b none
      have hdone : (s.checkCompanion k b none).part.startup = .done := by obtain ⟨x, hx⟩ := honly; rw [hx]; exact h
      simp only [State.endOp, State.ownershipEnded_done hdone]
      exact honly

/-- So do the ends of a list of such operations. -/
theorem State.foldl_endOp_unheard (n : Option BandNo) (res : Result) {ws : List Waiter} {s : State}
    (h : ∀ w ∈ ws, s.Unheard w) : s.LockersOnly (ws.foldl (fun t w => t.endOp w n res) s) := by
  induction ws generalizing s with
  | nil => exact .refl s
  | cons w ws ih =>
    have hstep := State.endOp_unheard (h w (by simp)) n res
    rw [List.foldl_cons]
    exact hstep.trans (ih fun v hv => hstep.unheard (h v (by simp [hv])))

theorem State.emptyEntry_eq (s : State) (e : EntryNo) : s.emptyEntry e = s.dropped e := rfl

/-- An entry whose waiters' ends are not heard is emptied, and lockers are all that changes besides. -/
theorem State.endWaiters_unheard {s : State} {e : EntryNo} (h : ∀ w ∈ (s.entry e).waiters, s.Unheard w)
    (res : Result) : (s.dropped e).LockersOnly (s.endWaiters e res) := by
  refine State.foldl_endOp_unheard (s := s.dropped e) _ res fun w hw => ?_
  have := h w hw
  cases w <;> exact this

/-! ### The FETCH requests that leave the queue (R4, R15, R177) -/

/-- The entries of the FETCH requests of a queue, in its order. -/
def fetchesOf (q : List PortRequest) : List EntryNo :=
  q.filterMap (fun r => match r with | .fetch e => some e | _ => none)

/-- A queue without its FETCH requests. -/
def withoutFetches (q : List PortRequest) : List PortRequest :=
  q.filter (fun r => match r with | .fetch _ => false | _ => true)

theorem mem_fetchesOf {q : List PortRequest} {e : EntryNo} : e ∈ fetchesOf q ↔ .fetch e ∈ q := by
  unfold fetchesOf
  rw [List.mem_filterMap]
  constructor
  · rintro ⟨r, hr, he⟩
    cases r <;> cases he
    exact hr
  · exact fun h => ⟨_, h, rfl⟩

theorem withoutFetches_eq (q : List PortRequest) : withoutFetches q = q.filter (fun r => ∀ e, r ≠ .fetch e) := by
  refine List.filter_congr fun r _ => ?_
  cases r <;> simp

theorem fetch_notMem_withoutFetches (q : List PortRequest) (e : EntryNo) : .fetch e ∉ withoutFetches q := by
  simp [withoutFetches]

theorem State.endFetches_eq (s : State) (res : Result) : s.endFetches res =
    (fetchesOf s.band.queue).foldl (fun t e => t.endWaiters e res)
      (s.setBand { s.band with queue := withoutFetches s.band.queue }) := rfl

/-- Entries emptied one after another, their waiters' ends not heard: each is at reset and out of the last-use order,
the others are as they were, and lockers are all that changes besides. -/
theorem State.foldl_endWaiters_unheard {s : State} (h : ∀ e, ∀ w ∈ (s.entry e).waiters, s.Unheard w) (res : Result)
    (l : List EntryNo) : let t := l.foldl (fun t e => t.endWaiters e res) s
    (∃ x c u, t = (s.setLockers { s.lockers with table := x }).setBand { s.band with cache := c, lastUse := u }) ∧
      (∀ e, t.entry e = if e ∈ l then CacheEntry.atReset else s.entry e) ∧ ∀ e ∈ l, e ∉ t.band.lastUse := by
  induction l using List.reverseRecOn with
  | nil => exact ⟨⟨_, _, _, rfl⟩, fun e => by simp, by simp⟩
  | append_singleton l e ih =>
    obtain ⟨⟨x, c, u, honly⟩, hentry, hlast⟩ := ih
    intro t
    have ht : t = (l.foldl (fun t e => t.endWaiters e res) s).endWaiters e res := by
      simp only [t, List.foldl_append, List.foldl_cons, List.foldl_nil]
    clear_value t
    generalize l.foldl (fun t e => t.endWaiters e res) s = v at honly hentry hlast ht
    have hunheard : ∀ w ∈ (v.entry e).waiters, v.Unheard w := by
      intro w hw
      rw [hentry] at hw
      split at hw
      · simp [CacheEntry.atReset] at hw
      · have := h e w hw
        rw [honly]
        cases w <;> exact this
    obtain ⟨y, hy⟩ := State.endWaiters_unheard hunheard res
    subst ht
    rw [hy]
    refine ⟨⟨y, _, _, by rw [honly]; rfl⟩, fun f => ?_, fun f hf => ?_⟩
    · refine ((v.setEntry_entry e f CacheEntry.atReset).trans ?_)
      rw [hentry]
      by_cases hfe : f = e
      · simp [hfe]
      · simp [hfe, Ne.symm hfe]
    · change f ∉ v.band.lastUse.filter (fun g => g ≠ e)
      rcases List.mem_append.1 hf with hf | hf
      · exact fun hmem => hlast f hf (List.mem_of_mem_filter hmem)
      · simp [List.mem_singleton.1 hf]

/-! ### The winding-down interval begins (R170, R171) -/

/-- The state at the end of the reply behind which the part restarts: nothing is being sent, no request is outstanding,
and the interval has begun. -/
def State.windingEntered (s : State) : State :=
  (s.setLink { s.link with outstanding := none, sending := none }).setPart { s.part with winding := true }

/-- The verdicts dropped, the lanes disarmed, and lockers, cabins and format without a link to what was under way. -/
def State.unlinked (t : State) : State :=
  let t := t.setReader { t.reader with roster := t.reader.roster.map (fun x => { x with verdict := none }) }
  let t := t.setLanes { t.lanes with table := t.lanes.table.map Lane.windDown }
  let t := t.setLockers { t.lockers with table := t.lockers.table.map (fun l => { l with link := none }) }
  let t := t.setCabins { t.cabins with table := t.cabins.table.map (fun x => { x with link := none }) }
  t.setBand { t.band with format := none }

/-- The presentations dropped, and the rest as `unlinked` says. -/
def State.quieted (s : State) : State := (allHeads.foldl State.dropPresentation s).unlinked

theorem State.beginWinding_eq (s : State) : s.beginWinding =
    ((s.setPart { s.part with winding := true }).quieted.endFetches .busy).discardHeld := by
  unfold State.beginWinding State.quieted
  generalize allHeads = l
  rfl

theorem State.frameSent_restarts {s : State} {tag : Byte} {res : Result} {data : ReplyData} {flags : Byte}
    (h : s.link.sending = some ⟨.reply ⟨tag, res, data, true, true⟩, flags⟩) :
    s.frameSent = (s.windingEntered.quieted.endFetches .busy).discardHeld := by
  have hbegin : s.frameSent = (s.setLink { s.link with outstanding := none, sending := none }).beginWinding := by
    simp only [State.frameSent, h, if_true]
    rfl
  rw [hbegin, State.beginWinding_eq]
  rfl

/-- What the loss of the links leaves, and what it takes. -/
theorem State.unlinked_spec (s : State) :
    (∃ r l k c, s.unlinked = ((((s.setReader r).setLanes l).setLockers k).setCabins c).setBand
      { s.band with format := none }) ∧
    (∀ h, (s.unlinked.head h).verdict = none) ∧
    ∀ l, (s.unlinked.lane l).arm = none ∧ (s.unlinked.lane l).commit = none := by
  refine ⟨⟨_, _, _, _, rfl⟩, fun h => ?_, fun l => ?_⟩
  · change ((s.reader.roster.map (fun x : HeadRecord => ({ x with verdict := none } : HeadRecord)))[h.val]).verdict = none
    rw [Vector.getElem_map]
  · have hlane : s.unlinked.lane l = (s.lane l).windDown :=
      Vector.getElem_map (xs := s.lanes.table) (i := l.val) Lane.windDown l.isLt
    rw [hlane]
    exact ⟨rfl, rfl⟩

/-- What the quieting leaves, and what it takes. -/
theorem State.quieted_spec (s : State) :
    (∃ p r l k c x, s.quieted = (((((s.setPres p).setReader r).setLanes l).setLockers k).setCabins c).setBand
      { s.band with cache := x, format := none }) ∧
    (∀ h, s.quieted.slot h = none) ∧ (∀ h, (s.quieted.head h).verdict = none) ∧
    (∀ l, (s.quieted.lane l).arm = none ∧ (s.quieted.lane l).commit = none) ∧
    ∀ e, s.quieted.entry e = { s.entry e with waiters := (s.entry e).waiters.map (s.markWaiter (fun _ => true)) } := by
  obtain ⟨⟨p, c, honly⟩, hslot, hentry⟩ := s.dropPresentations_spec allHeads
  have hall : (fun g : HeadNo => decide (g ∈ allHeads)) = fun _ => true := by
    funext g
    simp [List.mem_finRange]
  have hslot' : ∀ h, (allHeads.foldl State.dropPresentation s).slot h = none :=
    fun h => (hslot h).trans (if_pos (congrFun hall h))
  rw [hall] at hentry
  rw [State.quieted]
  generalize allHeads.foldl State.dropPresentation s = t at *
  obtain ⟨⟨r, l, k, c', honly'⟩, hverdict, hlane⟩ := t.unlinked_spec
  exact ⟨⟨p, r, l, k, c', c, by rw [honly', honly]; rfl⟩, fun h => by rw [honly']; exact hslot' h, hverdict, hlane,
    fun e => by rw [honly']; exact hentry e⟩

/-- With the presentations dropped no end of a band operation is heard. -/
theorem State.quieted_unheard {s : State} (hdone : s.part.startup = .done) (hout : s.link.outstanding = none)
    (hlookup : ∀ e h p, Waiter.lookup h p ∈ (s.entry e).waiters →
      p.superseded = true ∨ ∃ q, s.slot h = some q ∧ q.decided = false) :
    ∀ e, ∀ w ∈ (s.quieted.entry e).waiters, s.quieted.Unheard w := by
  obtain ⟨⟨p, r, l, k, c, x, honly⟩, -, -, hlane, hentry⟩ := s.quieted_spec
  have hpart : s.quieted.part.startup = .done := by rw [honly]; exact hdone
  have hlink : s.quieted.link.outstanding = none := by rw [honly]; exact hout
  intro e w hw
  rw [hentry] at hw
  obtain ⟨v, hv, rfl⟩ := List.mem_map.1 hw
  cases v with
  | lookup g q =>
    change (q.superseded || (true && (s.slot g).any (fun q => !q.decided))) = true
    rcases hlookup e g q hv with hq | ⟨q', hslot, hpending⟩
    · rw [hq, Bool.true_or]
    · simp [hslot, hpending]
  | request r => exact hlink
  | commit l stamp => exact (hlane l).2
  | ownerCheck k => exact hpart
  | companionCheck k => exact hpart

/-- In FAULT what is held goes (R4). -/
theorem State.discardHeld_eq (s : State) :
    s.discardHeld = if s.band.port = .fault then s.setBand { BandUnit.atReset with port := .fault } else s := rfl

/-- An entry of a cache at reset. -/
theorem State.discarded_entry (s : State) (e : EntryNo) :
    (s.setBand { BandUnit.atReset with port := .fault }).entry e = CacheEntry.atReset := by
  change (Vector.replicate 32 CacheEntry.atReset)[e.val] = _
  rw [Vector.getElem_replicate]

/-- Settles O17: the quieting makes every end unheard, so the FETCHes leave the queue without a further effect; in FAULT
what is left goes too. -/
theorem windingBegins : Obligations.WindingBegins := by
  intro s tag res data flags hsend hdone hlookup
  obtain ⟨⟨p, r, l, k, c, x, honly⟩, hslot, hverdict, hlane, hentry⟩ := s.windingEntered.quieted_spec
  have hunheard := State.quieted_unheard (s := s.windingEntered) hdone rfl hlookup
  have hexec : exec .transmitEnd s =
      .next ((s.windingEntered.quieted.endFetches .busy).discardHeld).arbitrate := by
    rw [exec_transmitEnd_eq, State.frameSent_restarts hsend]
  have hlen : ∀ e, (s.windingEntered.quieted.entry e).content = (s.entry e).content ∧
      (s.windingEntered.quieted.entry e).waiters.length = (s.entry e).waiters.length ∧
      (s.windingEntered.quieted.entry e).writePending = (s.entry e).writePending := fun e => by
    rw [hentry]
    exact ⟨rfl, List.length_map .., rfl⟩
  rw [hexec, State.endFetches_eq]
  clear hexec hentry
  generalize s.windingEntered.quieted = u at *
  obtain ⟨⟨y, c', v, hends⟩, hends_entry, hends_last⟩ := State.foldl_endWaiters_unheard
    (s := u.setBand { u.band with queue := withoutFetches u.band.queue })
    (fun e w hw => by have := hunheard e w hw; cases w <;> exact this) .busy (fetchesOf u.band.queue)
  generalize List.foldl (fun (t : State) e => t.endWaiters e .busy) _ (fetchesOf u.band.queue) = t at hends hends_entry hends_last
  have hqueue : u.band.queue = s.band.queue := by rw [honly]; rfl
  have hport : t.band.port = s.band.port := by rw [hends, honly]; rfl
  rw [hqueue] at hends_entry hends_last
  rw [State.discardHeld_eq, hport]
  by_cases hfault : s.band.port = .fault
  · rw [if_pos hfault]
    refine ⟨_, rfl, by rw [hends, honly]; rfl, by rw [hends, honly]; rfl, fun h => ?_, fun h => ?_, fun l => ?_,
      fun e => List.not_mem_nil, fun e _ => ⟨t.discarded_entry e, List.not_mem_nil⟩, fun h => absurd hfault h,
      fun _ => ⟨rfl, t.discarded_entry⟩, rfl, by rw [hends, honly]; rfl, by rw [hends, honly]; rfl,
      by rw [hends, honly]; rfl, by rw [hends, honly]; rfl, by rw [if_pos hfault]; rfl⟩
    · rw [hends]; exact hslot h
    · rw [hends]; exact hverdict h
    · rw [hends]; exact hlane l
  · rw [if_neg hfault]
    have hrest : t.band.queue = withoutFetches s.band.queue := by rw [hends, ← hqueue]; rfl
    refine ⟨t, rfl, by rw [hends, honly]; rfl, by rw [hends, honly]; rfl, fun h => ?_, fun h => ?_, fun l => ?_,
      fun e => ?_, fun e he => ?_, fun _ => ⟨hrest.trans (withoutFetches_eq _), fun e he => ?_⟩,
      fun h => absurd h hfault, by rw [hends, honly]; rfl, by rw [hends, honly]; rfl, by rw [hends, honly]; rfl,
      by rw [hends, honly]; rfl, by rw [hends, honly]; rfl, by rw [if_neg hfault, hends, honly]; rfl⟩
    · rw [hends]; exact hslot h
    · rw [hends]; exact hverdict h
    · rw [hends]; exact hlane l
    · rw [hrest]; exact fetch_notMem_withoutFetches _ e
    · exact ⟨(hends_entry e).trans (if_pos (mem_fetchesOf.2 he)), hends_last e (mem_fetchesOf.2 he)⟩
    · rw [hends_entry e, if_neg (fun h => he (mem_fetchesOf.1 h))]
      exact hlen e

end Sys2Proof.Machine
end


section
/-!
PROOF. The band requests at a band whose record is held (R18 to R24). A service answers a record; where that is the one
held the request is replied at once and the emptying test follows, and where it is another one the entry takes it and
the reply waits for the WRITE. Each request is then what its service answers, in the cases of its rule.
-/

namespace Sys2Proof.Machine

/-! ### The service of a request at a held record (R5, R9, R10) -/

theorem State.usedLast_entry (s : State) (e f : EntryNo) : (s.usedLast e).entry f = s.entry f := rfl

/-- The entry that took a changed record. -/
theorem State.changed_entry (s : State) (e : EntryNo) (n : BandNo) (rec : BandRecord) :
    (s.changed e n rec).entry e = ⟨.valid n rec, (s.entry e).waiters, true⟩ :=
  Vector.getElem_set_self e.isLt

/-- A record replaced and the change noted (R9). -/
theorem State.noteChange_eq (s : State) (e : EntryNo) (n : BandNo) (rec : BandRecord) :
    (s.setEntry e { s.entry e with content := .valid n rec }).noteChange e = s.changed e n rec := by
  have hentry : (s.setEntry e { s.entry e with content := .valid n rec }).entry e =
      { s.entry e with content := .valid n rec } := by rw [State.setEntry_entry, if_pos rfl]
  have hset : (s.setEntry e { s.entry e with content := .valid n rec }).setEntry e
      ⟨.valid n rec, (s.entry e).waiters, true⟩ = s.setEntry e ⟨.valid n rec, (s.entry e).waiters, true⟩ := by
    simp only [State.setEntry, State.setBand, Vector.set_set]
  simp only [State.noteChange, hentry, hset, State.changed]
  change (if .write e ∈ s.band.queue then _ else _) = _
  split <;> rfl

/-- The entry of a band in use stands at the emptying test (R7). -/
theorem State.emptyTest_inUse {s : State} {n : BandNo} {e : EntryNo} {rec : BandRecord}
    (hc : (s.entry e).content = .valid n rec) (ha : rec.state.inUse = true) : s.emptyTest e = s := by
  have hstate : ¬(rec.state = .free ∨ rec.state = .returned) := by
    rintro (h | h) <;> simp [h, BandState.inUse] at ha
  simp [State.emptyTest, hc, hstate]

/-- An entry with a WRITE waiting stands at the emptying test (R7). -/
theorem State.emptyTest_pending {s : State} {e : EntryNo} (hp : (s.entry e).writePending = true) :
    s.emptyTest e = s := by
  unfold State.emptyTest
  dsimp only
  split
  · rw [if_neg (by simp [hp])]
  · rfl

/-- The reply of a request that changed its band leaves the entries. -/
theorem State.replyStored_entry (s : State) (tag : Byte) (e : EntryNo) (data : ReplyData) (f : EntryNo) :
    (s.replyStored tag e data).entry f = s.entry f := by
  unfold State.replyStored
  split <;> rfl

/-- A service that answers another record: the entry takes it, and the reply waits for its WRITE (R5, R9, R10, R16). -/
theorem State.serveAt_changed {s v : State} {n : BandNo} {e : EntryNo} {rec now : BandRecord} {r : BandRequest}
    {data : ReplyData} {o : Outstanding} (hc : (s.entry e).content = .valid n rec)
    (hs : (s.usedLast e).serveRequest n rec r = ⟨v, now, some (.ok, data)⟩) (hne : now ≠ rec)
    (ho : v.link.outstanding = some o) :
    s.serveAt e (.request r) = (v.changed e n now).replyStored o.tag e data := by
  have hserve : (s.touch e).serve n rec (.request r) = ⟨v, now, some (.ok, data)⟩ := hs
  have ho' : (v.changed e n now).link.outstanding = some o := ho
  simp only [State.serveAt, hc, hserve, hne, if_false, State.noteChange_eq, State.replyServed, State.replyStored,
    State.reply_outstanding ho', if_true]

/-! ### A band request from its arrival to its reply -/

theorem serveHostRequest_band {q : Request} {body : List Byte} {r : BandRequest}
    (h : bandRequestOf q body = some r) (s : State) : s.serveHostRequest q body = s.bandRequest body r := by
  cases q <;> cases h <;> rfl

section
variable {s : State} {q : Request} {body : List Byte} {n : BandNo} {e : EntryNo} {rec : BandRecord} {tag : Byte}
  {r : BandRequest}

/-- A band request that is taken is the band operation it asks for (R18). -/
theorem State.Asks.exec_band (h : s.Asks q body 0 n e rec) (hr : bandRequestOf q body = some r) (tag : Byte) :
    exec (q.command tag body) s = .next ((s.taken q tag).bandRequest body r).arbitrate := by
  rw [h.takes.exec, serveHostRequest_band hr]

/-- A band request that changes nothing is replied at once, with the emptying test behind (R7, R18). -/
theorem State.Asks.exec_reply (h : s.Asks q body 0 n e rec) (hr : bandRequestOf q body = some r) {res : Result}
    {data : ReplyData}
    (hs : ((s.taken q tag).usedLast e).serveRequest n rec r = ⟨(s.taken q tag).usedLast e, rec, some (res, data)⟩) :
    exec (q.command tag body) s =
      .next ((((s.taken q tag).usedLast e).replied tag res data).emptyTest e).arbitrate := by
  rw [h.exec_band hr, h.bandRequest_reply hs]

/-- The same for a band in use, whose entry stands. -/
theorem State.Asks.exec_reply_inUse (h : s.Asks q body 0 n e rec) (hr : bandRequestOf q body = some r)
    (hin : rec.state.inUse = true) {res : Result} {data : ReplyData}
    (hs : ((s.taken q tag).usedLast e).serveRequest n rec r = ⟨(s.taken q tag).usedLast e, rec, some (res, data)⟩) :
    exec (q.command tag body) s = .next (((s.taken q tag).usedLast e).replied tag res data).arbitrate := by
  have hstands : (((s.taken q tag).usedLast e).replied tag res data).emptyTest e =
      ((s.taken q tag).usedLast e).replied tag res data := State.emptyTest_inUse (n := n) h.content hin
  rw [h.exec_reply hr hs, hstands]

/-- A band request that changes the record (R9, R10, R16). -/
theorem State.Asks.exec_changed (h : s.Asks q body 0 n e rec) (hr : bandRequestOf q body = some r) {v : State}
    {now : BandRecord} {data : ReplyData}
    (hs : ((s.taken q tag).usedLast e).serveRequest n rec r = ⟨v, now, some (.ok, data)⟩) (hne : now ≠ rec)
    (ho : v.link.outstanding = (s.taken q tag).link.outstanding) :
    exec (q.command tag body) s = .next ((v.changed e n now).replyStored tag e data).arbitrate := by
  have hpending : (((v.changed e n now).replyStored tag e data).entry e).writePending = true := by
    rw [State.replyStored_entry, State.changed_entry]
  rw [h.exec_band hr, h.bandRequest_taken,
    State.serveAt_changed (s := s.taken q tag) (o := ⟨q.code, tag⟩) h.content hs hne ho,
    State.emptyTest_pending hpending]

end

/-! ### Arguments (10.5) -/

theorem BandState.inUse_iff (x : BandState) : x.inUse = true ↔ x ≠ .free ∧ x ≠ .returned := by
  cases x <;> simp [BandState.inUse]

theorem BandState.not_inUse_iff (x : BandState) : x.inUse = false ↔ x = .free ∨ x = .returned := by
  cases x <;> simp [BandState.inUse]

/-- A number below a range's size is a member of it. -/
theorem inRangeOf_of_lt {n v : Nat} (h : v < n + 1) : inRangeOf (n + 1) v = some (Fin.ofNat (n + 1) v) := by
  have hv : (⟨v, h⟩ : Fin (n + 1)) = Fin.ofNat (n + 1) v := Fin.ext (Nat.mod_eq_of_lt h).symm
  rw [inRangeOf, dif_pos h, hv]

theorem rightsOf_of_le {b : Byte} (h : b.toNat ≤ 3) : rightsOf b = some (b.getLsbD 0, b.getLsbD 1) :=
  if_pos (by omega)

theorem rightsOf_of_lt {b : Byte} (h : 3 < b.toNat) : rightsOf b = none := if_neg (by omega)

/-- A band that owns a locker (R47). -/
theorem State.ownedLocker_isSome {s : State} {b : BandNo} :
    (s.ownedLocker b).isSome = true ↔ ∃ k, (s.locker k).owner = some b := by
  simp [State.ownedLocker, List.find?_isSome]

/-- A band on a companion list (R47). -/
theorem State.companionLocker_isSome {s : State} {b : BandNo} :
    (s.companionLocker b).isSome = true ↔ ∃ k, b ∈ (s.locker k).companions := by
  simp [State.companionLocker, List.find?_isSome]

/-- A band that holds a cabin (R93). -/
theorem State.heldCabin_isSome {s : State} {b : BandNo} :
    (s.heldCabin b).isSome = true ↔ ∃ c, (s.cabin c).holder = some b := by
  simp [State.heldCabin, List.find?_isSome]

/-! ### BAND READ (R19) -/

/-- Settles O25: the reply is the record held, and the emptying test is written out. -/
theorem bandRead : Obligations.BandRead := by
  intro s tag body n e rec h t
  have hc : (t.entry e).content = .valid n rec := h.content
  have hempty : t.emptyTest e = if (rec.state = .free ∨ rec.state = .returned) ∧ (s.entry e).waiters = [] ∧
      (s.entry e).writePending = false then t.setBand { t.band with
        cache := s.band.cache.set e.val CacheEntry.atReset
        lastUse := s.band.lastUse.filter (fun f => f ≠ e) } else t := by
    have hlast : t.band.lastUse.filter (fun f => f ≠ e) = s.band.lastUse.filter (fun f => f ≠ e) := by
      change (s.band.lastUse.filter (fun f => f ≠ e) ++ [e]).filter (fun f => f ≠ e) = _
      simp [List.filter_append, List.filter_filter]
    simp only [State.emptyTest, hc, State.emptyEntry_eq, State.dropped, hlast]
    rfl
  rw [← hempty]
  exact h.exec_reply (q := .bandRead) (r := .read) rfl rfl

/-! ### BAND ISSUE (R20) -/

section
variable {s : State} {n : BandNo} {rec : BandRecord} {serial : Serial} {cls paid credit : Nat} {mask rights : Byte}

/-- An argument out of range (R20). -/
theorem State.serveIssue_range (h : serial = 0 ∨ 7 < cls ∨ 1440 < paid ∨ 3 < rights.toNat) :
    s.serveIssue n rec serial cls paid credit mask rights = .only s rec .range := by
  by_cases hc : 7 < cls
  · simp only [State.serveIssue, inRangeOf_of_le (show 8 ≤ cls by omega)]
  · by_cases hr : 3 < rights.toNat
    · simp only [State.serveIssue, inRangeOf_of_lt (show cls < 7 + 1 by omega), rightsOf_of_lt hr]
    · have hbad : serial = 0 ∨ 1440 < paid := by tauto
      simp only [State.serveIssue, inRangeOf_of_lt (show cls < 7 + 1 by omega), rightsOf_of_le (show rights.toNat ≤ 3 by omega), hbad, if_true]

/-- Arguments in range (R20). -/
theorem State.serveIssue_args (hs : serial ≠ 0) (hc : cls ≤ 7) (hp : paid ≤ 1440) (hr : rights.toNat ≤ 3) :
    s.serveIssue n rec serial cls paid credit mask rights =
      if rec.state.inUse then .only s rec .state
      else if (s.ownedLocker n).isSome ∨ (s.companionLocker n).isSome ∨ (s.heldCabin n).isSome then .only s rec .state
      else ⟨s, ⟨.issued, none, serial, Fin.ofNat 8 cls, paid, none, credit, 0, mask, rights.getLsbD 0,
        rights.getLsbD 1⟩, some (.ok, .none)⟩ := by
  have hgood : ¬(serial = 0 ∨ 1440 < paid) := by rintro (h | h); exacts [hs h, by omega]
  simp only [State.serveIssue, inRangeOf_of_lt (show cls < 7 + 1 by omega), rightsOf_of_le hr, hgood, if_false]

end

/-- Settles O26: the ranges first, then what the band is, owns and holds. -/
theorem bandIssue : Obligations.BandIssue := by
  intro s tag body n e rec h u
  refine ⟨fun hbad => h.exec_reply (q := .bandIssue) rfl (State.serveIssue_range hbad),
    fun hserial hcls hpaid hrights => ⟨fun huse => h.exec_reply (q := .bandIssue) rfl ?_,
      fun hstate hown hcomp hhold => h.exec_changed (q := .bandIssue) rfl ?_ ?_ rfl⟩⟩
  · refine (State.serveIssue_args hserial hcls hpaid hrights).trans ?_
    by_cases hin : rec.state.inUse = true
    · rw [if_pos hin]; rfl
    · rw [if_neg hin, if_pos]
      · rfl
      · rw [State.ownedLocker_isSome, State.companionLocker_isSome, State.heldCabin_isSome]
        rcases huse with hs | hs | hs | hrest
        · simp [hs, BandState.inUse] at hin
        · simp [hs, BandState.inUse] at hin
        · simp [hs, BandState.inUse] at hin
        · exact hrest
  · have hin : rec.state.inUse = false := rec.state.not_inUse_iff.2 hstate
    refine (State.serveIssue_args hserial hcls hpaid hrights).trans ?_
    rw [if_neg (by simp [hin])]
    refine if_neg ?_
    rw [State.ownedLocker_isSome, State.companionLocker_isSome, State.heldCabin_isSome]
    rintro (⟨k, hk⟩ | ⟨k, hk⟩ | ⟨c, hc⟩)
    exacts [hown k hk, hcomp k hk, hhold c hc]
  · intro heq
    have : rec.state = .issued := by rw [← heq]
    rcases hstate with hs | hs <;> simp [this] at hs

/-! ### BAND AMEND (R21) -/

section
variable {s : State} {rec : BandRecord} {cls paid : Nat} {mask rights : Byte}

/-- An argument out of range (R21). -/
theorem State.serveAmend_range (h : 7 < cls ∨ 1440 < paid ∨ 3 < rights.toNat) :
    s.serveAmend rec cls paid mask rights = .only s rec .range := by
  by_cases hc : 7 < cls
  · simp only [State.serveAmend, inRangeOf_of_le (show 8 ≤ cls by omega)]
  · by_cases hr : 3 < rights.toNat
    · simp only [State.serveAmend, inRangeOf_of_lt (show cls < 7 + 1 by omega), rightsOf_of_lt hr]
    · have hbad : 1440 < paid := by tauto
      simp only [State.serveAmend, inRangeOf_of_lt (show cls < 7 + 1 by omega), rightsOf_of_le (show rights.toNat ≤ 3 by omega), hbad, if_true]

/-- Arguments in range (R21). -/
theorem State.serveAmend_args (hc : cls ≤ 7) (hp : paid ≤ 1440) (hr : rights.toNat ≤ 3) :
    s.serveAmend rec cls paid mask rights =
      if rec.state.inUse then ⟨s, { rec with
        cls := Fin.ofNat 8 cls, paid := paid, mask := mask,
        cabinRight := rights.getLsbD 0, master := rights.getLsbD 1 }, some (.ok, .none)⟩
      else .only s rec .state := by
  simp only [State.serveAmend, inRangeOf_of_lt (show cls < 7 + 1 by omega), rightsOf_of_le hr,
    if_neg (show ¬1440 < paid by omega)]

end

/-- Settles O27. -/
theorem bandAmend : Obligations.BandAmend := by
  intro s tag body n e rec h u now
  refine ⟨fun hbad => h.exec_reply (q := .bandAmend) rfl (State.serveAmend_range hbad),
    fun hcls hpaid hrights => ⟨fun hout => h.exec_reply (q := .bandAmend) rfl ?_, fun hf hr heq => ?_,
      fun hf hr hne => h.exec_changed (q := .bandAmend) rfl ?_ hne rfl⟩⟩
  · exact (State.serveAmend_args hcls hpaid hrights).trans (if_neg (by simp [rec.state.not_inUse_iff.2 hout]))
  · have hin := rec.state.inUse_iff.2 ⟨hf, hr⟩
    refine h.exec_reply_inUse (q := .bandAmend) rfl hin
      ((State.serveAmend_args hcls hpaid hrights).trans ((if_pos hin).trans ?_))
    change (⟨u, now, some (.ok, .none)⟩ : Served) = ⟨u, rec, some (.ok, .none)⟩
    rw [heq]
  · exact (State.serveAmend_args hcls hpaid hrights).trans (if_pos (rec.state.inUse_iff.2 ⟨hf, hr⟩))

/-! ### BAND TOPUP and BAND SETTLE (R22) -/

/-- Settles O28: both by whether the band is in use, and whether the value changes. -/
theorem bandTopupSettle : Obligations.BandTopupSettle := by
  intro s tag body n e rec v w u x
  refine ⟨fun h => ⟨fun hout => h.exec_reply (q := .bandTopup) rfl ?_, fun hf hr heq => ?_,
      fun hf hr hne => h.exec_changed (q := .bandTopup) rfl ?_ ?_ rfl⟩,
    fun h => ⟨fun hout => h.exec_reply (q := .bandSettle) rfl ?_, fun hf hr heq => ?_,
      fun hf hr hne => h.exec_changed (q := .bandSettle) rfl ?_ ?_ rfl⟩⟩
  · exact if_neg (by simp [rec.state.not_inUse_iff.2 hout])
  · have hin := rec.state.inUse_iff.2 ⟨hf, hr⟩
    refine h.exec_reply_inUse (q := .bandTopup) rfl hin ((if_pos hin).trans ?_)
    change (⟨u, { rec with credit := v }, some (.ok, .money (v - rec.credit) v)⟩ : Served) =
      ⟨u, rec, some (.ok, .money 0 v)⟩
    rw [heq, Nat.sub_self]
  · exact if_pos (rec.state.inUse_iff.2 ⟨hf, hr⟩)
  · exact fun heq => hne (congrArg BandRecord.credit heq)
  · exact if_neg (by simp [rec.state.not_inUse_iff.2 hout])
  · have hin := rec.state.inUse_iff.2 ⟨hf, hr⟩
    refine h.exec_reply_inUse (q := .bandSettle) rfl hin ((if_pos hin).trans ?_)
    change (⟨x, { rec with settled := w }, some (.ok, .money (w - rec.settled) w)⟩ : Served) =
      ⟨x, rec, some (.ok, .money 0 w)⟩
    rw [heq, Nat.sub_self]
  · exact if_pos (rec.state.inUse_iff.2 ⟨hf, hr⟩)
  · exact fun heq => hne (congrArg BandRecord.settled heq)

/-! ### Bands that leave (R62, R63, R106, R136) -/

/-- The only number of a range that passes a test is the one found. -/
theorem find?_allFin_only {k : Nat} {p : Fin k → Bool} {i : Fin k} (hp : p i = true) (h : ∀ j, j ≠ i → p j = false) :
    (allFin k).find? p = some i := find?_allFin hp fun j hj => h j hj.ne

/-- A test that no number of a range passes finds none. -/
theorem find?_allFin_none {k : Nat} {p : Fin k → Bool} (h : ∀ j, p j = false) : (allFin k).find? p = none := by
  simpa [List.find?_eq_none] using h

section
variable {s : State} {b : BandNo} {k : LockerNo}

theorem State.ownedLocker_none (h : ∀ k, (s.locker k).owner ≠ some b) : s.ownedLocker b = none :=
  find?_allFin_none fun k => by simpa using h k

theorem State.ownedLocker_only (h : (s.locker k).owner = some b) (hk : ∀ j, j ≠ k → (s.locker j).owner ≠ some b) :
    s.ownedLocker b = some k :=
  find?_allFin_only (by simpa using h) fun j hj => by simpa using hk j hj

/-- A band on no companion list leaves none. -/
theorem State.leaveCompanions_none (h : ∀ k, b ∉ (s.locker k).companions) : s.leaveCompanions b = s := by
  have hnone : s.companionLocker b = none := find?_allFin_none fun k => by simpa using h k
  rw [State.leaveCompanions, hnone]

/-- A band on one companion list leaves that one. -/
theorem State.leaveCompanions_only (h : b ∈ (s.locker k).companions) (hk : ∀ j, j ≠ k → b ∉ (s.locker j).companions) :
    s.leaveCompanions b = s.setLocker k { s.locker k with
      companions := (s.locker k).companions.filter (fun c => c ≠ b), dirty := true } := by
  have hsome : s.companionLocker b = some k :=
    find?_allFin_only (by simpa using h) fun j hj => by simpa using hk j hj
  rw [State.leaveCompanions, hsome]

/-- The companion lists behind a locker's loss of its owner and companions. -/
theorem State.disown_companions (s : State) (k : LockerNo) (st : LockerState) (j : LockerNo) :
    ((s.disown k st).locker j).companions = if k = j then [] else (s.locker j).companions := by
  rw [State.disown, State.setLocker_locker]
  split <;> rfl

theorem State.lockerReturn_owned (h : s.ownedLocker b = some k) :
    s.lockerReturn b = (s.abandonLocker k).leaveCompanions b := by
  rw [State.lockerReturn, h]

theorem State.lockerReturn_unowned (h : s.ownedLocker b = none) : s.lockerReturn b = s.leaveCompanions b := by
  rw [State.lockerReturn, h]

theorem State.lockerExit_owned (h : s.ownedLocker b = some k) (ho : (s.locker k).state = .opened) :
    s.lockerExit b = (s.disown k .vacant).leaveCompanions b := by
  simp only [State.lockerExit, h, ho, if_true]

theorem State.lockerExit_unowned (h : s.ownedLocker b = none) : s.lockerExit b = s.leaveCompanions b := by
  rw [State.lockerExit, h]

/-- R63's table for an owned locker, by its state. -/
theorem State.abandonLocker_cases (s : State) (k : LockerNo) :
    ((s.locker k).state = .opened → s.abandonLocker k = s.disown k .vacant) ∧
    ((s.locker k).state = .locked →
      s.abandonLocker k = (s.disown k .abandoned).post .lockerAbandoned (.locker k)) ∧
    ((s.locker k).state = .forced ∨ (s.locker k).state = .jammed →
      s.abandonLocker k = s.disown k (s.locker k).state) := by
  refine ⟨fun h => by rw [State.abandonLocker, h], fun h => by rw [State.abandonLocker, h], ?_⟩
  rintro (h | h) <;> rw [State.abandonLocker, h]

/-- The reactions of the locker engine, for a band with at most one locker and one list: `after t` is what leaving the
companion list adds to a state. -/
theorem State.locker_reactions {after : State → State} (howned : s.ownedLocker b = some k)
    (hafter : ∀ st, (s.disown k st).leaveCompanions b = after (s.disown k st))
    (hposted : ((s.disown k .abandoned).post .lockerAbandoned (.locker k)).leaveCompanions b =
      after ((s.disown k .abandoned).post .lockerAbandoned (.locker k))) :
    ((s.locker k).state = .opened →
      s.lockerReturn b = after (s.disown k .vacant) ∧ s.lockerExit b = after (s.disown k .vacant)) ∧
    ((s.locker k).state = .locked →
      s.lockerReturn b = after ((s.disown k .abandoned).post .lockerAbandoned (.locker k))) ∧
    ((s.locker k).state = .forced ∨ (s.locker k).state = .jammed →
      s.lockerReturn b = after (s.disown k (s.locker k).state)) := by
  obtain ⟨hopened, hlocked, hother⟩ := s.abandonLocker_cases k
  refine ⟨fun h => ⟨?_, ?_⟩, fun h => ?_, fun h => ?_⟩
  · rw [State.lockerReturn_owned howned, hopened h, hafter]
  · rw [State.lockerExit_owned howned h, hafter]
  · rw [State.lockerReturn_owned howned, hlocked h, hposted]
  · rw [State.lockerReturn_owned howned, hother h, hafter]

end

section
variable {s : State} {b : BandNo}

theorem State.cabinBandLeaves_none (h : ∀ c, (s.cabin c).holder ≠ some b) : s.cabinBandLeaves b = s := by
  have hnone : s.heldCabin b = none := find?_allFin_none fun c => by simpa using h c
  rw [State.cabinBandLeaves, hnone]

theorem State.cabinBandLeaves_only {c : CabinNo} (h : (s.cabin c).holder = some b)
    (hc : ∀ d, d ≠ c → (s.cabin d).holder ≠ some b) : s.cabinBandLeaves b = s.cabinHolderLeaves c := by
  have hsome : s.heldCabin b = some c := find?_allFin_only (by simpa using h) fun d hd => by simpa using hc d hd
  rw [State.cabinBandLeaves, hsome]

/-- A cabin whose action is undone by a WITHDRAW at the tail of the queue (R100, R106, R107). -/
theorem State.openCabin_eq (s : State) (c : CabinNo) (a : CabinAction) (prior : CabinState) (expiry : Bool) :
    s.openCabin c a prior expiry = (s.setCabin c { s.cabin c with
      state := .opening
      work := some ⟨a, none, .desk, s.clock.value, prior, .queued⟩
      retryUsed := false
      expiryMark := expiry
      releaseMark := false
      window := none }).setString 8 { s.string 8 with
        queue := s.pulsesWith 8 (cabinPosition c) .withdraw } := by
  rw [State.openCabin, State.placePulse_eq]
  rfl

/-- An entry lane armed with a band (R136). -/
def State.EntryArmed (s : State) (b : BandNo) (l : LaneNo) : Prop :=
  s.settings.roles[l.val] = .entry ∧ ∃ a, (s.lane l).arm = some a ∧ a.band = some b

theorem State.entryArmed_iff (l : LaneNo) :
    ((s.laneRole l == .entry) && ((s.lane l).arm.bind Arm.band) == some b) = true ↔ s.EntryArmed b l := by
  simp [State.EntryArmed, State.laneRole, Option.bind_eq_some_iff]

theorem State.laneBandLeaves_none (h : ∀ l, ¬s.EntryArmed b l) : s.laneBandLeaves b = s := by
  have hnone : s.armedLane b (fun l => s.laneRole l == .entry) = none :=
    find?_allFin_none fun l => by
      rw [← Bool.not_eq_true, State.entryArmed_iff]
      exact h l
  rw [State.laneBandLeaves, hnone]

theorem State.laneBandLeaves_only {l : LaneNo} (h : s.EntryArmed b l) (hl : ∀ m, m ≠ l → ¬s.EntryArmed b m) :
    s.laneBandLeaves b = s.disarm l .cancelled := by
  have hsome : s.armedLane b (fun l => s.laneRole l == .entry) = some l :=
    find?_allFin_only ((State.entryArmed_iff l).2 h) fun m hm => by
      rw [← Bool.not_eq_true, State.entryArmed_iff]
      exact hl m hm
  rw [State.laneBandLeaves, hsome]

end

/-! ### BAND BAR, BAND UNBAR and BAND RETURN (R23, R24) -/

theorem State.serveBar_elsewhere {rec : BandRecord} (h₁ : rec.state ≠ .issued) (h₂ : rec.state ≠ .inside) (s : State)
    (n : BandNo) : s.serveBar n rec = .only s rec .state := by
  unfold State.serveBar
  cases h : rec.state <;> simp_all

theorem State.serveUnbar_elsewhere {rec : BandRecord} (h : rec.state ≠ .barred) (s : State) :
    s.serveUnbar rec = .only s rec .state := by
  unfold State.serveUnbar
  cases hs : rec.state <;> simp_all

/-- The locker a band owns, where it is in transition (R24). -/
theorem State.ownedInTransition_iff (s : State) (b : BandNo) : s.ownedInTransition b = true ↔
    ∃ k, s.ownedLocker b = some k ∧ ((s.locker k).state = .locking ∨ (s.locker k).state = .unlocking) := by
  unfold State.ownedInTransition
  cases s.ownedLocker b <;> simp

/-- Settles O29: the three requests by what their services answer, and the reactions one block at a time. -/
theorem bandBarUnbarReturn : Obligations.BandBarUnbarReturn := by
  refine ⟨?_, ?_, ?_, ?_⟩
  · intro s tag body n e rec u x
    refine ⟨fun h => ⟨fun b hb => h.exec_changed (q := .bandBar) rfl ?_ ?_ ?_,
        fun h₁ h₂ => h.exec_reply (q := .bandBar) rfl (State.serveBar_elsewhere h₁ h₂ u n)⟩,
      fun h => ⟨fun st hst hbarred => h.exec_changed (q := .bandUnbar) rfl ?_ ?_ rfl,
        fun hs => h.exec_reply (q := .bandUnbar) rfl (State.serveUnbar_elsewhere hs x)⟩⟩
    · change u.serveBar n rec = _
      rcases hb with ⟨hs, rfl⟩ | ⟨hs, rfl⟩ <;> rw [State.serveBar, hs]
    · intro heq
      have hs : rec.state = .barred := (congrArg BandRecord.state heq).symm
      rcases hb with ⟨hb, -⟩ | ⟨hb, -⟩ <;> rw [hs] at hb <;> cases hb
    · rw [State.laneBandLeaves_outstanding, State.cabinBandLeaves_outstanding]
      rfl
    · change x.serveUnbar rec = _
      rcases hst with ⟨hb, rfl⟩ | ⟨hb, rfl⟩ <;> rw [State.serveUnbar, hbarred, hb]
    · intro heq
      have hs : st = rec.state := congrArg BandRecord.state heq
      rw [hbarred] at hs
      rcases hst with ⟨-, rfl⟩ | ⟨-, rfl⟩ <;> cases hs
  · intro s tag body n e rec h u
    refine ⟨fun hbad => h.exec_reply (q := .bandReturn) rfl ?_,
      fun hf hr hrest => h.exec_changed (q := .bandReturn) rfl ?_ ?_ ?_⟩
    · change u.serveReturn n rec = _
      by_cases hin : rec.state.inUse = false
      · rw [State.serveReturn, if_pos hin]; rfl
      · have htrans : u.ownedInTransition n = true := by
          rw [State.ownedInTransition_iff]
          rcases hbad with hs | hs | hk
          · exact absurd (rec.state.not_inUse_iff.2 (.inl hs)) hin
          · exact absurd (rec.state.not_inUse_iff.2 (.inr hs)) hin
          · exact hk
        rw [State.serveReturn, if_neg hin, if_pos htrans]; rfl
    · change u.serveReturn n rec = _
      have hin : rec.state.inUse = true := rec.state.inUse_iff.2 ⟨hf, hr⟩
      have htrans : ¬u.ownedInTransition n = true := by
        rw [State.ownedInTransition_iff]
        rintro ⟨k, hk, hs⟩
        obtain ⟨h₁, h₂⟩ := hrest k hk
        exact hs.elim h₁ h₂
      rw [State.serveReturn, if_neg (by simp [hin]), if_neg htrans]
    · exact fun heq => hr (congrArg BandRecord.state heq).symm
    · rw [State.laneBandLeaves_outstanding, State.cabinBandLeaves_outstanding, State.lockerReturn_outstanding]
      rfl
  · intro s b gone
    refine ⟨fun hown hcomp => ?_, fun k hown hother hcomp => ?_, fun k hmem hother hown => ?_,
      fun k j hown hother hmem hcomp hjk => ?_⟩
    · have hnone := State.ownedLocker_none hown
      rw [State.lockerReturn_unowned hnone, State.lockerExit_unowned hnone, State.leaveCompanions_none hcomp]
      exact ⟨rfl, rfl⟩
    · have hlist (st : LockerState) (j : LockerNo) : b ∉ ((s.disown k st).locker j).companions := by
        rw [State.disown_companions]
        split
        · exact List.not_mem_nil
        · exact hcomp j
      exact State.locker_reactions (after := id) (State.ownedLocker_only hown hother)
        (fun st => State.leaveCompanions_none (hlist st))
        (State.leaveCompanions_none (s := (s.disown k .abandoned).post .lockerAbandoned (.locker k)) (hlist .abandoned))
    · have hnone := State.ownedLocker_none hown
      rw [State.lockerReturn_unowned hnone, State.lockerExit_unowned hnone, State.leaveCompanions_only hmem hother]
      exact ⟨rfl, rfl⟩
    · have hlocker (st : LockerState) : (s.disown k st).locker j = s.locker j := by
        rw [State.disown, State.setLocker_locker, if_neg hjk.symm]
      have hlist (st : LockerState) (i : LockerNo) (hij : i ≠ j) : b ∉ ((s.disown k st).locker i).companions := by
        rw [State.disown_companions]
        split
        · exact List.not_mem_nil
        · exact hcomp i hij
      have hmem' (st : LockerState) : b ∈ ((s.disown k st).locker j).companions := by rw [hlocker]; exact hmem
      intro left
      refine State.locker_reactions (after := left) (State.ownedLocker_only hown hother) (fun st => ?_) ?_
      · rw [State.leaveCompanions_only (hmem' st) (hlist st), hlocker]
      · refine (State.leaveCompanions_only (s := (s.disown k .abandoned).post .lockerAbandoned (.locker k))
          (hmem' .abandoned) (hlist .abandoned)).trans ?_
        change ((s.disown k .abandoned).post .lockerAbandoned (.locker k)).setLocker j
          { (s.disown k .abandoned).locker j with
            companions := ((s.disown k .abandoned).locker j).companions.filter (fun c => c ≠ b), dirty := true } = _
        rw [hlocker]
  · intro s b
    refine ⟨State.cabinBandLeaves_none, fun c hc hother => ?_, State.laneBandLeaves_none,
      fun l hl hother => State.laneBandLeaves_only hl hother⟩
    intro x
    rw [State.cabinBandLeaves_only hc hother]
    refine ⟨fun w hs hw hsub => ?_, fun w hs hw hsub => ?_, fun hs => ?_, fun w hs hw => ⟨fun ha => ?_, fun ha => ?_⟩⟩
    · have : s.cabinHolderLeaves c = (s.removePulse cabinString (cabinPosition c)).restCabin c .free .cancelled := by
        simp only [State.cabinHolderLeaves, x, hs, hw, hsub, if_true]
      rw [this, State.removePulse_eq]
      rfl
    · simp only [State.cabinHolderLeaves, x, hs, hw, hsub, if_false]
    · rcases hs with hs | hs
      · have : s.cabinHolderLeaves c = s.openCabin c .release x.state false := by
          simp only [State.cabinHolderLeaves, x, hs]
        rw [this, State.openCabin_eq]
      · have : s.cabinHolderLeaves c = s.openCabin c .release x.state false := by
          simp only [State.cabinHolderLeaves, x, hs]
        rw [this, State.openCabin_eq]
    · simp only [State.cabinHolderLeaves, x, hs, hw, ha, if_true]
      rfl
    · simp only [State.cabinHolderLeaves, x, hs, hw, ha, if_false]

/-! ### A band that the cache does not hold (R5, R6, R18) -/

/-- A request that asks for a band operation sends it at its arrival (R18, R65, R124). -/
theorem State.AsksFor.exec {s : State} {q : Request} {body : List Byte} {i : Nat} {w : BandRequest}
    (h : s.AsksFor q body i w) (ht : s.takes q body) (hserve : s.bandService = true) (tag : Byte) :
    exec (q.command tag body) s = .next ((s.taken q tag).bandOp (argWord body i) (.request w)).arbitrate := by
  rw [ht.exec]
  rcases h with ⟨hq, rfl⟩ | ⟨rfl, rfl, rfl, hclock⟩ | ⟨k, hk, hfit, rfl, ⟨rfl, rfl⟩ | ⟨rfl, rfl⟩⟩
  · rw [serveHostRequest_band hq, State.bandRequest]
  · have hstay : (s.taken .stayQuery tag).serveStayQuery body =
        (s.taken .stayQuery tag).bandOp (argWord body 0) (.request .stayQuery) := by
      have hclock' : ¬(s.taken .stayQuery tag).clock.isSet = false := by
        change ¬s.clock.isSet = false
        simp [hclock]
      by_cases hrange : (s.taken .stayQuery tag).tableLength ≤ argWord body 0
      · have hserve' : ¬(s.taken .stayQuery tag).bandService = false := by
          change ¬s.bandService = false
          simp [hserve]
        rw [State.serveStayQuery, if_pos hrange, State.bandOp, if_neg hserve', if_pos hrange]
        rfl
      · rw [State.serveStayQuery, if_neg hrange, if_neg hclock', State.bandRequest]
    exact congrArg (fun t : State => Host.Outcome.next t.arbitrate) hstay
  · exact congrArg (fun t : State => Host.Outcome.next t.arbitrate)
      (State.lockerRequest_fitted (s := s.taken .lockerAssign tag) hk hfit _)
  · exact congrArg (fun t : State => Host.Outcome.next t.arbitrate)
      (State.lockerRequest_fitted (s := s.taken .lockerShare tag) hk hfit _)

/-- A request's band operation that ends without a service is replied (R18). -/
theorem State.taken_endedWith (s : State) (q : Request) (tag : Byte) (res : Result) (w : BandRequest) :
    (s.taken q tag).endedWith res (.request w) = (s.taken q tag).replied tag res .none := rfl

theorem State.setLane_self (s : State) (l : LaneNo) : s.setLane l (s.lane l) = s := by
  simp [State.setLane, State.setLanes, State.lane]

theorem State.setLane_setLane (s : State) (l : LaneNo) (x y : Lane) : (s.setLane l x).setLane l y = s.setLane l y := by
  simp [State.setLane, State.setLanes]

/-- A commit that is to be sent again, and ends BUSY again, is kept (R131). -/
theorem State.retryCommit_shut {s : State} {l : LaneNo} {b : BandNo} {stamp : Stamp} (h : s.bandService = false)
    (hc : (s.lane l).commit = some ⟨b, stamp, true⟩) : s.retryCommit l = s := by
  have hsent : s.retryCommit l = (s.setLane l { s.lane l with commit := some ⟨b, stamp, false⟩ }).endedWith .busy
      (.commit l stamp) := by
    rw [State.retryCommit, hc]
    exact (State.bandOp_sent (s := s.setLane l { s.lane l with commit := some ⟨b, stamp, false⟩ }) rfl).shut h
  have hlane : (s.setLane l { s.lane l with commit := some ⟨b, stamp, false⟩ }).lane l =
      { s.lane l with commit := some ⟨b, stamp, false⟩ } := by
    rw [State.setLane_lane, if_pos rfl]
  rw [hsent, State.endedWith, hlane]
  dsimp only
  rw [State.setLane_setLane, if_pos rfl, ← hc]
  exact s.setLane_self l

/-- Settles O30: the request sends its operation, and every form of the sending is one clause. -/
theorem bandFill : Obligations.BandFill := by
  refine ⟨fun s q tag body i w ht hask hserve => ?_, fun s l b stamp h hc => ?_⟩
  · intro u
    have hexec : exec (q.command tag body) s = .next (u.bandOp (argWord body i) (.request w)).arbitrate :=
      hask.exec ht hserve tag
    have hsent (n : BandNo) (hn : argWord body i = n.val) :
        u.OpSent n (.request w) (u.bandOp (argWord body i) (.request w)) := hn ▸ State.bandOp_sent rfl
    have htakes (n : BandNo) (hn : n.val < s.tableLength) : u.TakesBand n := ⟨hserve, hn⟩
    rw [hexec]
    refine ⟨fun hrange => ?_, fun n hn hlt hnone => ⟨fun hf => ?_, fun hf hpool => ?_, fun hf hno => ?_,
      fun e hf hpool he hlow => ?_, fun older e newer hf hpool hall hlast hold he => ?_⟩,
      fun n e hn hlt he hc hpool => ?_, fun n e hn hlt he hc hpool => ?_⟩
    · have hended : u.bandOp (argWord body i) (.request w) = u.replied tag .range .none := by
        have hserve' : ¬u.bandService = false := by
          change ¬s.bandService = false
          simp [hserve]
        have hrange' : u.tableLength ≤ argWord body i := hrange
        rw [State.bandOp, if_neg hserve', if_pos hrange']
        rfl
      rw [hended]
    · rw [(hsent n hn).fault (htakes n hlt) hnone hf, State.taken_endedWith]
    · rw [(hsent n hn).poolFull ⟨htakes n hlt, hnone, hf⟩ hpool, State.taken_endedWith]
    · rw [(hsent n hn).noEntry ⟨htakes n hlt, hnone, hf⟩ hno, State.taken_endedWith]
    · rw [(hsent n hn).lowestEmpty e ⟨htakes n hlt, hnone, hf⟩ hpool he hlow]
      rfl
    · rw [(hsent n hn).leastUsed older e newer ⟨htakes n hlt, hnone, hf⟩ hpool hall hlast hold he]
      rfl
    · rw [(hsent n hn).joins e (htakes n hlt) he hc hpool]
      rfl
    · rw [(hsent n hn).listFull e (htakes n hlt) he hc hpool, State.taken_endedWith]
  · exact congrArg (fun t : State => Host.Outcome.next t.arbitrate) (State.retryCommit_shut h hc)

end Sys2Proof.Machine
end


section
/-!
SUPPORT. What leaves the part state as it is: everything that a band operation does at its service, but for the count of
an ownership check under way (R174). And what a decision does about the band unit: nothing.
-/

namespace Sys2Proof.Machine

/-! ### The part state (R171) -/

section
variable (s : State)

@[simp] theorem State.post_part (kind : NoticeKind) (sub : NoticeSubject) : (s.post kind sub).part = s.part := rfl

@[simp] theorem State.giveReply_part (res : Result) (data : ReplyData) (b : Bool) :
    (s.giveReply res data b).part = s.part := by
  unfold State.giveReply
  split <;> rfl

@[simp] theorem State.reply_part (res : Result) (data : ReplyData) : (s.reply res data).part = s.part :=
  s.giveReply_part res data false

@[simp] theorem State.answer_part (res : Result) : (s.answer res).part = s.part := s.giveReply_part res .none false

@[simp] theorem State.postWatch_part (sub : JournalSubject) : (s.postWatch sub).part = s.part := by
  unfold State.postWatch
  repeat' split
  all_goals rfl

@[simp] theorem State.overtake_part : s.overtake.part = s.part := by
  unfold State.overtake
  repeat' split
  all_goals simp

@[simp] theorem State.advanceJournal_part : s.advanceJournal.part = s.part := by
  unfold State.advanceJournal
  dsimp only
  repeat' split
  all_goals rfl

@[simp] theorem State.writeSlot_part (sub : JournalSubject) (band : Option BandNo) (party : Party)
    (action : JournalAction) (start : Stamp) (finish : Option (Stamp × EntryOutcome)) :
    (s.writeSlot sub band party action start finish).part = s.part := rfl

@[simp] theorem State.journalOpen_part (sub : JournalSubject) (band : Option BandNo) (party : Party)
    (action : JournalAction) (start : Stamp) : (s.journalOpen sub band party action start).2.part = s.part := by
  unfold State.journalOpen
  split <;> simp

@[simp] theorem State.journalClosed_part (sub : JournalSubject) (band : Option BandNo) (party : Party)
    (action : JournalAction) (start : Stamp) (o : EntryOutcome) :
    (s.journalClosed sub band party action start o).part = s.part := by
  unfold State.journalClosed
  split <;> simp

@[simp] theorem State.journalClose_part (link : Option JournalLink) (sub : JournalSubject) (o : EntryOutcome) :
    (s.journalClose link sub o).part = s.part := by
  unfold State.journalClose
  repeat' split
  all_goals simp

@[simp] theorem State.setLocker_part (k : LockerNo) (x : Locker) : (s.setLocker k x).part = s.part := rfl
@[simp] theorem State.setCabin_part (c : CabinNo) (x : Cabin) : (s.setCabin c x).part = s.part := rfl
@[simp] theorem State.setLane_part (l : LaneNo) (x : Lane) : (s.setLane l x).part = s.part := rfl
@[simp] theorem State.setString_part (i : StringNo) (x : StringRecord) : (s.setString i x).part = s.part := rfl
@[simp] theorem State.setSlot_part (h : HeadNo) (x : Option Presentation) : (s.setSlot h x).part = s.part := rfl
@[simp] theorem State.setHead_part (h : HeadNo) (x : HeadRecord) : (s.setHead h x).part = s.part := rfl
@[simp] theorem State.setEntry_part (e : EntryNo) (x : CacheEntry) : (s.setEntry e x).part = s.part := rfl

@[simp] theorem State.placePulse_part (i : StringNo) (p : Position) (d : Direction) :
    (s.placePulse i p d).part = s.part := by
  simp [State.placePulse_eq]

@[simp] theorem State.removePulse_part (i : StringNo) (p : Position) : (s.removePulse i p).part = s.part := by
  simp [State.removePulse_eq]

/-! ### Locker engine, cabin unit and lane unit -/

@[simp] theorem State.beginLocker_part (k : LockerNo) (st : LockerState) (a : LockerAction) (band : Option BandNo)
    (party : Party) (eb : Option BandNo) (start : Stamp) :
    (s.beginLocker k st a band party eb start).part = s.part := by
  unfold State.beginLocker; simp

@[simp] theorem State.restLocker_part (k : LockerNo) (st : LockerState) (clear : Bool) (o : EntryOutcome) :
    (s.restLocker k st clear o).part = s.part := by
  unfold State.restLocker; simp

@[simp] theorem State.disown_part (k : LockerNo) (st : LockerState) : (s.disown k st).part = s.part := rfl

@[simp] theorem State.leaveCompanions_part (b : BandNo) : (s.leaveCompanions b).part = s.part := by
  unfold State.leaveCompanions
  split <;> rfl

@[simp] theorem State.lockerExit_part (b : BandNo) : (s.lockerExit b).part = s.part := by
  unfold State.lockerExit
  dsimp only
  repeat' split
  all_goals simp

@[simp] theorem State.lockerReturn_part (b : BandNo) : (s.lockerReturn b).part = s.part := by
  unfold State.lockerReturn State.abandonLocker
  dsimp only
  repeat' split
  all_goals simp

@[simp] theorem State.lockerRules_part (k : LockerNo) (b : BandNo) (rec : BandRecord) (arrival : Stamp) :
    (s.lockerRules k b rec arrival).2.part = s.part := by
  unfold State.lockerRules State.vacantRules State.grantLocker State.cancelLocker
  dsimp only
  repeat' split
  all_goals simp

@[simp] theorem State.openCabin_part (c : CabinNo) (a : CabinAction) (prior : CabinState) (x : Bool) :
    (s.openCabin c a prior x).part = s.part := by
  simp [State.openCabin]

@[simp] theorem State.restCabin_part (c : CabinNo) (st : CabinState) (o : EntryOutcome) :
    (s.restCabin c st o).part = s.part := by
  unfold State.restCabin; simp

@[simp] theorem State.dueTests_part (c : CabinNo) : (s.dueTests c).part = s.part := by
  unfold State.dueTests State.dueOverdue State.dueExpiry State.expireCabin
  dsimp only
  repeat' split
  all_goals simp

@[simp] theorem State.cabinRules_part (c : CabinNo) (b : BandNo) (rec : BandRecord) (arrival : Stamp) :
    (s.cabinRules c b rec arrival).2.part = s.part := by
  unfold State.cabinRules State.freeCabinRules State.heldCabinRules State.cancelCabin State.claimCabin
    State.openHeldCabin
  dsimp only
  repeat' split
  all_goals simp

@[simp] theorem State.cabinBandLeaves_part (b : BandNo) : (s.cabinBandLeaves b).part = s.part := by
  unfold State.cabinBandLeaves State.cabinHolderLeaves
  dsimp only
  repeat' split
  all_goals simp

@[simp] theorem State.disarm_part (l : LaneNo) (o : EntryOutcome) : (s.disarm l o).part = s.part := by
  unfold State.disarm; simp

@[simp] theorem State.laneBandLeaves_part (b : BandNo) : (s.laneBandLeaves b).part = s.part := by
  unfold State.laneBandLeaves
  split <;> simp

@[simp] theorem State.armLane_part (l : LaneNo) (b : BandNo) (master inbound : Bool) (arrival : Stamp) :
    (s.armLane l b master inbound arrival).part = s.part := by
  unfold State.armLane State.useArmStamp
  dsimp only
  split <;> simp

@[simp] theorem State.pulseEject_part (l : LaneNo) : (s.pulseEject l).part = s.part := rfl
@[simp] theorem State.pulseSwallow_part (l : LaneNo) : (s.pulseSwallow l).part = s.part := rfl

@[simp] theorem State.entryRules_part (l : LaneNo) (b : BandNo) (rec : BandRecord) (arrival : Stamp) :
    (s.entryRules l b rec arrival).2.part = s.part := by
  unfold State.entryRules
  dsimp only
  repeat' split
  all_goals simp

@[simp] theorem State.exitRules_part (l : LaneNo) (b : BandNo) (rec : BandRecord) (arrival : Stamp) :
    (s.exitRules l b rec arrival).2.1.part = s.part := by
  unfold State.exitRules
  dsimp only
  repeat' split
  all_goals simp

/-! ### Decisions and services -/

@[simp] theorem State.placeVerdict_part (h : HeadNo) (v : Verdict) : (s.placeVerdict h v).part = s.part := by
  unfold State.placeVerdict
  split <;> rfl

@[simp] theorem State.conclude_part (h : HeadNo) (p : Presentation) (v : Verdict) (party : Party) :
    (s.conclude h p v party).part = s.part := by
  unfold State.conclude State.ejectForRefusal State.journalRefusal
  dsimp only
  repeat' split
  all_goals simp

@[simp] theorem State.targetRules_part (target : JournalSubject) (b : BandNo) (rec : BandRecord) (arrival : Stamp) :
    (s.targetRules target b rec arrival).2.1.part = s.part := by
  unfold State.targetRules
  dsimp only
  repeat' split
  all_goals simp

@[simp] theorem State.decidePresentation_part (h : HeadNo) (p : Presentation) (rec : BandRecord) :
    (s.decidePresentation h p rec).1.part = s.part := by
  unfold State.decidePresentation
  dsimp only
  repeat' split
  all_goals simp

@[simp] theorem State.serveRequest_part (n : BandNo) (rec : BandRecord) (r : BandRequest) :
    (s.serveRequest n rec r).state.part = s.part := by
  cases r with
  | issue => simp only [State.serveRequest, State.serveIssue]; repeat' split
             all_goals rfl
  | amend => simp only [State.serveRequest, State.serveAmend]; repeat' split
             all_goals rfl
  | topup => simp only [State.serveRequest, State.serveTopup]; split <;> rfl
  | settle => simp only [State.serveRequest, State.serveSettle]; split <;> rfl
  | bar => simp only [State.serveRequest, State.serveBar]; split <;> simp [Served.only]
  | unbar => simp only [State.serveRequest, State.serveUnbar]; split <;> rfl
  | ret => simp only [State.serveRequest, State.serveReturn]; repeat' split
           all_goals simp [Served.only]
  | read => rfl
  | assign k => simp only [State.serveRequest, State.serveAssign]; repeat' split
                all_goals simp [Served.only]
  | share k => simp only [State.serveRequest, State.serveShare]; repeat' split
               all_goals rfl
  | stayQuery => simp only [State.serveRequest, State.serveStay]; split <;> rfl

end

theorem State.LockersOnly.part {s t : State} (h : s.LockersOnly t) : t.part = s.part := by
  obtain ⟨x, rfl⟩ := h
  rfl

/-- Past the ownership check a service leaves the part state (R5, R174). -/
theorem State.serve_part {s : State} (h : s.part.startup = .done) (n : BandNo) (rec : BandRecord) (w : Waiter) :
    (s.serve n rec w).state.part = s.part := by
  cases w with
  | lookup g p => exact s.decidePresentation_part g p rec
  | request r => exact s.serveRequest_part n rec r
  | commit l stamp => rfl
  | ownerCheck k =>
    have hpart := (s.checkOwner_only k (some rec.state)).part
    simp only [State.serve]
    rw [State.ownershipEnded_done (by rw [hpart]; exact h), hpart]
  | companionCheck k =>
    have hpart := (s.checkCompanion_only k n (some rec.state)).part
    simp only [State.serve]
    rw [State.ownershipEnded_done (by rw [hpart]; exact h), hpart]

theorem State.replyServed_part (s : State) (e : EntryNo) (changed : Bool) (r : Option (Result × ReplyData)) :
    (s.replyServed e changed r).part = s.part := by
  unfold State.replyServed
  repeat' split
  all_goals simp

/-- So does the whole service at an entry. -/
theorem State.serveAt_part {s : State} (h : s.part.startup = .done) (e : EntryNo) (w : Waiter) :
    (s.serveAt e w).part = s.part := by
  unfold State.serveAt
  split
  · next n rec _ =>
    have hserve := State.serve_part (s := s.touch e) h n rec w
    dsimp only
    split
    · rw [State.replyServed_part, hserve]
      rfl
    · rw [State.replyServed_part, State.noteChange_eq]
      exact hserve
  · rfl

/-- The services of a list of waiters leave the part state. -/
theorem State.foldl_serveAt_part {s : State} (h : s.part.startup = .done) (e : EntryNo) (ws : List Waiter) :
    (ws.foldl (fun t w => t.serveAt e w) s).part = s.part := by
  induction ws generalizing s with
  | nil => rfl
  | cons w ws ih =>
    have hw := State.serveAt_part h e w
    rw [List.foldl_cons, ih (by rw [hw]; exact h), hw]

theorem State.emptyTest_part (s : State) (e : EntryNo) : (s.emptyTest e).part = s.part := by
  unfold State.emptyTest
  dsimp only
  repeat' split
  all_goals rfl

/-- An end without a service leaves the part state too. -/
theorem State.endedWith_part (s : State) (res : Result) (w : Waiter) : (s.endedWith res w).part = s.part := by
  cases w with
  | lookup h p => simp only [State.endedWith]; split <;> simp
  | request r => simp only [State.endedWith]; split <;> rfl
  | commit l stamp => simp only [State.endedWith]; split <;> rfl
  | ownerCheck k => rfl
  | companionCheck k => rfl

/-! ### The band unit at a decision (R38) -/

section
variable (s : State) (x : BandUnit)

theorem State.postWatch_setBand (sub : JournalSubject) : (s.setBand x).postWatch sub = (s.postWatch sub).setBand x := by
  cases sub with
  | locker k =>
    cases h : s.watched (.locker k)
    · have h' : (s.setBand x).watched (.locker k) = false := h
      simp [State.postWatch, h, h']
    · have h' : (s.setBand x).watched (.locker k) = true := h
      simp only [State.postWatch, h, h', if_true]
      rfl
  | cabin c => rfl
  | lane l => rfl

theorem State.overtake_setBand : (s.setBand x).overtake = s.overtake.setBand x := by
  rcases h : s.journal.ring[s.journal.pos.val] with _ | e
  · simp only [State.overtake, State.setBand_journal, h]
  · rcases hf : e.finish with _ | f
    · simp only [State.overtake, State.setBand_journal, h, hf]
      exact State.postWatch_setBand (s.setJournal { s.journal with
        overtaken := some (s.journal.pos, { e with finish := some (s.now, .overtaken) }) }) x e.subject
    · simp only [State.overtake, State.setBand_journal, h, hf]

theorem State.advanceJournal_setBand : (s.setBand x).advanceJournal = s.advanceJournal.setBand x := by
  unfold State.advanceJournal
  rw [State.setBand_journal]
  dsimp only
  repeat' split
  all_goals rfl

theorem State.journalClosed_setBand (sub : JournalSubject) (band : Option BandNo) (party : Party)
    (action : JournalAction) (start : Stamp) (o : EntryOutcome) :
    (s.setBand x).journalClosed sub band party action start o =
      (s.journalClosed sub band party action start o).setBand x := by
  unfold State.journalClosed
  rw [State.setBand_part]
  split
  · rfl
  · rw [State.overtake_setBand, ← State.advanceJournal_setBand, ← State.postWatch_setBand]
    rfl

theorem State.placeVerdict_setBand (h : HeadNo) (v : Verdict) :
    (s.setBand x).placeVerdict h v = (s.placeVerdict h v).setBand x := by
  unfold State.placeVerdict
  have hstate : ((s.setBand x).head h).state = (s.head h).state := rfl
  rw [hstate]
  split <;> rfl

/-- A decision has no part in the band unit. -/
theorem State.conclude_setBand (h : HeadNo) (p : Presentation) (v : Verdict) (party : Party) :
    (s.setBand x).conclude h p v party = (s.conclude h p v party).setBand x := by
  have hplaced : ((s.setBand x).placeVerdict h v).setSlot h (some { p with decided := true }) =
      ((s.placeVerdict h v).setSlot h (some { p with decided := true })).setBand x := by
    rw [State.placeVerdict_setBand]
    rfl
  unfold State.conclude
  rw [hplaced]
  cases v with
  | grant => rfl
  | cancelled => rfl
  | refuse r =>
    generalize (s.placeVerdict h (.refuse r)).setSlot h (some { p with decided := true }) = t
    have hjournal : (t.setBand x).journalRefusal (headTarget h) p party r =
        (t.journalRefusal (headTarget h) p party r).setBand x := by
      unfold State.journalRefusal
      rw [State.setBand_settings]
      split
      · exact t.journalClosed_setBand x ..
      · rfl
    dsimp only
    rw [hjournal]
    generalize t.journalRefusal (headTarget h) p party r = u
    unfold State.ejectForRefusal
    split
    · next l _ =>
      have hrole : (u.setBand x).laneRole l = u.laneRole l := rfl
      rw [hrole]
      split <;> rfl
    · rfl

/-- Nor has an end without a service. -/
theorem State.endedWith_setBand (res : Result) (w : Waiter) :
    (s.setBand x).endedWith res w = (s.endedWith res w).setBand x := by
  cases w with
  | lookup h p =>
    simp only [State.endedWith]
    split
    · rfl
    · exact s.conclude_setBand x ..
  | request r =>
    simp only [State.endedWith, State.setBand_link]
    split <;> rfl
  | commit l stamp =>
    have hlane : (s.setBand x).lane l = s.lane l := rfl
    simp only [State.endedWith, hlane]
    split <;> rfl
  | ownerCheck k => rfl
  | companionCheck k => rfl

/-- An end without a service leaves the band unit. -/
theorem State.endedWith_band (res : Result) (w : Waiter) : (s.endedWith res w).band = s.band := by
  have h := congrArg State.band (s.endedWith_setBand s.band res w)
  exact h

end

end Sys2Proof.Machine
end


section
/-!
PROOF. The completion of a FETCH (R4, R5, R7, R8, R174, R177). The event hands the bytes to one of three paths: a good
record fills the entry and its waiters are served, a DAMAGED one ends them STORE until a BAND ISSUE is taken, and where
no operation is accepted the waiters end BUSY. The ownership check's operations are the waiters of start-up.
-/

namespace Sys2Proof.Machine

/-! ### The three paths -/

/-- The state in which the bytes of a FETCH are judged: the store as the memory answers, the port READY (R12). -/
def State.fetched (s : State) (n : BandNo) (seen : Option (List Byte)) : State :=
  (s.setStore (s.store.seen (bandAddress n) 32 seen)).portReady

section
variable {s : State} {seen : Option (List Byte)} {e : EntryNo} {n : BandNo} {r : Bool}

theorem exec_fetchComplete_eq (h : s.band.inFlight = some ⟨.fetch e n, r⟩) :
    exec (.fetchComplete seen) s = .next (s.fetchDone e n seen).arbitrate := by
  have hevent : s.fetchEvent seen = s.fetchDone e n seen := by
    rw [State.fetchEvent, h]
  exact congrArg (fun t : State => Host.Outcome.next t.arbitrate) hevent

theorem State.fetchDone_good {rec : BandRecord} (hs : s.bandService = true)
    (hj : judgeRecord ((s.store.seen (bandAddress n) 32 seen).bytes (bandAddress n) 32) = some rec) :
    s.fetchDone e n seen = ((s.fetched n seen).fillGood e n rec).advanceOwnership := by
  have hs' : ¬(s.fetched n seen).bandService = false := by
    change ¬s.bandService = false
    simp [hs]
  have hj' : judgeRecord ((s.fetched n seen).store.bytes (bandAddress n) 32) = some rec := hj
  change (if (s.fetched n seen).bandService = false then _ else
    State.advanceOwnership (match judgeRecord ((s.fetched n seen).store.bytes (bandAddress n) 32) with
      | some rec => (s.fetched n seen).fillGood e n rec
      | none => (s.fetched n seen).fillDamaged e n)) = _
  rw [if_neg hs', hj']

theorem State.fetchDone_damaged (hs : s.bandService = true)
    (hj : judgeRecord ((s.store.seen (bandAddress n) 32 seen).bytes (bandAddress n) 32) = none) :
    s.fetchDone e n seen = ((s.fetched n seen).fillDamaged e n).advanceOwnership := by
  have hs' : ¬(s.fetched n seen).bandService = false := by
    change ¬s.bandService = false
    simp [hs]
  have hj' : judgeRecord ((s.fetched n seen).store.bytes (bandAddress n) 32) = none := hj
  change (if (s.fetched n seen).bandService = false then _ else
    State.advanceOwnership (match judgeRecord ((s.fetched n seen).store.bytes (bandAddress n) 32) with
      | some rec => (s.fetched n seen).fillGood e n rec
      | none => (s.fetched n seen).fillDamaged e n)) = _
  rw [if_neg hs', hj']

theorem State.fetchDone_shut (hs : s.bandService = false) :
    s.fetchDone e n seen = (s.fetched n seen).endWaiters e .busy := if_pos hs

end

/-- With no ownership check under way the start-up sequence does not go on (R174). -/
theorem State.advanceOwnership_done {s : State} (h : s.part.startup = .done) : s.advanceOwnership = s := by
  rw [State.advanceOwnership, h]

/-- With operations of the check left it waits (R174). -/
theorem State.advanceOwnership_waits {s : State} {k : LockerNo} {left : Nat} {held : Settings}
    (h : s.part.startup = .ownership k left held) (hl : 1 ≤ left) : s.advanceOwnership = s := by
  rw [State.advanceOwnership, h]
  exact if_neg (by omega)

/-! ### A good record (R7) -/

/-- The entry VALID with a record, at the most recently used end, without waiters (R7). -/
def State.validAt (s : State) (e : EntryNo) (n : BandNo) (rec : BandRecord) : State :=
  s.setBand { s.band with
    cache := s.band.cache.set e.val ⟨.valid n rec, [], false⟩
    lastUse := s.band.lastUse.filter (fun f => f ≠ e) ++ [e] }

theorem State.validAt_entry (s : State) (e : EntryNo) (n : BandNo) (rec : BandRecord) :
    (s.validAt e n rec).entry e = ⟨.valid n rec, [], false⟩ := Vector.getElem_set_self e.isLt

/-- An entry just made the most recently used one stays so. -/
theorem State.validAt_usedLast (s : State) (e : EntryNo) (n : BandNo) (rec : BandRecord) :
    (s.validAt e n rec).usedLast e = s.validAt e n rec := by
  have hlast : (s.band.lastUse.filter (fun f => f ≠ e) ++ [e]).filter (fun f => f ≠ e) =
      s.band.lastUse.filter (fun f => f ≠ e) := by
    simp [List.filter_append, List.filter_filter]
  change (s.validAt e n rec).setBand { (s.validAt e n rec).band with
    lastUse := (s.band.lastUse.filter (fun f => f ≠ e) ++ [e]).filter (fun f => f ≠ e) ++ [e] } = _
  rw [hlast]
  rfl

/-- A record filled and changed at once, where no WRITE for its entry waits (R7, R9). -/
theorem State.validAt_changed {s : State} {e : EntryNo} (hq : .write e ∉ s.band.queue) (n : BandNo)
    (rec now : BandRecord) : (s.validAt e n rec).changed e n now = s.setBand { s.band with
      cache := s.band.cache.set e.val ⟨.valid n now, [], true⟩
      lastUse := s.band.lastUse.filter (fun f => f ≠ e) ++ [e]
      queue := s.band.queue ++ [.write e] } := by
  have hq' : PortRequest.write e ∉ (s.validAt e n rec).band.queue := hq
  rw [State.changed, State.validAt_entry, if_neg hq']
  simp only [State.validAt, State.setBand_band, Vector.set_set]
  rfl

/-- The emptying test behind a fill (R7). -/
theorem State.validAt_emptyTest {s t : State} {e : EntryNo} {n : BandNo} {rec : BandRecord}
    (ht : t.band = (s.validAt e n rec).band) :
    t.emptyTest e = if rec.state = .free ∨ rec.state = .returned then t.setBand { s.band with
      cache := s.band.cache.set e.val CacheEntry.atReset
      lastUse := s.band.lastUse.filter (fun f => f ≠ e) } else t := by
  have hentry : t.entry e = ⟨.valid n rec, [], false⟩ := by
    rw [State.entry, ht]
    exact s.validAt_entry e n rec
  have hlast : (s.band.lastUse.filter (fun f => f ≠ e) ++ [e]).filter (fun f => f ≠ e) =
      s.band.lastUse.filter (fun f => f ≠ e) := by
    simp [List.filter_append, List.filter_filter]
  have hempty : t.emptyEntry e = t.setBand { s.band with
      cache := s.band.cache.set e.val CacheEntry.atReset
      lastUse := s.band.lastUse.filter (fun f => f ≠ e) } := by
    rw [State.emptyEntry_eq, State.dropped, ht]
    simp only [State.validAt, State.setBand_band, hlast, Vector.set_set]
  rw [State.emptyTest, hentry]
  simp [hempty]

/-- The waiters of a fill are served in their order, and the emptying test follows (R7). -/
theorem State.fillGood_eq (s : State) (e : EntryNo) (n : BandNo) (rec : BandRecord) :
    s.fillGood e n rec =
      ((s.entry e).waiters.foldl (fun t w => t.serveAt e w) (s.validAt e n rec)).emptyTest e := rfl

/-! ### The services (R5, R9) -/

/-- A service that answers a record and no reply. -/
theorem State.serveAt_silent {s v : State} {n : BandNo} {e : EntryNo} {rec now : BandRecord} {w : Waiter}
    (hc : (s.entry e).content = .valid n rec) (hs : (s.usedLast e).serve n rec w = ⟨v, now, none⟩) :
    s.serveAt e w = if now = rec then v else v.changed e n now := by
  have hserve : (s.touch e).serve n rec w = ⟨v, now, none⟩ := hs
  simp only [State.serveAt, hc, hserve, State.noteChange_eq, State.replyServed]

/-- The record of a commit (R131's table). -/
theorem committedRecord_cases (rec : BandRecord) (stamp : Stamp) :
    (rec.state = .issued → committedRecord rec stamp = { rec with state := .inside, entry := some stamp }) ∧
    (rec.state = .barred → rec.beforeBar = some .issued →
      committedRecord rec stamp = { rec with beforeBar := some .inside, entry := some stamp }) ∧
    (rec.state ≠ .issued → ¬(rec.state = .barred ∧ rec.beforeBar = some .issued) → committedRecord rec stamp = rec) := by
  refine ⟨fun h => by rw [committedRecord, h], fun h hb => by rw [committedRecord, h, hb], fun h hb => ?_⟩
  unfold committedRecord
  cases hs : rec.state <;> rcases hr : rec.beforeBar with _ | _ | _ <;> simp_all

/-- The service of a commit: the lane's commit is done, and the band is admitted (R131). -/
theorem State.serveAt_commit {s : State} {n : BandNo} {e : EntryNo} {rec : BandRecord}
    (hc : (s.entry e).content = .valid n rec) (l : LaneNo) (stamp : Stamp) :
    let c := (s.usedLast e).setLane l { s.lane l with commit := none }
    (rec.state = .issued → s.serveAt e (.commit l stamp) =
      c.changed e n { rec with state := .inside, entry := some stamp }) ∧
    (rec.state = .barred → rec.beforeBar = some .issued → s.serveAt e (.commit l stamp) =
      c.changed e n { rec with beforeBar := some .inside, entry := some stamp }) ∧
    (rec.state ≠ .issued → ¬(rec.state = .barred ∧ rec.beforeBar = some .issued) →
      s.serveAt e (.commit l stamp) = c) := by
  intro c
  obtain ⟨hissued, hbarred, hother⟩ := committedRecord_cases rec stamp
  have hserve := State.serveAt_silent (v := c) (now := committedRecord rec stamp) (w := .commit l stamp) hc rfl
  refine ⟨fun h => ?_, fun h hb => ?_, fun h hb => ?_⟩
  · rw [hserve, hissued h, if_neg]
    intro heq
    have := congrArg BandRecord.state heq
    rw [h] at this
    cases this
  · rw [hserve, hbarred h hb, if_neg]
    intro heq
    have := congrArg BandRecord.beforeBar heq
    rw [hb] at this
    cases this
  · rw [hserve, hother h hb, if_pos rfl]

/-! ### Ends without a service (R4, R8) -/

/-- A list of operations that are no ownership checks ends as each of them does. -/
theorem State.foldl_endOp_eq {ws : List Waiter} (h : ∀ w ∈ ws, w.isCheck = false) (m : Option BandNo) (res : Result)
    (s : State) : ws.foldl (fun t w => t.endOp w m res) s = ws.foldl (fun t w => t.endedWith res w) s := by
  induction ws generalizing s with
  | nil => rfl
  | cons w ws ih =>
    rw [List.foldl_cons, List.foldl_cons, State.endOp_eq_endedWith (h w (by simp)),
      ih fun v hv => h v (by simp [hv])]

/-- The waiters of an entry that is emptied, where none is an ownership check. -/
theorem State.endWaiters_eq {s : State} {e : EntryNo} (h : ∀ w ∈ (s.entry e).waiters, w.isCheck = false)
    (res : Result) :
    s.endWaiters e res = (s.entry e).waiters.foldl (fun t w => t.endedWith res w) (s.dropped e) :=
  State.foldl_endOp_eq h _ res (s.dropped e)

theorem State.endWaiters_busy {s : State} {e : EntryNo} (h : ∀ w ∈ (s.entry e).waiters, w.isCheck = false) :
    s.endWaiters e .busy = s.droppedBusy e := State.endWaiters_eq h .busy

/-! ### A DAMAGED record (R8) -/

/-- The entry FILLING without waiters, while those it had end. -/
def State.waiting (s : State) (e : EntryNo) (n : BandNo) : State := s.setEntry e ⟨.filling n, [], false⟩

theorem State.fillDamaged_eq (s : State) (e : EntryNo) (n : BandNo) : s.fillDamaged e n =
    ((s.post .recordDamaged (.band n)).waiting e n).serveDamaged e n (s.entry e).waiters := rfl

/-- The entry emptied behind an end is the entry emptied before it: no such end touches the band unit. -/
theorem State.waiting_endedWith (s : State) (e : EntryNo) (n : BandNo) (res : Result) (w : Waiter) :
    ((s.waiting e n).endedWith res w).emptyEntry e = (s.dropped e).endedWith res w := by
  rw [State.emptyEntry_eq, State.dropped, State.endedWith_band, ← State.endedWith_setBand]
  simp only [State.waiting, State.setEntry, State.setBand_band, Vector.set_set]
  rfl

/-- One waiter that is neither a BAND ISSUE nor an ownership check ends STORE, and the entry is emptied (R8). -/
theorem State.fillDamaged_one {s : State} {e : EntryNo} {n : BandNo} {w : Waiter} (hw : (s.entry e).waiters = [w])
    (hi : w.isIssue = false) (hc : w.isCheck = false) :
    s.fillDamaged e n = ((s.post .recordDamaged (.band n)).dropped e).endedWith .store w := by
  rw [State.fillDamaged_eq, hw, State.serveDamaged, if_neg (by simp [hi]), State.serveDamaged,
    State.endOp_eq_endedWith hc, State.waiting_endedWith]

/-- A BAND ISSUE with arguments in range, for a band that owns and holds nothing, is served against a FREE record, and
its record is written (R8, R9, R20). -/
theorem State.fillDamaged_issue {s : State} {e : EntryNo} {n : BandNo} {serial : Serial} {cls paid credit : Nat}
    {mask rights : Byte} {o : Outstanding} (ho : s.link.outstanding = some o)
    (hw : (s.entry e).waiters = [.request (.issue serial cls paid credit mask rights)]) (hs : serial ≠ 0) (hc : cls ≤ 7)
    (hp : paid ≤ 1440) (hr : rights.toNat ≤ 3) (hown : ∀ k, (s.locker k).owner ≠ some n)
    (hcomp : ∀ k, n ∉ (s.locker k).companions) (hhold : ∀ c, (s.cabin c).holder ≠ some n) :
    s.fillDamaged e n = (((s.post .recordDamaged (.band n)).validAt e n BandRecord.free).changed e n
      ⟨.issued, none, serial, Fin.ofNat 8 cls, paid, none, credit, 0, mask, rights.getLsbD 0,
        rights.getLsbD 1⟩).replyStored o.tag e .none := by
  have hissue (t : State) (hl : t.lockers = s.lockers) (hb : t.cabins = s.cabins) :
      t.serveIssue n BandRecord.free serial cls paid credit mask rights = ⟨t, ⟨.issued, none, serial, Fin.ofNat 8 cls,
        paid, none, credit, 0, mask, rights.getLsbD 0, rights.getLsbD 1⟩, some (.ok, .none)⟩ := by
    have hnone : ¬((t.ownedLocker n).isSome = true ∨ (t.companionLocker n).isSome = true ∨
        (t.heldCabin n).isSome = true) := by
      simp only [State.ownedLocker_isSome, State.companionLocker_isSome, State.heldCabin_isSome, State.locker, State.cabin,
        hl, hb]
      rintro (⟨k, hk⟩ | ⟨k, hk⟩ | ⟨c, hc⟩)
      exacts [hown k hk, hcomp k hk, hhold c hc]
    exact (State.serveIssue_args hs hc hp hr).trans (if_neg hnone)
  generalize hnow : (⟨.issued, none, serial, Fin.ofNat 8 cls, paid, none, credit, 0, mask, rights.getLsbD 0,
    rights.getLsbD 1⟩ : BandRecord) = now at hissue ⊢
  have hne : now ≠ BandRecord.free := by
    intro h
    rw [← hnow] at h
    cases congrArg BandRecord.state h
  generalize hu : s.post .recordDamaged (.band n) = u
  have hlockers : u.lockers = s.lockers := by rw [← hu]; rfl
  have hcabins : u.cabins = s.cabins := by rw [← hu]; rfl
  have hout : u.link.outstanding = some o := by rw [← hu, State.post_outstanding, ho]
  have hasked : (u.waiting e n).serve n BandRecord.free (.request (.issue serial cls paid credit mask rights)) =
      ⟨u.waiting e n, now, some (.ok, .none)⟩ := hissue _ hlockers hcabins
  have hvalid : ((u.waiting e n).setEntry e ⟨.valid n BandRecord.free, [], false⟩).touch e =
      u.validAt e n BandRecord.free := by
    simp only [State.waiting, State.setEntry, State.setBand_band, Vector.set_set]
    rfl
  have hserved : (u.validAt e n BandRecord.free).serveAt e (.request (.issue serial cls paid credit mask rights)) =
      ((u.validAt e n BandRecord.free).changed e n now).replyStored o.tag e .none :=
    State.serveAt_changed (congrArg CacheEntry.content (u.validAt_entry e n BandRecord.free))
      (by rw [State.validAt_usedLast]; exact hissue _ hlockers hcabins) hne hout
  have hpending : ((((u.validAt e n BandRecord.free).changed e n now).replyStored o.tag e .none).entry e).writePending =
      true := by
    rw [State.replyStored_entry, State.changed_entry]
  rw [State.fillDamaged_eq, hw, hu, State.serveDamaged, if_pos (by rfl)]
  simp only [hasked, if_neg hne, hvalid, List.foldl_cons, List.foldl_nil]
  rw [hserved, State.emptyTest_pending hpending]

/-! ### One waiter that gives no reply -/

section
variable {s v : State} {e : EntryNo} {n : BandNo} {w : Waiter}

/-- A fill with one waiter whose service changes no record and gives no reply: what the service leaves, and the
emptying test (R5, R7). -/
theorem State.fillGood_silent {rec : BandRecord} (hw : (s.entry e).waiters = [w])
    (hs : (s.validAt e n rec).serve n rec w = ⟨v, rec, none⟩) (hb : v.band = (s.validAt e n rec).band) :
    s.fillGood e n rec = if rec.state = .free ∨ rec.state = .returned then v.setBand { s.band with
      cache := s.band.cache.set e.val CacheEntry.atReset
      lastUse := s.band.lastUse.filter (fun f => f ≠ e) } else v := by
  have hserved : (s.validAt e n rec).serveAt e w = v := by
    rw [State.serveAt_silent (congrArg CacheEntry.content (s.validAt_entry e n rec))
      (by rw [State.validAt_usedLast]; exact hs), if_pos rfl]
  rw [State.fillGood_eq, hw, List.foldl_cons, List.foldl_nil, hserved, State.validAt_emptyTest hb]

/-- A DAMAGED fill with one waiter that is no BAND ISSUE: what its end leaves, and the entry emptied (R8). -/
theorem State.fillDamaged_silent (hw : (s.entry e).waiters = [w]) (hi : w.isIssue = false)
    (hs : ((s.post .recordDamaged (.band n)).waiting e n).endOp w (some n) .store = v)
    (hb : v.band = (s.waiting e n).band) :
    s.fillDamaged e n = v.setBand { s.band with
      cache := s.band.cache.set e.val CacheEntry.atReset
      lastUse := s.band.lastUse.filter (fun f => f ≠ e) } := by
  rw [State.fillDamaged_eq, hw, State.serveDamaged, if_neg (by simp [hi]), hs, State.serveDamaged,
    State.emptyEntry_eq, State.dropped, hb]
  simp only [State.waiting, State.setEntry, State.setBand_band, Vector.set_set]

end

/-! ### The ownership check (R174) -/

/-- One operation of the check ends (R174). -/
theorem State.ownershipEnded_check {s : State} {k : LockerNo} {left : Nat} {held : Settings}
    (h : s.part = ⟨.starting, false, .ownership k (left + 1) held⟩) :
    s.ownershipEnded = s.setPart ⟨.starting, false, .ownership k left held⟩ := by
  rw [State.ownershipEnded, h]
  rfl

theorem LockerState.ownerless_eq (st : LockerState) :
    st.ownerless = if st = .locked then .abandoned else if st = .opened then .vacant else st := by
  cases st <;> rfl

/-- The owner of a band in use is kept (R174). -/
theorem State.checkOwner_kept {st : BandState} (h : st = .issued ∨ st = .inside ∨ st = .barred) (s : State)
    (k : LockerNo) : s.checkOwner k (some st) = s := by
  rcases h with rfl | rfl | rfl <;> rfl

/-- Any other owner is cleared with the companions (R174). -/
theorem State.checkOwner_cleared {found : Option BandState} (h : ∀ st, found = some st → st = .free ∨ st = .returned)
    (s : State) (k : LockerNo) : s.checkOwner k found = s.setLocker k { s.locker k with
      state := if (s.locker k).state = .locked then .abandoned else if (s.locker k).state = .opened then .vacant
        else (s.locker k).state
      owner := none
      companions := []
      dirty := true } := by
  rw [← LockerState.ownerless_eq]
  rcases found with _ | st
  · rfl
  · rcases h st rfl with rfl | rfl <;> rfl

/-- A companion that is ISSUED or INSIDE is kept (R174). -/
theorem State.checkCompanion_kept {st : BandState} (h : st = .issued ∨ st = .inside) (s : State) (k : LockerNo)
    (b : BandNo) : s.checkCompanion k b (some st) = s := by
  rcases h with rfl | rfl <;> rfl

/-- Any other companion is removed (R174). -/
theorem State.checkCompanion_removed {found : Option BandState}
    (h : ∀ st, found = some st → st = .barred ∨ st = .free ∨ st = .returned) (s : State) (k : LockerNo) (b : BandNo) :
    s.checkCompanion k b found = if b ∈ (s.locker k).companions then
      s.setLocker k { s.locker k with companions := (s.locker k).companions.filter (fun c => c ≠ b), dirty := true }
      else s := by
  rcases found with _ | st
  · rfl
  · rcases h st rfl with rfl | rfl | rfl <;> rfl

/-- A fill whose one waiter is an operation of the check. -/
theorem State.fillGood_check {s x : State} {e : EntryNo} {n : BandNo} {w : Waiter} {rec : BandRecord} {k : LockerNo}
    {left : Nat} {held : Settings} (hpart : s.part = ⟨.starting, false, .ownership k (left + 1) held⟩)
    (hw : (s.entry e).waiters = [w]) (hs : (s.validAt e n rec).serve n rec w = ⟨x.ownershipEnded, rec, none⟩)
    (hx : (s.validAt e n rec).LockersOnly x) :
    s.fillGood e n rec = if rec.state = .free ∨ rec.state = .returned then
      (x.setPart ⟨.starting, false, .ownership k left held⟩).setBand { s.band with
        cache := s.band.cache.set e.val CacheEntry.atReset
        lastUse := s.band.lastUse.filter (fun f => f ≠ e) }
      else x.setPart ⟨.starting, false, .ownership k left held⟩ := by
  rw [State.ownershipEnded_check (hx.part.trans hpart)] at hs
  refine State.fillGood_silent hw hs ?_
  obtain ⟨_, rfl⟩ := hx
  rfl

/-- A DAMAGED fill whose one waiter is an operation of the check (R174). -/
theorem State.fillDamaged_check {s x : State} {e : EntryNo} {n : BandNo} {w : Waiter} {k : LockerNo} {left : Nat}
    {held : Settings} (hpart : s.part = ⟨.starting, false, .ownership k (left + 1) held⟩)
    (hw : (s.entry e).waiters = [w]) (hi : w.isIssue = false)
    (hs : ((s.post .recordDamaged (.band n)).waiting e n).endOp w (some n) .store = x.ownershipEnded)
    (hx : ((s.post .recordDamaged (.band n)).waiting e n).LockersOnly x) :
    s.fillDamaged e n = (x.setPart ⟨.starting, false, .ownership k left held⟩).setBand { s.band with
      cache := s.band.cache.set e.val CacheEntry.atReset
      lastUse := s.band.lastUse.filter (fun f => f ≠ e) } := by
  have hposted : ((s.post .recordDamaged (.band n)).waiting e n).part = s.part := s.post_part .recordDamaged (.band n)
  have hxpart : x.part = ⟨.starting, false, .ownership k (left + 1) held⟩ := hx.part.trans (hposted.trans hpart)
  rw [State.ownershipEnded_check hxpart] at hs
  refine State.fillDamaged_silent hw hi hs ?_
  obtain ⟨_, rfl⟩ := hx
  rfl

/-- Behind the last operation of the last locker to be checked the held settings are applied (R174, R175). -/
theorem State.advanceOwnership_applied {s : State} {k : LockerNo} {held : Settings}
    (hpart : s.part = ⟨.starting, false, .ownership k 0 held⟩) (hn : 1 ≤ held.fittedStrings)
    (h : ∀ j, k < j → (s.locker j).owner = none ∧ (s.locker j).companions = []) :
    s.Applied s.advanceOwnership held := by
  have hskip : s.ownershipFrom held (lockersAbove k) = s.applyHeld held := by
    have habove : ∀ j ∈ lockersAbove k, (s.locker j).owner = none ∧ (s.locker j).companions = [] := fun j hj =>
      h j (of_decide_eq_true (List.mem_filter.mp hj).2)
    have := State.ownershipFrom_skip held [] habove
    rwa [List.append_nil, State.ownershipFrom] at this
  have hadvance : s.advanceOwnership = s.applyHeld held := by
    rw [State.advanceOwnership, hpart, ← hskip]
    rfl
  rw [hadvance]
  exact State.applyHeld_applied hpart hn

/-! ### The claim -/

/-- The fill of a good record past start-up (R5, R7). -/
theorem fetchDone_served {s : State} {seen : Option (List Byte)} {e : EntryNo} {n : BandNo} {rec : BandRecord}
    (hs : s.bandService = true) (hdone : s.part.startup = .done)
    (hj : judgeRecord ((s.store.seen (bandAddress n) 32 seen).bytes (bandAddress n) 32) = some rec) :
    s.fetchDone e n seen = (s.fetched n seen).fillGood e n rec := by
  rw [State.fetchDone_good hs hj, State.advanceOwnership_done]
  rw [State.fillGood_eq, State.emptyTest_part, State.foldl_serveAt_part]
  exacts [hdone, hdone]

/-- A DAMAGED fill past start-up, by what the fill leaves (R8). -/
theorem fetchDone_ended {s t : State} {seen : Option (List Byte)} {e : EntryNo} {n : BandNo}
    (hs : s.bandService = true) (hdone : s.part.startup = .done)
    (hj : judgeRecord ((s.store.seen (bandAddress n) 32 seen).bytes (bandAddress n) 32) = none)
    (ht : (s.fetched n seen).fillDamaged e n = t) (hpart : t.part = s.part) : s.fetchDone e n seen = t := by
  rw [State.fetchDone_damaged hs hj, ht, State.advanceOwnership_done (by rw [hpart]; exact hdone)]

/-- Settles O31. -/
theorem fetchCompletes : Obligations.FetchCompletes := by
  unfold Obligations.FetchCompletes
  have hrun {s t : State} {seen : Option (List Byte)} {e : EntryNo} {n : BandNo} {r : Bool}
      (hin : s.band.inFlight = some ⟨.fetch e n, r⟩) (h : s.fetchDone e n seen = t) :
      exec (.fetchComplete seen) s = .next t.arbitrate := (exec_fetchComplete_eq hin).trans (by rw [h])
  refine ⟨?_, ?_, ?_, ?_, ?_⟩
  · intro s seen e n r rec st hin hs hdone hj filled emptied left
    have hfill : s.fetchDone e n seen = (s.fetched n seen).fillGood e n rec := fetchDone_served hs hdone hj
    refine ⟨fun o ho hw => hrun hin (hfill.trans ?_), fun h p hp hw => hrun hin (hfill.trans ?_),
      hrun hin hfill⟩
    · have hserved : ((s.fetched n seen).validAt e n rec).serveAt e (.request .read) =
          filled.replied o.tag .ok (.bandRecord n rec.encode) := by
        rw [State.serveAt_reply (congrArg CacheEntry.content ((s.fetched n seen).validAt_entry e n rec))
          (by rw [State.validAt_usedLast]; rfl), State.validAt_usedLast]
        exact State.reply_outstanding (s := filled) ho .ok (.bandRecord n rec.encode)
      have hwaiters : ((s.fetched n seen).entry e).waiters = [.request .read] := hw
      rw [State.fillGood_eq, hwaiters, List.foldl_cons, List.foldl_nil, hserved]
      refine (State.validAt_emptyTest (s := s.fetched n seen) (t := filled.replied o.tag .ok (.bandRecord n rec.encode))
        (n := n) (rec := rec) rfl).trans ?_
      simp only [left]
      split <;> rfl
    · refine (State.fillGood_silent (s := s.fetched n seen) (v := (s.fetched n seen).validAt e n rec) hw ?_ rfl).trans ?_
      · simp only [State.serve, State.decidePresentation, hp, if_true]
      · simp only [left]
        split <;> rfl
  · intro s e n rec hc u
    refine ⟨fun h p => ?_, fun l stamp => State.serveAt_commit hc l stamp, fun q tag body i w hfor hasks => ?_⟩
    · exact State.serveAt_silent hc rfl
    · have hbelow : n.val < (s.taken q tag).tableLength := hasks.below
      rw [hfor.exec hasks.takes hasks.service tag, hasks.names]
      exact congrArg (fun t : State => Host.Outcome.next t.arbitrate)
        ((State.bandOp_sent rfl).served e rec ⟨hasks.service, hbelow⟩ hasks.entry hasks.content)
  · intro s seen e n r hin hshut hchecks
    have hs : s.bandService = false := by
      rcases hshut with h | h
      · simp [State.bandService, h]
      · simp [State.bandService, h]
    exact hrun hin ((State.fetchDone_shut hs).trans (State.endWaiters_busy hchecks))
  · intro s seen e n r o st hin hs hdone ho hj u
    have hended {t : State} (ht : (s.fetched n seen).fillDamaged e n = t) (hpart : t.part = s.part) :
        exec (.fetchComplete seen) s = .next t.arbitrate := hrun hin (fetchDone_ended hs hdone hj ht hpart)
    have hposted : u.part = s.part := (s.fetched n seen).post_part .recordDamaged (.band n)
    have hout : u.link.outstanding = some o := (State.post_outstanding _ _ _).trans ho
    refine ⟨fun w hw hi hc => ?_, fun w hw hi => ?_,
      fun serial cls paid credit mask rights hw hserial hcls hpaid hrights hown hcomp hhold hq => ?_⟩
    · refine hended (State.fillDamaged_one (s := s.fetched n seen) hw hi hc) ?_
      exact (State.endedWith_part _ _ _).trans hposted
    · refine hended ((State.fillDamaged_one (s := s.fetched n seen) hw hi rfl).trans ?_) hposted
      have hout' : (((s.fetched n seen).post .recordDamaged (.band n)).dropped e).link.outstanding = some o := hout
      simp only [State.endedWith, hout']
      rfl
    · refine hended ((State.fillDamaged_issue (s := s.fetched n seen) ho hw hserial hcls hpaid hrights hown hcomp
        hhold).trans ?_) hposted
      have hready : (s.fetched n seen).band.port ≠ .fault := PortState.noConfusion
      refine (if_neg hready).trans ?_
      rw [State.validAt_changed (s := (s.fetched n seen).post .recordDamaged (.band n)) hq]
      rfl
  · intro s seen e n r k left held st judged hin hs hpart l u valid emptied cleared removed
    have hpart' : (s.fetched n seen).part = ⟨.starting, false, .ownership k (left + 1) held⟩ := hpart
    have hgood {t : State} {rec : BandRecord} (hj : judged = some rec) (ht : (s.fetched n seen).fillGood e n rec = t)
        (htp : t.part = ⟨.starting, false, .ownership k left held⟩) (hl : 1 ≤ left) :
        exec (.fetchComplete seen) s = .next t.arbitrate :=
      hrun hin (by rw [State.fetchDone_good hs hj, ht, State.advanceOwnership_waits (congrArg Part.startup htp) hl])
    have hbad {t : State} (hj : judged = none) (ht : (s.fetched n seen).fillDamaged e n = t)
        (htp : t.part = ⟨.starting, false, .ownership k left held⟩) (hl : 1 ≤ left) :
        exec (.fetchComplete seen) s = .next t.arbitrate :=
      hrun hin (by rw [State.fetchDone_damaged hs hj, ht, State.advanceOwnership_waits (congrArg Part.startup htp) hl])
    have howner (hw : (s.entry e).waiters = [.ownerCheck k]) (rec : BandRecord) :=
      State.fillGood_check (s := s.fetched n seen) (n := n) (rec := rec) hpart' hw rfl
        (State.checkOwner_only _ k (some rec.state))
    have hcompanion (hw : (s.entry e).waiters = [.companionCheck k]) (rec : BandRecord) :=
      State.fillGood_check (s := s.fetched n seen) (n := n) (rec := rec) hpart' hw rfl
        (State.checkCompanion_only _ k n (some rec.state))
    have hremoved : removed.part = ⟨.starting, false, .ownership k left held⟩ := by
      simp only [removed]
      split <;> rfl
    have hstays {rec : BandRecord} (h : rec.state = .issued ∨ rec.state = .inside ∨ rec.state = .barred) :
        ¬(rec.state = .free ∨ rec.state = .returned) := by
      rintro (h' | h') <;> simp [h'] at h
    refine ⟨fun hl => ⟨fun hw => ⟨fun rec hj hst => ?_, fun rec hj hst => ?_, fun hj => ?_⟩,
      fun hw => ⟨fun rec hj hst => ?_, fun rec hj hst => ?_, fun rec hj hst => ?_, fun hj => ?_⟩⟩,
      fun rec h0 hw hj hst hfit habove => ?_⟩
    · refine hgood hj ((howner hw rec).trans ((if_neg (hstays hst)).trans ?_)) rfl hl
      rw [State.checkOwner_kept hst]
      rfl
    · refine hgood hj ((howner hw rec).trans ((if_pos hst).trans ?_)) rfl hl
      rw [State.checkOwner_cleared (by rintro _ ⟨⟩; exact hst)]
      rfl
    · refine hbad hj ((State.fillDamaged_check (s := s.fetched n seen) hpart' hw rfl rfl
        (State.checkOwner_only _ k none)).trans ?_) ?_ hl
      · rw [State.checkOwner_cleared (by rintro _ ⟨⟩)]
        rfl
      · exact cleared.post_part .recordDamaged (.band n)
    · refine hgood hj ((hcompanion hw rec).trans ((if_neg (hstays (hst.imp_right .inl))).trans ?_)) rfl hl
      rw [State.checkCompanion_kept hst]
      rfl
    · refine hgood hj ((hcompanion hw rec).trans ((if_neg (hstays (.inr (.inr hst)))).trans ?_)) hremoved hl
      rw [State.checkCompanion_removed (by rintro _ ⟨⟩; exact .inl hst)]
      simp only [valid, removed]
      change (if n ∈ l.companions then _ else _ : State).setPart _ = _
      split <;> rfl
    · refine hgood hj ((hcompanion hw rec).trans ((if_pos hst).trans ?_)) hremoved hl
      rw [State.checkCompanion_removed (by rintro _ ⟨⟩; exact .inr hst)]
      simp only [emptied, removed]
      change ((if n ∈ l.companions then _ else _ : State).setPart _).setBand _ = _
      split <;> rfl
    · refine hbad hj ((State.fillDamaged_check (s := s.fetched n seen) hpart' hw rfl rfl
        (State.checkCompanion_only _ k n none)).trans ?_) ?_ hl
      · rw [State.checkCompanion_removed (by rintro _ ⟨⟩)]
        simp only [emptied, removed]
        change ((if n ∈ l.companions then _ else _ : State).setPart _).setBand _ = _
        split <;> rfl
      · exact (removed.post_part .recordDamaged (.band n)).trans hremoved
    · subst h0
      have hfilled : (s.fetched n seen).fillGood e n rec = valid u rec := by
        refine (howner hw rec).trans ((if_neg (hstays hst)).trans ?_)
        rw [State.checkOwner_kept hst]
        rfl
      refine ⟨(valid u rec).advanceOwnership, hrun hin ?_, State.advanceOwnership_applied rfl hfit habove⟩
      rw [State.fetchDone_good hs hj, hfilled]

end Sys2Proof.Machine
end


section
/-!
PROOF. The completion of the writes (R10, R11, R13, R177), and STORE FORMAT with the order of its writes (R177): a write
that completes stores its captured bytes and frees the port, and then the reply that waited on it is sent.
-/

namespace Sys2Proof.Machine

/-! ### The reply that waits on a write (R10, R11) -/

/-- No reply waits on a write of this target that has started. -/
def State.NoReplyOn (s : State) (target : WaitTarget) : Prop :=
  ∀ w, s.band.replyWait = some w → w.target ≠ target ∨ w.started = false

theorem State.replyWritten_waits {s : State} {target : WaitTarget} (h : s.NoReplyOn target) :
    s.replyWritten target = s := by
  unfold State.replyWritten
  split
  · rfl
  · next w hw =>
    refine if_neg fun hboth => ?_
    rcases h w hw with h | h
    · exact h hboth.1
    · exact absurd hboth.2 (by simp [h])

theorem State.replyWritten_sends {s : State} {target : WaitTarget} {data : ReplyData} {o : Outstanding}
    (hw : s.band.replyWait = some ⟨target, data, true⟩) (ho : s.link.outstanding = some o) :
    s.replyWritten target = (s.setBand { s.band with replyWait := none }).replied o.tag .ok data := by
  rw [State.replyWritten, hw]
  exact (if_pos ⟨rfl, rfl⟩).trans (State.reply_outstanding (s := s.setBand { s.band with replyWait := none }) ho .ok data)

/-! ### The writes of records (R10, R11, R13) -/

section
variable {s : State} {r : Bool}

theorem exec_writeComplete_eq {e : EntryNo} {n : BandNo} {bs : List Byte}
    (h : s.band.inFlight = some ⟨.write e n bs, r⟩) :
    exec .writeComplete s = .next (s.writeDone e n bs).arbitrate := by
  have hevent : s.writeEvent = s.writeDone e n bs := by
    rw [State.writeEvent, h]
  exact congrArg (fun t : State => Host.Outcome.next t.arbitrate) hevent

theorem exec_headerWriteComplete_eq {bs : List Byte} (h : s.band.inFlight = some ⟨.headerWrite bs, r⟩) :
    exec .headerWriteComplete s = .next (s.headerWriteDone bs).arbitrate := by
  have hevent : s.headerWriteEvent = s.headerWriteDone bs := by
    rw [State.headerWriteEvent, h]
  exact congrArg (fun t : State => Host.Outcome.next t.arbitrate) hevent

theorem exec_mirrorWriteComplete_eq {k : LockerNo} {a : Nat} {bs : List Byte}
    (h : s.band.inFlight = some ⟨.mirrorWrite k a bs, r⟩) :
    exec .mirrorWriteComplete s = .next ((s.setStore (s.store.write a bs)).portReady).arbitrate := by
  have hevent : s.mirrorWriteEvent = s.mirrorWriteDone a bs := by
    rw [State.mirrorWriteEvent, h]
  exact congrArg (fun t : State => Host.Outcome.next t.arbitrate) hevent

theorem exec_formatWriteComplete_eq {a : Nat} {bs : List Byte} (h : s.band.inFlight = some ⟨.formatWrite a bs, r⟩) :
    exec .formatWriteComplete s = .next (s.formatWriteDone a bs).arbitrate := by
  have hevent : s.formatWriteEvent = s.formatWriteDone a bs := by
    rw [State.formatWriteEvent, h]
  exact congrArg (fun t : State => Host.Outcome.next t.arbitrate) hevent

end

/-- The state in which a completed write stands: its bytes stored, the port READY (R12). -/
def State.stored (s : State) (a : Nat) (bs : List Byte) : State := (s.setStore (s.store.write a bs)).portReady

/-- A WRITE that was the last for its entry: the mark is cleared, the reply sent, the emptying test made (R7, R10). -/
theorem State.writeDone_last {s : State} {e : EntryNo} (h : .write e ∉ s.band.queue) (n : BandNo) (bs : List Byte) :
    s.writeDone e n bs = (((s.stored (bandAddress n) bs).setEntry e { s.entry e with writePending := false }).replyWritten
      (.entry e)).emptyTest e := by
  have hmore : s.band.queue.contains (.write e) = false := by simpa using h
  change (if s.band.queue.contains (.write e) = true then _ else _) = _
  rw [if_neg (Bool.eq_false_iff.mp hmore)]
  change ((if s.band.queue.contains (.write e) = true then _ else _ : State).replyWritten (.entry e)).emptyTest e = _
  rw [if_neg (Bool.eq_false_iff.mp hmore)]
  rfl

/-- Where another WRITE for the entry waits only the reply is sent (R10). -/
theorem State.writeDone_more {s : State} {e : EntryNo} (h : .write e ∈ s.band.queue) (n : BandNo) (bs : List Byte) :
    s.writeDone e n bs = (s.stored (bandAddress n) bs).replyWritten (.entry e) := by
  have hmore : s.band.queue.contains (.write e) = true := by simpa using h
  change (if s.band.queue.contains (.write e) = true then
    (if s.band.queue.contains (.write e) = true then _ else _ : State).replyWritten (.entry e) else _) = _
  rw [if_pos hmore, if_pos hmore]
  rfl

/-! ### The writes of a format (R177) -/

/-- The format goes on to its next write. -/
theorem State.formatWriteDone_next {s : State} {i : Nat} (hf : s.band.format = some (.writing i))
    (hi : i < s.tableLength + 256) (a : Nat) (bs : List Byte) :
    s.formatWriteDone a bs = (s.setStore (s.store.write a bs)).setBand
      { s.band with port := .ready, inFlight := none, format := some (.writing (i + 1)) } := by
  have hf' : (s.stored a bs).band.format = some (.writing i) := hf
  change (match (s.stored a bs).band.format with
    | some (.writing j) => if j < s.tableLength + 256
      then (s.stored a bs).setBand { (s.stored a bs).band with format := some (.writing (j + 1)) } else _
    | _ => s.stored a bs) = _
  rw [hf']
  exact if_pos hi

/-- Behind its last write the cache is emptied and the format replied. -/
theorem State.formatWriteDone_last {s : State} {i : Nat} {o : Outstanding} (hf : s.band.format = some (.writing i))
    (hi : s.tableLength + 256 ≤ i) (ho : s.link.outstanding = some o) (a : Nat) (bs : List Byte) :
    s.formatWriteDone a bs = ((s.setStore (s.store.write a bs)).setBand { s.band with
      port := .ready
      inFlight := none
      cache := Vector.replicate 32 CacheEntry.atReset
      lastUse := []
      format := some .ended }).setLink { s.link with
        replies := s.link.replies ++ [⟨o.tag, .ok, .none, true, true⟩] } := by
  have hf' : (s.stored a bs).band.format = some (.writing i) := hf
  have hgive (t : State) (ht : t.link.outstanding = some o) : t.giveReply .ok .none true =
      t.setLink { t.link with replies := t.link.replies ++ [⟨o.tag, .ok, .none, true, true⟩] } := by
    rw [State.giveReply, ht]
  change (match (s.stored a bs).band.format with
    | some (.writing j) => if j < s.tableLength + 256 then _ else State.giveReply _ .ok .none true
    | _ => s.stored a bs) = _
  rw [hf']
  exact (if_neg (by omega)).trans (hgive _ ho)

/-- Settles O32. -/
theorem writesComplete : Obligations.WritesComplete := by
  unfold Obligations.WritesComplete
  refine ⟨?_, fun s r => ⟨fun bs hin => ⟨fun o data ho hw => ?_, fun hwait => ?_⟩,
    fun k a bs hin => exec_mirrorWriteComplete_eq hin, fun a bs i hin hf => ⟨fun hi => ?_, fun o hi ho => ?_⟩⟩⟩
  · intro s e n bs r hin u clear waits
    refine ⟨fun hq hwait => ?_, fun hq hwait => ?_, fun o data hw ho => ⟨fun hq => ?_, fun hq => ?_⟩⟩
    · rw [exec_writeComplete_eq hin, State.writeDone_last hq, State.replyWritten_waits (by exact hwait)]
      rfl
    · rw [exec_writeComplete_eq hin, State.writeDone_more hq, State.replyWritten_waits (by exact hwait)]
      rfl
    · rw [exec_writeComplete_eq hin, State.writeDone_last hq, State.replyWritten_sends (by exact hw) (by exact ho)]
      rfl
    · rw [exec_writeComplete_eq hin, State.writeDone_more hq, State.replyWritten_sends (by exact hw) (by exact ho)]
      rfl
  · rw [exec_headerWriteComplete_eq hin, State.headerWriteDone, State.replyWritten_sends (by exact hw) (by exact ho)]
    rfl
  · rw [exec_headerWriteComplete_eq hin, State.headerWriteDone, State.replyWritten_waits (by exact hwait)]
    rfl
  · rw [exec_formatWriteComplete_eq hin, State.formatWriteDone_next hf hi]
  · rw [exec_formatWriteComplete_eq hin, State.formatWriteDone_last hf hi ho]

/-! ### STORE FORMAT at its service (R177) -/

theorem tableUnitsOf_none {n : Nat} (h : n < 256 ∨ 2048 < n ∨ n % 256 ≠ 0) : tableUnitsOf n = none := by
  unfold tableUnitsOf
  split
  · exact inRangeOf_of_le (by omega)
  · rfl

theorem tableUnitsOf_units (units : Fin 8) : tableUnitsOf (256 * (units.val + 1)) = some units := by
  rw [tableUnitsOf, if_pos (by omega), show 256 * (units.val + 1) / 256 - 1 = units.val by omega]
  exact inRangeOf_val units

/-- A port in FAULT becomes READY with fairness count 0, any other stays (R17, R177). -/
theorem State.leaveFault_eq (s : State) : s.leaveFault = s.setBand { s.band with
    port := if s.band.port = .fault then .ready else s.band.port
    fairness := if s.band.port = .fault then 0 else s.band.fairness } := by
  unfold State.leaveFault
  split
  · rfl
  · rfl

/-- Ends without a service do not meet the band unit. -/
theorem State.foldl_endedWith_setBand (ws : List Waiter) (res : Result) (s : State) (b : BandUnit) :
    ws.foldl (fun t w => t.endedWith res w) (s.setBand b) = (ws.foldl (fun t w => t.endedWith res w) s).setBand b := by
  induction ws generalizing s with
  | nil => rfl
  | cons w ws ih => rw [List.foldl_cons, List.foldl_cons, State.endedWith_setBand, ih]

theorem State.foldl_endedWith_band (ws : List Waiter) (res : Result) (s : State) :
    (ws.foldl (fun t w => t.endedWith res w) s).band = s.band := by
  induction ws generalizing s with
  | nil => rfl
  | cons w ws ih => rw [List.foldl_cons, ih, State.endedWith_band]

theorem State.droppedBusy_band (s : State) (e : EntryNo) : (s.droppedBusy e).band = (s.dropped e).band :=
  State.foldl_endedWith_band _ .busy (s.dropped e)

/-- The queue may be emptied before an entry is or behind it. -/
theorem State.droppedBusy_emptyQueue (s : State) (e : EntryNo) :
    (s.setBand { s.band with queue := [] }).droppedBusy e =
      (s.droppedBusy e).setBand { (s.droppedBusy e).band with queue := [] } := by
  rw [State.droppedBusy_band]
  exact State.foldl_endedWith_setBand (s.entry e).waiters .busy (s.dropped e) { (s.dropped e).band with queue := [] }

theorem State.foldl_droppedBusy_emptyQueue (es : List EntryNo) (s : State) :
    es.foldl State.droppedBusy (s.setBand { s.band with queue := [] }) =
      (es.foldl State.droppedBusy s).setBand { (es.foldl State.droppedBusy s).band with queue := [] } := by
  induction es generalizing s with
  | nil => rfl
  | cons e es ih =>
    have hband : (s.setBand { s.band with queue := [] }).droppedBusy e =
        (s.droppedBusy e).setBand { (s.droppedBusy e).band with queue := [] } := s.droppedBusy_emptyQueue e
    rw [List.foldl_cons, hband, ih, List.foldl_cons]

/-- Entries emptied one after another, where no ownership check waits at one. -/
theorem State.foldl_endWaiters_busy {es : List EntryNo} {s : State}
    (h : ∀ e ∈ es, ∀ w ∈ (s.entry e).waiters, w.isCheck = false) :
    es.foldl (fun t e => t.endWaiters e .busy) s = es.foldl State.droppedBusy s := by
  induction es generalizing s with
  | nil => rfl
  | cons e es ih =>
    rw [List.foldl_cons, List.foldl_cons, State.endWaiters_busy (h e (by simp))]
    refine ih fun f hf w hw => ?_
    have hentry : (s.droppedBusy e).entry f = if e = f then CacheEntry.atReset else s.entry f := by
      rw [← State.setEntry_entry, State.entry, s.droppedBusy_band]
      rfl
    rw [hentry] at hw
    split at hw
    · cases hw
    · exact h f (by simp [hf]) w hw

/-- The FETCHes of a queue that is emptied end BUSY (R177). -/
theorem State.endFetches_emptyQueue {s : State}
    (h : ∀ e ∈ fetchesOf s.band.queue, ∀ w ∈ (s.entry e).waiters, w.isCheck = false) :
    (s.endFetches .busy).setBand { (s.endFetches .busy).band with queue := [] } =
      (fetchesOf s.band.queue).foldl State.droppedBusy (s.setBand { s.band with queue := [] }) := by
  rw [State.endFetches_eq, State.foldl_endWaiters_busy (by exact h), ← State.foldl_droppedBusy_emptyQueue]
  rfl

/-- The service of a STORE FORMAT with a table length in range. -/
theorem State.beginFormat_eq {s : State} (h : ∀ e ∈ fetchesOf s.band.queue, ∀ w ∈ (s.entry e).waiters, w.isCheck = false)
    (units : Fin 8) :
    let ended := (fetchesOf s.band.queue).foldl State.droppedBusy
      ((s.setSettings { s.settings with tableUnits := units }).setBand { s.band with
        queue := []
        format := some .draining
        port := if s.band.port = .fault then .ready else s.band.port
        fairness := if s.band.port = .fault then 0 else s.band.fairness })
    s.beginFormat units = ended.setLockers { ended.lockers with
      table := ended.lockers.table.map (fun l => { l with dirty := false }) } := by
  intro ended
  let v : State := (s.leaveFault.setSettings { s.settings with tableUnits := units }).setBand
    { s.leaveFault.band with format := some .draining }
  have hv : v = (s.setSettings { s.settings with tableUnits := units }).setBand { s.band with
      format := some .draining
      port := if s.band.port = .fault then .ready else s.band.port
      fairness := if s.band.port = .fault then 0 else s.band.fairness } := by
    simp only [v, State.leaveFault_eq]
    rfl
  have hqueue : v.band.queue = s.band.queue := by rw [hv]; rfl
  have hentry (e : EntryNo) : v.entry e = s.entry e := by rw [hv]; rfl
  have hended : (v.endFetches .busy).setBand { (v.endFetches .busy).band with queue := [] } = ended := by
    rw [State.endFetches_emptyQueue (by simpa only [hqueue, hentry] using h), hqueue, hv]
    rfl
  rw [← hended]
  rfl

/-- Settles O33. -/
theorem storeFormats : Obligations.StoreFormats := by
  unfold Obligations.StoreFormats
  refine ⟨fun s tag body ht => ?_, fun s hp hf hdone => ⟨fun h => ?_, fun n hn h => ?_, fun k h => ?_⟩⟩
  · intro u
    have hserve (units : Fin 8) (h : argWord body 0 = 256 * (units.val + 1)) :
        exec (.storeFormat tag body) s = .next (u.beginFormat units).arbitrate := by
      refine (State.takes.exec ht tag).trans ?_
      change Host.Outcome.next ((s.taken .storeFormat tag).serveStoreFormat body).arbitrate = _
      rw [State.serveStoreFormat, h, tableUnitsOf_units]
    refine ⟨fun h => ?_, fun units h hq => ?_, fun units h hchecks => ?_⟩
    · refine (State.takes.exec ht tag).trans ?_
      change Host.Outcome.next ((s.taken .storeFormat tag).serveStoreFormat body).arbitrate = _
      rw [State.serveStoreFormat, tableUnitsOf_none h]
      exact congrArg (fun t : State => Host.Outcome.next t.arbitrate) (s.taken_answer .storeFormat tag .range)
    · have hnone : fetchesOf u.band.queue = [] :=
        List.eq_nil_iff_forall_not_mem.mpr fun e he => hq e (mem_fetchesOf.mp he)
      rw [hserve units h, State.beginFormat_eq (by simp [hnone]), hnone]
      rfl
    · intro fetches ended
      rw [hserve units h, State.beginFormat_eq (s := u) fun e _ w hw => hchecks e w hw]
      rfl
  · rw [State.arbitrate_band]
    simp [State.choosePort, hp, hf, hdone, h, State.startFormatWrite, State.formatTransfer, State.startTransfer]
  · have hlt : n < 2048 := by
      have htable : s.tableLength ≤ 2048 := by
        have := s.settings.tableUnits.isLt
        simp only [State.tableLength, Settings.tableLength]
        omega
      omega
    have hband : bandAddress (bandNoOf n) = 256 + 32 * n := by
      simp [bandAddress, bandNoOf, Nat.mod_eq_of_lt hlt]
    have htransfer : s.formatTransfer (n + 1) = .formatWrite (256 + 32 * n) (List.replicate 32 0) := by
      rw [State.formatTransfer, if_neg (by omega), if_pos (by omega), Nat.add_sub_cancel, hband]
    have hchosen : s.choosePort = s.startFormatWrite (n + 1) := by
      simp [State.choosePort, hp, hf, hdone, h]
    rw [State.arbitrate_band, hchosen, State.startFormatWrite, htransfer, ← h]
    rfl
  · have hmirror : (Fin.ofNat 256 (s.tableLength + 1 + k.val - 1 - s.tableLength) : LockerNo) = k := by
      apply Fin.ext
      simp only [Fin.val_ofNat]
      omega
    have htransfer : s.formatTransfer (s.tableLength + 1 + k.val) =
        .formatWrite (256 + 32 * s.tableLength + 16 * k.val) (MirrorImage.encode ⟨.vacant, none, []⟩) := by
      rw [State.formatTransfer, if_neg (by omega), if_neg (by omega), hmirror, mirrorAddress]
    have hchosen : s.choosePort = s.startFormatWrite (s.tableLength + 1 + k.val) := by
      simp [State.choosePort, hp, hf, hdone, h]
    rw [State.arbitrate_band, hchosen, State.startFormatWrite, htransfer, ← h]
    rfl

end Sys2Proof.Machine
end


section
/-!
PROOF. A transfer without response (R14, R15): the first time it starts again, the second time the port is in FAULT.
Start-up's reads then end in NO_STORE. Past them the failed request goes by its kind, the queued FETCHes end, the reply
that waits on a held write is given, and a format ends; each of these leaves what the next of them reads.
-/

namespace Sys2Proof.Machine

/-! ### The outstanding request behind an end without a service -/

section
variable (s : State)

@[simp] theorem State.placeVerdict_outstanding (h : HeadNo) (v : Verdict) :
    (s.placeVerdict h v).link.outstanding = s.link.outstanding := by
  unfold State.placeVerdict
  split <;> rfl

@[simp] theorem State.conclude_outstanding (h : HeadNo) (p : Presentation) (v : Verdict) (party : Party) :
    (s.conclude h p v party).link.outstanding = s.link.outstanding := by
  have hslot : ((s.placeVerdict h v).setSlot h (some { p with decided := true })).link.outstanding =
      s.link.outstanding := s.placeVerdict_outstanding h v
  cases v with
  | grant => exact hslot
  | cancelled => exact hslot
  | refuse r =>
    simp only [State.conclude]
    rw [← hslot]
    generalize (s.placeVerdict h (.refuse r)).setSlot h (some { p with decided := true }) = t
    have hjournal : (t.journalRefusal (headTarget h) p party r).link.outstanding = t.link.outstanding := by
      unfold State.journalRefusal
      split
      · exact t.journalClosed_outstanding ..
      · rfl
    rw [← hjournal]
    generalize t.journalRefusal (headTarget h) p party r = u
    unfold State.ejectForRefusal
    repeat' split
    all_goals rfl

theorem State.endedWith_outstanding (res : Result) (w : Waiter) :
    (s.endedWith res w).link.outstanding = s.link.outstanding := by
  cases w with
  | lookup h p =>
    simp only [State.endedWith]
    split
    · rfl
    · exact s.conclude_outstanding h p _ _
  | request r => simp only [State.endedWith]; split <;> rfl
  | commit l stamp => simp only [State.endedWith]; split <;> rfl
  | ownerCheck k => rfl
  | companionCheck k => rfl

theorem State.droppedBusy_outstanding (e : EntryNo) : (s.droppedBusy e).link.outstanding = s.link.outstanding :=
  State.foldl_outstanding _ (fun t w => t.endedWith_outstanding .busy w) _ (s.dropped e)

theorem State.foldl_endedWith_part (ws : List Waiter) (res : Result) :
    (ws.foldl (fun t w => t.endedWith res w) s).part = s.part := by
  induction ws generalizing s with
  | nil => rfl
  | cons w ws ih => rw [List.foldl_cons, ih, State.endedWith_part]

theorem State.droppedBusy_part (e : EntryNo) : (s.droppedBusy e).part = s.part := (s.dropped e).foldl_endedWith_part _ .busy

end

/-! ### The stages of a second failure (R15) -/

/-- The port in FAULT, with STORE_FAULT posted (R15). -/
def State.faulted (s : State) : State :=
  (s.setBand { s.band with port := .fault, inFlight := none }).post .storeFault .none

section
variable {s : State} {x : Transfer}

/-- The first time the transfer is started again (R14). -/
theorem exec_transferTimeout_again (h : s.band.inFlight = some ⟨x, false⟩) :
    exec .transferTimeout s = .next (s.setBand { s.band with inFlight := some ⟨x, true⟩ }).arbitrate := by
  have hevent : s.transferTimeout = s.setBand { s.band with inFlight := some ⟨x, true⟩ } := by
    rw [State.transferTimeout, h]
    rfl
  exact congrArg (fun t : State => Host.Outcome.next t.arbitrate) hevent

theorem exec_transferTimeout_failed (h : s.band.inFlight = some ⟨x, true⟩) :
    exec .transferTimeout s = .next (s.secondFailure x).arbitrate := by
  have hevent : s.transferTimeout = s.secondFailure x := by
    rw [State.transferTimeout, h]
    rfl
  exact congrArg (fun t : State => Host.Outcome.next t.arbitrate) hevent

theorem Startup.reading_eq_true {u : Startup} (h : u ≠ .establishing) (h' : u ≠ .done) : u.reading = true := by
  cases u <;> first | rfl | contradiction

theorem State.faulted_part (s : State) : s.faulted.part = s.part :=
  (s.setBand { s.band with port := .fault, inFlight := none }).post_part .storeFault .none

theorem State.faulted_outstanding (s : State) : s.faulted.link.outstanding = s.link.outstanding :=
  (s.setBand { s.band with port := .fault, inFlight := none }).post_outstanding .storeFault .none

/-- While start-up reads, the second failure ends in NO_STORE (R172 to R176). -/
theorem State.secondFailure_reading (h : s.part.startup ≠ .establishing) (h' : s.part.startup ≠ .done) :
    s.secondFailure x = s.faulted.enterNoStore := by
  have hreading : s.faulted.part.startup.reading = true := by
    rw [s.faulted_part]
    exact Startup.reading_eq_true h h'
  exact if_pos hreading

/-- Past start-up's reads: by the failed request's kind and the queued FETCHes first. -/
theorem State.secondFailure_past {t : State} (h : s.part.startup = .establishing ∨ s.part.startup = .done)
    (ht : (s.faulted.failByKind x).endFetches (if s.bandService then .store else .busy) = t) :
    s.secondFailure x =
      if t.replyHeld.endFormat.part.winding then t.replyHeld.endFormat.discardHeld else t.replyHeld.endFormat := by
  have hreading : ¬s.faulted.part.startup.reading = true := by
    rw [s.faulted_part]
    rcases h with h | h <;> simp [h, Startup.reading]
  have hservice : s.faulted.bandService = s.bandService := by
    simp only [State.bandService, s.faulted_part]
    rfl
  subst ht
  rw [← hservice]
  exact if_neg hreading

/-! ### The reply that waits, and the format (R15, R177) -/

theorem State.replyHeld_none (h : s.band.replyWait = none) : s.replyHeld = s := by
  rw [State.replyHeld, h]

theorem State.replyHeld_some {w : ReplyWait} {o : Outstanding} (hw : s.band.replyWait = some w)
    (ho : s.link.outstanding = some o) :
    s.replyHeld = (s.setBand { s.band with replyWait := none }).replied o.tag .store w.data := by
  rw [State.replyHeld, hw]
  exact State.reply_outstanding (s := s.setBand { s.band with replyWait := none }) ho .store w.data

@[simp] theorem State.replyHeld_part (s : State) : s.replyHeld.part = s.part := by
  unfold State.replyHeld
  split
  · rfl
  · exact State.giveReply_part _ _ _ _

theorem State.replyHeld_format (s : State) : s.replyHeld.band.format = s.band.format := by
  unfold State.replyHeld
  split
  · rfl
  · unfold State.reply State.giveReply
    split <;> rfl

theorem State.endFormat_none (h : s.band.format = none) : s.endFormat = s := by
  rw [State.endFormat, h]

/-- A format under way ends, and is replied STORE (R177). -/
theorem State.endFormat_running {o : Outstanding} (h : s.band.format = some .draining ∨ ∃ i, s.band.format = some (.writing i))
    (ho : s.link.outstanding = some o) :
    s.endFormat = (s.setBand { s.band with format := some .ended }).setLink { s.link with
      replies := s.link.replies ++ [⟨o.tag, .store, .none, true, true⟩] } := by
  have hgive : (s.setBand { s.band with format := some .ended }).giveReply .store .none true =
      (s.setBand { s.band with format := some .ended }).setLink { s.link with
        replies := s.link.replies ++ [⟨o.tag, .store, .none, true, true⟩] } := by
    have ho' : (s.setBand { s.band with format := some .ended }).link.outstanding = some o := ho
    rw [State.giveReply, ho']
    rfl
  rcases h with h | ⟨i, h⟩
  · rw [State.endFormat, h]
    exact hgive
  · rw [State.endFormat, h]
    exact hgive

/-- With no format and no winding down the reply that waits is the last that changes. -/
theorem State.secondFailure_replied {t : State} (h : s.part.startup = .establishing ∨ s.part.startup = .done)
    (hwinding : s.part.winding = false) (hformat : s.band.format = none)
    (ht : (s.faulted.failByKind x).endFetches .store = t) (hpart : t.part = s.part) (hf : t.band.format = none) :
    s.secondFailure x = t.replyHeld := by
  have hservice : s.bandService = true := by simp [State.bandService, hwinding, hformat]
  have ht' : (s.faulted.failByKind x).endFetches (if s.bandService then .store else .busy) = t := by
    rw [hservice]
    exact ht
  rw [State.secondFailure_past h ht', State.endFormat_none (by rw [t.replyHeld_format, hf]), State.replyHeld_part, hpart, hwinding]
  rfl

/-- Behind a format under way it is the format's reply. -/
theorem State.secondFailure_formatEnded {t : State} (h : s.part.startup = .establishing ∨ s.part.startup = .done)
    (hwinding : s.part.winding = false) (hformat : s.band.format.isSome = true)
    (ht : (s.faulted.failByKind x).endFetches .busy = t) (hpart : t.part = s.part) (hr : t.band.replyWait = none)
    {o : Outstanding} (hf : t.band.format = some .draining ∨ ∃ i, t.band.format = some (.writing i))
    (ho : t.link.outstanding = some o) :
    s.secondFailure x = (t.setBand { t.band with format := some .ended }).setLink { t.link with
      replies := t.link.replies ++ [⟨o.tag, .store, .none, true, true⟩] } := by
  have hservice : s.bandService = false := by
    rcases hs : s.band.format with _ | f
    · rw [hs] at hformat; cases hformat
    · simp [State.bandService, hs]
  have ht' : (s.faulted.failByKind x).endFetches (if s.bandService then .store else .busy) = t := by
    rw [hservice]
    exact ht
  rw [State.secondFailure_past h ht', State.replyHeld_none hr, State.endFormat_running hf ho]
  have hnot : ¬t.part.winding = true := by rw [hpart, hwinding]; exact Bool.false_ne_true
  exact if_neg hnot

end

/-! ### The queued FETCHes (R15) -/

/-- With none queued nothing ends. -/
theorem State.endFetches_none {s : State} (h : ∀ e, .fetch e ∉ s.band.queue) (res : Result) : s.endFetches res = s := by
  have hnone : fetchesOf s.band.queue = [] :=
    List.eq_nil_iff_forall_not_mem.mpr fun e he => h e (mem_fetchesOf.mp he)
  have hrest : withoutFetches s.band.queue = s.band.queue := by
    rw [withoutFetches_eq]
    refine List.filter_eq_self.mpr fun q hq => decide_eq_true fun e he => h e (he ▸ hq)
  rw [State.endFetches_eq, hnone, hrest]
  rfl

/-- With one queued it leaves, and its waiters end. -/
theorem State.endFetches_one {s : State} {before behind : List PortRequest} {e : EntryNo}
    (hq : s.band.queue = before ++ .fetch e :: behind) (h : ∀ f, .fetch f ∉ before ++ behind) (res : Result) :
    s.endFetches res = (s.setBand { s.band with queue := before ++ behind }).endWaiters e res := by
  have hnone (l : List PortRequest) (hl : ∀ f, .fetch f ∉ l) : fetchesOf l = [] :=
    List.eq_nil_iff_forall_not_mem.mpr fun f hf => hl f (mem_fetchesOf.mp hf)
  have hkeep (l : List PortRequest) (hl : ∀ f, .fetch f ∉ l) : withoutFetches l = l := by
    rw [withoutFetches_eq]
    exact List.filter_eq_self.mpr fun q hq => decide_eq_true fun f hf => hl f (hf ▸ hq)
  have hbefore (f : EntryNo) : .fetch f ∉ before := fun hf => h f (List.mem_append_left _ hf)
  have hbehind (f : EntryNo) : .fetch f ∉ behind := fun hf => h f (List.mem_append_right _ hf)
  have hfetches : fetchesOf (before ++ .fetch e :: behind) = [e] := by
    have hsplit : fetchesOf (before ++ .fetch e :: behind) = fetchesOf before ++ e :: fetchesOf behind := by
      simp [fetchesOf]
    rw [hsplit, hnone _ hbefore, hnone _ hbehind]
    rfl
  have hrest : withoutFetches (before ++ .fetch e :: behind) = before ++ behind := by
    have hsplit : withoutFetches (before ++ .fetch e :: behind) = withoutFetches before ++ withoutFetches behind := by
      simp [withoutFetches]
    rw [hsplit, hkeep _ hbefore, hkeep _ hbehind]
  rw [State.endFetches_eq, hq, hfetches, hrest]
  rfl

theorem fetch_notMem_held {q : List PortRequest} (h : ∀ e, .fetch e ∉ q) {r : PortRequest} (hr : ∀ e, r ≠ .fetch e)
    (e : EntryNo) : .fetch e ∉ r :: q.filter (fun p => p ≠ r) := by
  intro he
  rcases List.mem_cons.mp he with he | he
  · exact hr e he.symm
  · exact h e (List.mem_of_mem_filter he)

/-! ### The failed request by its kind (R15) -/

/-- A presentation that ends STORE is refused so, unless it is superseded (R27, R31). -/
theorem State.endedWith_lookup (s : State) (h : HeadNo) (p : Presentation) :
    s.endedWith .store (.lookup h p) =
      if p.superseded = true then s else s.conclude h p (.refuse .store) .owner := rfl

/-- A commit that ends STORE is abandoned (R131). -/
theorem State.endedWith_commit (s : State) (l : LaneNo) (stamp : Stamp) :
    s.endedWith .store (.commit l stamp) = s.setLane l { s.lane l with commit := none } := by
  simp only [State.endedWith]
  split
  · rfl
  · next h =>
    have hsame : ({ s.lane l with commit := none } : Lane) = s.lane l := by rw [← h]
    rw [hsame, State.setLane_self]

/-- A request that ends STORE is replied so (R18). -/
theorem State.endedWith_request {s : State} {o : Outstanding} (ho : s.link.outstanding = some o) (w : BandRequest) :
    s.endedWith .store (.request w) = s.replied o.tag .store .none := by
  simp only [State.endedWith, ho]

/-- The one waiter of an entry that is emptied ends, where it is no ownership check. -/
theorem State.endWaiters_one {s : State} {e : EntryNo} {w : Waiter} (hw : (s.entry e).waiters = [w])
    (hc : w.isCheck = false) (res : Result) : s.endWaiters e res = (s.dropped e).endedWith res w := by
  rw [State.endWaiters_eq (by simp [hw, hc]), hw]
  rfl

section
variable {s : State}

/-- What stands in FAULT past the reads of start-up, with no format: the port's own failure changes neither the part
nor the outstanding request, so the reply that waits is the last to come. -/
theorem State.secondFailure_kept {x : Transfer} {t : State} (h : s.part.startup = .establishing ∨ s.part.startup = .done)
    (hwinding : s.part.winding = false) (hformat : s.band.format = none) (hq : ∀ e, .fetch e ∉ t.band.queue)
    (ht : s.faulted.failByKind x = t) (hpart : t.part = s.part) (hf : t.band.format = none) :
    s.secondFailure x = t.replyHeld :=
  State.secondFailure_replied h hwinding hformat (by rw [ht, State.endFetches_none hq]) hpart hf

theorem State.secondFailure_write (h : s.part.startup = .establishing ∨ s.part.startup = .done)
    (hwinding : s.part.winding = false) (hformat : s.band.format = none) (hq : ∀ e, .fetch e ∉ s.band.queue)
    (e : EntryNo) (n : BandNo) (bs : List Byte) : s.secondFailure (.write e n bs) =
      (s.faulted.setBand { s.faulted.band with
        queue := .write e :: s.band.queue.filter (fun q => q ≠ .write e) }).replyHeld :=
  State.secondFailure_kept h hwinding hformat (fetch_notMem_held hq fun _ => PortRequest.noConfusion) rfl s.faulted_part
    hformat

theorem State.secondFailure_headerWrite (h : s.part.startup = .establishing ∨ s.part.startup = .done)
    (hwinding : s.part.winding = false) (hformat : s.band.format = none) (hq : ∀ e, .fetch e ∉ s.band.queue)
    (bs : List Byte) : s.secondFailure (.headerWrite bs) =
      (s.faulted.setBand { s.faulted.band with
        queue := .headerWrite :: s.band.queue.filter (fun q => q ≠ .headerWrite) }).replyHeld :=
  State.secondFailure_kept h hwinding hformat (fetch_notMem_held hq fun _ => PortRequest.noConfusion) rfl s.faulted_part
    hformat

theorem State.secondFailure_mirrorWrite (h : s.part.startup = .establishing ∨ s.part.startup = .done)
    (hwinding : s.part.winding = false) (hformat : s.band.format = none) (hq : ∀ e, .fetch e ∉ s.band.queue)
    (k : LockerNo) (a : Nat) (bs : List Byte) : s.secondFailure (.mirrorWrite k a bs) =
      (s.faulted.setLocker k { s.locker k with dirty := true }).replyHeld :=
  State.secondFailure_kept h hwinding hformat hq rfl s.faulted_part hformat

/-- A MIRROR WRITE fails with one FETCH queued behind it: its waiter ends STORE as well. -/
theorem State.secondFailure_mirrorWrite_fetch (h : s.part.startup = .establishing ∨ s.part.startup = .done)
    (hwinding : s.part.winding = false) (hformat : s.band.format = none) (hwait : s.band.replyWait = none)
    {before behind : List PortRequest} {e : EntryNo} (hq : s.band.queue = before ++ .fetch e :: behind)
    (hrest : ∀ f, .fetch f ∉ before ++ behind) {w : Waiter} (hw : (s.entry e).waiters = [w]) (hc : w.isCheck = false)
    (k : LockerNo) (a : Nat) (bs : List Byte) :
    s.secondFailure (.mirrorWrite k a bs) = ((s.faulted.setBand { s.faulted.band with
      cache := s.band.cache.set e.val CacheEntry.atReset
      lastUse := s.band.lastUse.filter (fun f => f ≠ e)
      queue := before ++ behind }).setLockers { s.lockers with
        table := s.lockers.table.set k.val { s.locker k with dirty := true } }).endedWith .store w := by
  let t : State := s.faulted.setLocker k { s.locker k with dirty := true }
  have hone : t.endFetches .store = (t.setBand { t.band with queue := before ++ behind }).endWaiters e .store :=
    State.endFetches_one (s := t) hq hrest .store
  rw [State.endWaiters_one (by exact hw) hc .store] at hone
  have hfailed := State.secondFailure_replied (x := .mirrorWrite k a bs) h hwinding hformat hone
    ((State.endedWith_part _ .store w).trans s.faulted_part) (by rw [State.endedWith_band]; exact hformat)
  rw [hfailed, State.replyHeld_none (by rw [State.endedWith_band]; exact hwait)]
  rfl

/-- A FETCH fails: its waiter ends STORE. -/
theorem State.secondFailure_fetch (h : s.part.startup = .establishing ∨ s.part.startup = .done)
    (hwinding : s.part.winding = false) (hformat : s.band.format = none) (hq : ∀ e, .fetch e ∉ s.band.queue)
    {e : EntryNo} {w : Waiter} (hw : (s.entry e).waiters = [w]) (hc : w.isCheck = false) (n : BandNo) :
    s.secondFailure (.fetch e n) = ((s.faulted.dropped e).endedWith .store w).replyHeld := by
  have hservice : s.faulted.bandService = true := by
    have : s.faulted.band.format = none := hformat
    simp [State.bandService, this, s.faulted_part, hwinding]
  refine State.secondFailure_kept h hwinding hformat ?_ ?_ ?_ ?_
  · rw [State.endedWith_band]
    exact hq
  · simp only [State.failByKind, hservice, if_true]
    exact State.endWaiters_one (s := s.faulted) hw hc .store
  · exact (State.endedWith_part _ .store w).trans s.faulted_part
  · rw [State.endedWith_band]
    exact hformat

/-- A FETCH fails where the band unit takes no operations: its waiters end BUSY (log 47). -/
theorem State.failByKind_shut {e : EntryNo} (hs : s.bandService = false)
    (hw : ∀ w ∈ (s.entry e).waiters, w.isCheck = false) (n : BandNo) :
    s.faulted.failByKind (.fetch e n) = s.faulted.droppedBusy e := by
  have hservice : s.faulted.bandService = false := by
    rw [← hs]
    simp only [State.bandService, s.faulted_part]
    rfl
  simp only [State.failByKind, hservice]
  exact State.endWaiters_busy hw

end

/-- Settles O34. -/
theorem noResponse : Obligations.NoResponse := by
  intro s x
  have hrun {t : State} (hin : s.band.inFlight = some ⟨x, true⟩) (h : s.secondFailure x = t) :
      exec .transferTimeout s = .next t.arbitrate := (exec_transferTimeout_failed hin).trans (by rw [h])
  refine ⟨exec_transferTimeout_again, fun hin hest hdone => ?_, fun hin hstage hwinding => ?_,
    fun e n hin hstage hwinding hformat hr hq hw => ?_⟩
  · obtain ⟨hpart, hband, hsettings, hlocker, -, -, hlink, hstore, -⟩ := s.faulted.enterNoStore_spec
    exact ⟨_, hrun hin (State.secondFailure_reading hest hdone), hpart, hband, hsettings, hlocker, hlink, hstore⟩
  · intro u answered
    have hout : u.link.outstanding = s.link.outstanding := s.faulted_outstanding
    have hanswer {t : State} (hw : t.band.replyWait = s.band.replyWait) (ho : t.link.outstanding = s.link.outstanding)
        (h : s.band.replyWait.isSome = true → s.link.outstanding.isSome = true) : t.replyHeld = answered t := by
      simp only [answered]
      rcases hwait : s.band.replyWait with _ | w
      · exact State.replyHeld_none (hw.trans hwait)
      · rcases hreq : s.link.outstanding with _ | o
        · rw [hwait, hreq] at h
          exact absurd (h rfl) Bool.false_ne_true
        · exact State.replyHeld_some (hw.trans hwait) (ho.trans hreq)
    refine ⟨fun hformat hwait hreq hq => ⟨?_, ?_, ?_⟩, fun e n hformat hreq hq hx => ⟨fun h p hw => ?_, fun l stamp hw => ?_⟩,
      fun hformat hwait hq => ⟨?_, ?_, ?_, ?_⟩, ?_, ?_, ?_⟩
    · rintro e n bs rfl
      exact hrun hin ((State.secondFailure_write hstage hwinding hformat hq e n bs).trans
        (hanswer rfl hout fun _ => hreq))
    · rintro bs rfl
      exact hrun hin ((State.secondFailure_headerWrite hstage hwinding hformat hq bs).trans
        (hanswer rfl hout fun _ => hreq))
    · rintro k a bs rfl
      exact hrun hin ((State.secondFailure_mirrorWrite hstage hwinding hformat hq k a bs).trans
        (hanswer rfl hout fun _ => hreq))
    · subst hx
      have hband := congrArg BandUnit.replyWait ((u.dropped e).endedWith_band .store (.lookup h p))
      have hout' := ((u.dropped e).endedWith_outstanding .store (.lookup h p)).trans hout
      rw [← State.endedWith_lookup, ← hanswer hband hout' hreq]
      exact hrun hin (State.secondFailure_fetch hstage hwinding hformat hq hw rfl n)
    · subst hx
      rw [hrun hin (State.secondFailure_fetch hstage hwinding hformat hq hw rfl n), State.endedWith_commit]
      exact congrArg (fun t : State => Host.Outcome.next t.arbitrate) (hanswer rfl hout hreq)
    · rintro e n o w rfl ho hw
      rw [hrun hin (State.secondFailure_fetch hstage hwinding hformat hq hw rfl n),
        State.endedWith_request (by exact hout.trans ho), State.replyHeld_none (by exact hwait)]
      rfl
    · rintro e n bs rfl
      exact hrun hin ((State.secondFailure_write hstage hwinding hformat hq e n bs).trans
        (State.replyHeld_none hwait))
    · rintro bs rfl
      exact hrun hin ((State.secondFailure_headerWrite hstage hwinding hformat hq bs).trans
        (State.replyHeld_none hwait))
    · rintro k a bs rfl
      exact hrun hin ((State.secondFailure_mirrorWrite hstage hwinding hformat hq k a bs).trans
        (State.replyHeld_none hwait))
    · intro k a bs e before behind hformat hwait hx hq hrest emptied
      subst hx
      have hended {w : Waiter} (hw : (s.entry e).waiters = [w]) (hc : w.isCheck = false) :
          exec .transferTimeout s = .next (emptied.endedWith .store w).arbitrate :=
        hrun hin (State.secondFailure_mirrorWrite_fetch hstage hwinding hformat hwait hq hrest hw hc k a bs)
      refine ⟨fun o w ho hw => ?_, fun h p hw => ?_, fun l stamp hw => ?_⟩
      · have hout' : emptied.link.outstanding = some o := hout.trans ho
        rw [hended hw rfl, State.endedWith_request hout']
      · rw [hended hw rfl, State.endedWith_lookup]
      · rw [hended hw rfl, State.endedWith_commit]
        rfl
    · intro e n o hx hformat hwait hq hw ho t
      subst hx
      have hshut : s.bandService = false := by simp [State.bandService, hformat]
      have hband : t.band = (u.dropped e).band := u.droppedBusy_band e
      refine hrun hin (State.secondFailure_formatEnded (t := t) hstage hwinding (by rw [hformat]; rfl) ?_ ?_ ?_
        (.inl ?_) ?_)
      · rw [State.failByKind_shut hshut fun w h => (hw w h).1, State.endFetches_none]
        · rfl
        · intro f
          rw [State.droppedBusy_band]
          exact hq f
      · exact (u.droppedBusy_part e).trans s.faulted_part
      · rw [hband]; exact hwait
      · rw [hband]; exact hformat
      · exact (u.droppedBusy_outstanding e).trans (hout.trans ho)
    · intro a bs i o hx hformat hwait hq ho
      subst hx
      exact hrun hin (State.secondFailure_formatEnded (x := .formatWrite a bs) (t := u) hstage hwinding (by rw [hformat]; rfl)
        (State.endFetches_none (s := u) hq .busy) s.faulted_part hwait (.inr ⟨i, hformat⟩) (hout.trans ho))
  · intro u
    have hshut : s.bandService = false := by simp [State.bandService, hwinding]
    have hband := u.droppedBusy_band e
    have hqueued (f : EntryNo) : .fetch f ∉ (u.droppedBusy e).band.queue := by
      rw [hband]
      exact hq f
    have hfailed : (s.faulted.failByKind (.fetch e n)).endFetches (if s.bandService then .store else .busy) =
        u.droppedBusy e := by
      rw [State.failByKind_shut hshut fun w h => (hw w h).1, hshut]
      exact State.endFetches_none hqueued .busy
    have hport : (u.droppedBusy e).band.port = .fault := by rw [hband]; rfl
    have hpart : (u.droppedBusy e).part.winding = true := by
      rw [u.droppedBusy_part]
      exact (congrArg Part.winding s.faulted_part).trans hwinding
    rw [exec_transferTimeout_failed hin, State.secondFailure_past hstage hfailed,
      State.replyHeld_none (by rw [hband]; exact hr), State.endFormat_none (by rw [hband]; exact hformat), if_pos hpart,
      State.discardHeld_eq, if_pos hport]

end Sys2Proof.Machine
end


section
/-!
PROOF. Presentations (R26 to R40): the check order at the service of a lookup, and what a decision places at its head.
-/

namespace Sys2Proof.Machine

/-! ### The journal unit and the notices -/

/-- Two states that differ in the journal and the link alone. -/
def State.JournalOnly (s t : State) : Prop := ∃ j l, t = (s.setJournal j).setLink l

section
variable {s t u : State}

theorem State.JournalOnly.refl (s : State) : s.JournalOnly s := ⟨s.journal, s.link, rfl⟩

theorem State.JournalOnly.trans (h : s.JournalOnly t) (h' : t.JournalOnly u) : s.JournalOnly u := by
  obtain ⟨j, l, rfl⟩ := h
  obtain ⟨j', l', rfl⟩ := h'
  exact ⟨j', l', rfl⟩

theorem State.JournalOnly.lanes (h : s.JournalOnly t) : t.lanes = s.lanes := by
  obtain ⟨j, l, rfl⟩ := h
  rfl

theorem State.JournalOnly.lockers (h : s.JournalOnly t) : t.lockers = s.lockers := by
  obtain ⟨j, l, rfl⟩ := h
  rfl

theorem State.JournalOnly.cabins (h : s.JournalOnly t) : t.cabins = s.cabins := by
  obtain ⟨j, l, rfl⟩ := h
  rfl

theorem State.JournalOnly.settings (h : s.JournalOnly t) : t.settings = s.settings := by
  obtain ⟨j, l, rfl⟩ := h
  rfl

variable (s)

theorem State.setJournal_only (j : Journal) : s.JournalOnly (s.setJournal j) := ⟨j, s.link, rfl⟩

theorem State.post_only (kind : NoticeKind) (sub : NoticeSubject) : s.JournalOnly (s.post kind sub) :=
  ⟨s.journal, _, rfl⟩

theorem State.postWatch_only (sub : JournalSubject) : s.JournalOnly (s.postWatch sub) := by
  unfold State.postWatch
  split
  · split
    · exact s.post_only _ _
    · exact .refl s
  · exact .refl s
  · exact .refl s

theorem State.overtake_only : s.JournalOnly s.overtake := by
  unfold State.overtake
  split
  · exact .refl s
  · split
    · exact .refl s
    · exact (s.setJournal_only _).trans (State.postWatch_only _ _)

theorem State.advanceJournal_only : s.JournalOnly s.advanceJournal := by
  unfold State.advanceJournal
  dsimp only
  split
  · exact (s.setJournal_only _).trans (State.post_only _ _ _)
  · split
    · exact (s.setJournal_only _).trans (State.post_only _ _ _)
    · exact s.setJournal_only _

theorem State.journalClosed_only (sub : JournalSubject) (band : Option BandNo) (party : Party) (action : JournalAction)
    (start : Stamp) (outcome : EntryOutcome) : s.JournalOnly (s.journalClosed sub band party action start outcome) := by
  unfold State.journalClosed
  split
  · exact .refl s
  · exact (((s.overtake_only).trans (State.setJournal_only _ _)).trans (State.postWatch_only _ _)).trans
      (State.advanceJournal_only _)

theorem State.journalOpen_only (sub : JournalSubject) (band : Option BandNo) (party : Party) (action : JournalAction)
    (start : Stamp) : s.JournalOnly (s.journalOpen sub band party action start).2 := by
  unfold State.journalOpen
  split
  · exact .refl s
  · exact ((s.overtake_only).trans (State.setJournal_only _ _)).trans (State.advanceJournal_only _)

theorem State.journalClose_only (link : Option JournalLink) (sub : JournalSubject) (outcome : EntryOutcome) :
    s.JournalOnly (s.journalClose link sub outcome) := by
  unfold State.journalClose
  repeat' split
  all_goals first
    | exact .refl s
    | exact (s.setJournal_only _).trans (State.postWatch_only _ _)

theorem State.journalRefusal_only (target : JournalSubject) (p : Presentation) (party : Party) (r : Reason) :
    s.JournalOnly (s.journalRefusal target p party r) := by
  unfold State.journalRefusal
  split
  · exact s.journalClosed_only ..
  · exact .refl s

end

/-! ### A verdict placed (R38, R154, R156) -/

theorem Engine.keepVerdict_eq (x : Engine) (h : HeadNo) : x.keepVerdict h =
    { x with poll := x.poll.map (fun q => { q with clears := q.clears && decide (q.head ≠ h) }) } := by
  obtain ⟨last, wasRoster, poll⟩ := x
  rcases poll with _ | q
  · rfl
  · by_cases hq : q.head = h
    · simp [Engine.keepVerdict, hq]
    · simp [Engine.keepVerdict, hq]

/-- A head on a line takes the verdict, and no poll of it in flight clears it; an OFFLINE one takes none. -/
theorem State.placeVerdict_eq (s : State) (h : HeadNo) (v : Verdict) : s.placeVerdict h v =
    if (s.head h).state ≠ .offline then s.setReader { s.reader with
      roster := s.reader.roster.set h.val { s.head h with verdict := some v }
      engineA := { s.reader.engineA with poll := s.reader.engineA.poll.map (fun q =>
        { q with clears := q.clears && decide (q.head ≠ h) }) }
      engineB := { s.reader.engineB with poll := s.reader.engineB.poll.map (fun q =>
        { q with clears := q.clears && decide (q.head ≠ h) }) } } else s := by
  unfold State.placeVerdict
  rcases hstate : (s.head h).state with l | _
  · rw [if_pos (by simp), ← Engine.keepVerdict_eq, ← Engine.keepVerdict_eq]
    rfl
  · rw [if_neg (by simp)]

/-- Only a refusal at the head of an exit lane pulses a line (R134). -/
theorem State.ejectForRefusal_none {s : State} {target : JournalSubject}
    (h : ∀ l, target = .lane l → s.laneRole l = .entry) : s.ejectForRefusal target = s := by
  cases target with
  | locker k => rfl
  | cabin c => rfl
  | lane l => exact if_neg (by simp [h l rfl])

theorem State.ejectForRefusal_exit {s : State} {l : LaneNo} (h : s.laneRole l = .exit) :
    s.ejectForRefusal (.lane l) = s.setLane l { s.lane l with eject := true } := if_pos h

/-! ### The checks made at service (R32 to R36) -/

section
variable {s : State} {h : HeadNo} {p : Presentation} {rec : BandRecord}

/-- A check that fails refuses the presentation, and the record stands. -/
theorem State.decidePresentation_refused (hp : p.superseded = false) {r : Reason} {party : Party}
    (hc : commonChecks (headTarget h) p rec = some (r, party)) :
    s.decidePresentation h p rec = (s.conclude h p (.refuse r) party, rec) := by
  rw [State.decidePresentation, if_neg (by simp [hp]), hc]

theorem commonChecks_void (target : JournalSubject) (h : rec.state = .free ∨ rec.state = .returned) :
    commonChecks target p rec = some (.void, .owner) := if_pos h

theorem commonChecks_barred (target : JournalSubject) (h : rec.state = .barred) :
    commonChecks target p rec = some (.barred, .owner) := by
  rw [commonChecks, if_neg (by simp [h]), if_pos h]

theorem commonChecks_tag (target : JournalSubject) (h : rec.state = .issued ∨ rec.state = .inside)
    (hs : rec.serial ≠ p.serial) : commonChecks target p rec = some (.tag, .owner) := by
  have hvoid : ¬(rec.state = .free ∨ rec.state = .returned) := by rcases h with h | h <;> simp [h]
  have hbarred : rec.state ≠ .barred := by rcases h with h | h <;> simp [h]
  rw [commonChecks, if_neg hvoid, if_neg hbarred, if_pos hs]

/-- With the serial of the band, the zone is what is left to check. -/
theorem commonChecks_zone (target : JournalSubject) (h : rec.state = .issued ∨ rec.state = .inside)
    (hs : rec.serial = p.serial) : commonChecks target p rec =
      if rec.master = false ∧ zoneRefused target rec = true then some (.zone, .owner) else none := by
  have hvoid : ¬(rec.state = .free ∨ rec.state = .returned) := by rcases h with h | h <;> simp [h]
  have hbarred : rec.state ≠ .barred := by rcases h with h | h <;> simp [h]
  rw [commonChecks, if_neg hvoid, if_neg hbarred, if_neg (not_not_intro hs)]

/-- A band of the head's zone, or a master, passes. -/
theorem zoneRefused_passes (hpass : rec.master = true ∨ 280 ≤ h.val ∨ (h.val < 256 ∧ rec.mask.getLsbD (h.val / 32) = true) ∨
    (256 ≤ h.val ∧ h.val < 280 ∧ rec.cabinRight = true)) :
    ¬(rec.master = false ∧ zoneRefused (headTarget h) rec = true) := by
  rintro ⟨hmaster, hzone⟩
  rcases hpass with hp | hp | ⟨hlt, hp⟩ | ⟨hlo, hhi, hp⟩
  · rw [hp] at hmaster
    cases hmaster
  · rw [headTarget_lane hp] at hzone
    cases hzone
  · rw [headTarget_locker hlt] at hzone
    simp [zoneRefused, hp] at hzone
  · rw [headTarget_cabin hlo hhi] at hzone
    simp [zoneRefused, hp] at hzone

/-- The party of a refusal at a locker (R40, R49). -/
theorem State.refusalParty_locker (hm : rec.master = false) (k : LockerNo) (b : BandNo) :
    s.refusalParty (.locker k) b rec =
      if (s.locker k).owner ≠ some b ∧ b ∈ (s.locker k).companions then .companion else .owner := by
  unfold State.refusalParty State.lockerParty
  rw [if_neg (by simp [hm])]
  by_cases howner : (s.locker k).owner = some b
  · simp [howner]
  · by_cases hcomp : b ∈ (s.locker k).companions
    · simp [howner, hcomp]
    · simp [howner, hcomp]

/-- The party of a refusal, as R40 words it. -/
theorem State.refusalParty_eq {party : Party} (hmaster : rec.master = true → party = .master)
    (hcomp : ∀ k : LockerNo, h.val = k.val → rec.master = false → (s.locker k).owner ≠ some p.band →
      p.band ∈ (s.locker k).companions → party = .companion)
    (howner : rec.master = false → (∀ k : LockerNo, h.val = k.val → (s.locker k).owner = some p.band ∨
      p.band ∉ (s.locker k).companions) → party = .owner) : s.refusalParty (headTarget h) p.band rec = party := by
  rcases hm : rec.master with _ | _
  · rcases Nat.lt_or_ge h.val 256 with hlt | hge
    · have hk {k : LockerNo} (hk : h.val = k.val) : k = ⟨h.val, hlt⟩ := Fin.ext hk.symm
      rw [headTarget_locker hlt, State.refusalParty_locker hm]
      split
      · next hboth => exact (hcomp ⟨h.val, hlt⟩ rfl hm hboth.1 hboth.2).symm
      · next hnot =>
        refine (howner hm fun k hval => ?_).symm
        rw [hk hval]
        exact (not_and_or.mp hnot).imp_left not_not.mp
    · have hother : party = .owner := howner hm fun k hval => absurd k.isLt (by omega)
      rcases Nat.lt_or_ge h.val 280 with hlt | hge'
      · rw [headTarget_cabin hge hlt, hother]
        simp [State.refusalParty, hm]
      · rw [headTarget_lane hge', hother]
        simp [State.refusalParty, hm]
  · rw [hmaster hm]
    simp [State.refusalParty, hm]

end

/-- Settles O35. -/
theorem checkOrder : Obligations.CheckOrder := by
  unfold Obligations.CheckOrder
  refine ⟨fun s h p rec => ⟨fun hp => ?_, fun hp hst => ?_, fun hp hst => ?_, fun hp hst hserial => ?_,
    fun hp hst hserial hm => ⟨fun k hk hmask => ?_, fun hlo hhi hright => ?_⟩, fun hp hst hserial hpass party hmaster
    hcomp howner => ?_⟩, fun h => ⟨fun k hk => ?_, fun c hc => ?_, fun l hl => ?_⟩, fun s h p v party => ?_⟩
  · exact if_pos hp
  · exact State.decidePresentation_refused hp (commonChecks_void _ hst)
  · exact State.decidePresentation_refused hp (commonChecks_barred _ hst)
  · exact State.decidePresentation_refused hp (commonChecks_tag _ hst hserial)
  · refine State.decidePresentation_refused hp ((commonChecks_zone _ hst hserial).trans (if_pos ⟨hm, ?_⟩))
    rw [headTarget_locker (by omega)]
    simp [zoneRefused, hk, hmask]
  · refine State.decidePresentation_refused hp ((commonChecks_zone _ hst hserial).trans (if_pos ⟨hm, ?_⟩))
    rw [headTarget_cabin hlo hhi]
    simp [zoneRefused, hright]
  · have hchecks : commonChecks (headTarget h) p rec = none :=
      (commonChecks_zone _ hst hserial).trans (if_neg (zoneRefused_passes hpass))
    rw [State.decidePresentation, if_neg (by simp [hp]), hchecks, State.refusalParty_eq hmaster hcomp howner]
  · rw [headTarget_locker (by omega)]
    exact congrArg JournalSubject.locker (Fin.ext hk)
  · rw [headTarget_cabin (by omega) (by omega)]
    exact congrArg JournalSubject.cabin (Fin.ext (by simp [hc]))
  · rw [headTarget_lane (by omega)]
    exact congrArg JournalSubject.lane (Fin.ext (by simp [hl]))
  · intro u on
    have hplaced : (s.placeVerdict h v).setSlot h (some { p with decided := true }) = u on := by
      rw [State.placeVerdict_eq]
      simp only [u, on, decide_eq_true_eq]
    refine ⟨?_, fun r hv => ?_⟩
    · rintro (rfl | rfl) <;> exact hplaced
    · intro journaled
      subst hv
      have hsame : (s.setReader (u on).reader).setPres (u on).pres = u on := by
        simp only [u]
        split <;> rfl
      have hsettings : (u on).settings = s.settings := by rw [← hsame]; rfl
      have hjournal : (u on).journalRefusal (headTarget h) p party r = journaled := by
        rw [State.journalRefusal, hsettings]
      have hlane (l : LaneNo) : journaled.lane l = s.lane l := by
        rw [← hjournal, State.lane, (State.journalRefusal_only ..).lanes, ← hsame]
        rfl
      have hrole (l : LaneNo) : journaled.laneRole l = s.settings.roles[l.val] := by
        rw [← hjournal, State.laneRole, (State.journalRefusal_only ..).settings, ← hsame]
        rfl
      have hconclude : s.conclude h p (.refuse r) party = journaled.ejectForRefusal (headTarget h) := by
        rw [← hjournal, ← hplaced]
        rfl
      rw [hconclude]
      refine ⟨fun hentry => State.ejectForRefusal_none fun l hl => (hrole l).trans (hentry l hl), fun l hl hexit => ?_⟩
      rw [hl, State.ejectForRefusal_exit ((hrole l).trans hexit), hlane]

end Sys2Proof.Machine
end


section
/-!
PROOF. The reader lines (R154 to R158) and the presentations their answers open (R26 to R31). An answer that the engine
takes ends its exchange; then it is the presentation unit's.
-/

namespace Sys2Proof.Machine

/-! ### Answers (R154, R155) -/

theorem Poll.takes_good (p : Poll) (a : AnswerKind) (h : ∀ b serial, a = .present b serial → b < 2048) :
    p.takes p.head.val (goodAnswer p.head a) = true := by
  cases a with
  | idle => simp [Poll.takes, goodAnswer]
  | present b serial => simp [Poll.takes, goodAnswer, h b serial rfl]

/-- A check that does not agree, another head, and a band number above 2047 are not taken (R154). -/
theorem Poll.takes_bad {p : Poll} {head : Nat} {a : Answer} (h : head ≠ p.head.val ∨
    a.check ≠ crc8 (answerCovered head a.kind) ∨ ∃ b serial, a.kind = .present b serial ∧ 2047 < b) :
    p.takes head a = false := by
  have hcheck : answerCheck head a.kind = crc8 (answerCovered head a.kind) := rfl
  rw [← hcheck] at h
  unfold Poll.takes
  generalize answerCheck head a.kind = check at h ⊢
  rcases h with h | h | ⟨b, serial, hk, hb⟩
  · simp [h.symm]
  · simp [h]
  · simp [hk, Nat.not_lt.mpr hb]

section
variable {s : State} {line : Line} {p : Poll}

theorem State.answerOn_taken (hpoll : (s.engine line).poll = some p) {a : Answer} (ha : p.takes p.head.val a = true) :
    s.answerOn line p.probe p.head.val a = (s.endPoll line).takeAnswer line p a := by
  rw [State.answerOn, hpoll]
  exact if_pos ⟨rfl, ha⟩

theorem State.answerOn_none (hpoll : (s.engine line).poll = none) (probe : Bool) (head : Nat) (a : Answer) :
    s.answerOn line probe head a = s := by
  rw [State.answerOn, hpoll]

theorem State.answerOn_discarded (hpoll : (s.engine line).poll = some p) {head : Nat} {a : Answer}
    (ha : p.takes head a = false) (probe : Bool) : s.answerOn line probe head a = s := by
  rw [State.answerOn, hpoll]
  exact if_neg (by simp [ha])

/-- Ending a poll leaves everything but its engine. -/
theorem State.endPoll_only (s : State) (line : Line) : ∃ r, s.endPoll line = s.setReader r := by
  cases line <;> exact ⟨_, rfl⟩

/-- The state in which the presentation unit gets an answer: the exchange has ended, and the head's record shows it
(R155, R158). -/
def State.answeredBy (s : State) (line : Line) (p : Poll) : State :=
  if p.probe = true then (s.endPoll line).probeAnswered p line else (s.endPoll line).pollAnswered p

/-- It differs in the reader lines and in the notice of a restored head. -/
theorem State.answeredBy_only (s : State) (line : Line) (p : Poll) :
    ∃ r l, s.answeredBy line p = (s.setReader r).setLink l := by
  obtain ⟨r, hr⟩ := s.endPoll_only line
  unfold State.answeredBy
  rw [hr]
  split
  · exact ⟨_, _, rfl⟩
  · exact ⟨((s.setReader r).pollAnswered p).reader, s.link, rfl⟩

theorem State.takeAnswer_eq (hw : s.part.winding = false) (hstale : p.stale = false) (a : Answer) :
    (s.endPoll line).takeAnswer line p a = (s.answeredBy line p).handAnswer p.head a.kind := by
  have hw' : ¬(s.endPoll line).part.winding = true := by
    obtain ⟨r, hr⟩ := s.endPoll_only line
    rw [hr]
    exact (Bool.eq_false_iff.mp hw)
  simp only [State.takeAnswer, if_neg hw', hstale]
  rfl

/-- Every good answer that an engine takes, as a command. -/
theorem exec_answer_eq (hpoll : (s.engine line).poll = some p) (hw : s.part.winding = false) (hstale : p.stale = false)
    {a : AnswerKind} (ha : ∀ b serial, a = .present b serial → b < 2048) :
    (if p.probe = true then exec (.probeAnswer line p.head.val (goodAnswer p.head a)) s
      else exec (.pollAnswer line p.head.val (goodAnswer p.head a)) s) =
      .next ((s.answeredBy line p).handAnswer p.head a).arbitrate := by
  have htaken : s.answerOn line p.probe p.head.val (goodAnswer p.head a) = (s.answeredBy line p).handAnswer p.head a :=
    (State.answerOn_taken hpoll (p.takes_good a ha)).trans (State.takeAnswer_eq hw hstale _)
  split
  · next hprobe =>
    rw [hprobe] at htaken
    exact congrArg (fun t : State => Host.Outcome.next t.arbitrate) htaken
  · next hprobe =>
    rw [Bool.eq_false_iff.mpr hprobe] at htaken
    exact congrArg (fun t : State => Host.Outcome.next t.arbitrate) htaken

end

/-! ### What an answer does to the presentation (R26, R28) -/

section
variable {s : State} {h : HeadNo}

theorem State.idleAnswer_decided {q : Presentation} (hw : s.part.winding = false) (hs : s.slot h = some q)
    (hq : q.decided = true) : s.idleAnswer h = s.setSlot h none := by
  rw [State.idleAnswer, if_neg (Bool.eq_false_iff.mp hw), hs]
  exact if_pos hq

theorem State.idleAnswer_kept (hs : s.slot h = none ∨ ∃ q, s.slot h = some q ∧ q.decided = false) :
    s.idleAnswer h = s := by
  unfold State.idleAnswer
  split
  · rfl
  · rcases hs with hs | ⟨q, hs, hq⟩
    · rw [hs]
    · rw [hs]
      exact if_neg (Bool.eq_false_iff.mp hq)

theorem State.presentAnswer_repeat {q : Presentation} (hs : s.slot h = some q) :
    s.presentAnswer h q.band q.serial = s := by
  unfold State.presentAnswer
  split
  · rfl
  · rw [hs]
    exact if_pos ⟨rfl, rfl⟩

end

/-- Settles O36. -/
theorem answersTaken : Obligations.AnswersTaken := by
  unfold Obligations.AnswersTaken
  refine ⟨fun s line p hpoll hw hstale => ?_, fun s line head a => ⟨rfl, fun hpoll => ⟨?_, ?_⟩, fun p hpoll ha => ⟨?_, ?_⟩⟩⟩
  · intro ended x u run
    have hu : s.answeredBy line p = u := by
      have hhead : ended.head p.head = x := s.setEngine_head line _ p.head
      have hended : s.endPoll line = ended := rfl
      simp only [State.answeredBy, State.probeAnswered, State.pollAnswered, hended, hhead, u]
    obtain ⟨r, l, honly⟩ := s.answeredBy_only line p
    have hslot : u.slot p.head = s.slot p.head := by rw [← hu, honly]; rfl
    have hpart : u.part = s.part := by rw [← hu, honly]; rfl
    have hrun {a : AnswerKind} (ha : ∀ b serial, a = .present b serial → b < 2048) :
        run a = .next (u.handAnswer p.head a).arbitrate := by
      rw [← hu]
      exact exec_answer_eq hpoll hw hstale ha
    refine ⟨fun q hq hdecided => ?_, fun hq => ?_, fun q hq _ => ?_⟩
    · rw [hrun (fun _ _ => AnswerKind.noConfusion), State.handAnswer,
        State.idleAnswer_decided (by rw [hpart]; exact hw) (hslot.trans hq) hdecided]
    · rw [hrun (fun _ _ => AnswerKind.noConfusion), State.handAnswer, State.idleAnswer_kept (by rw [hslot]; exact hq)]
    · have hband {b : Nat} {serial : Serial} (h : AnswerKind.present q.band.val q.serial = .present b serial) : b < 2048 := by
        cases h
        exact q.band.isLt
      rw [hrun fun _ _ => hband, State.handAnswer, bandNoOf_val, State.presentAnswer_repeat (hslot.trans hq)]
  · exact congrArg (fun t : State => Host.Outcome.next t.arbitrate) (State.answerOn_none hpoll false head a)
  · exact congrArg (fun t : State => Host.Outcome.next t.arbitrate) (State.answerOn_none hpoll true head a)
  · exact congrArg (fun t : State => Host.Outcome.next t.arbitrate)
      (State.answerOn_discarded hpoll (Poll.takes_bad ha) false)
  · exact congrArg (fun t : State => Host.Outcome.next t.arbitrate)
      (State.answerOn_discarded hpoll (Poll.takes_bad ha) true)

/-! ### Presentations opened (R26, R27, R30, R31) -/

/-- The lookups of a pending presentation of a head carry the superseded mark, wherever they wait (R27). -/
def State.marked (s : State) (h : HeadNo) : State := s.setBand { s.band with
  cache := s.band.cache.map (fun x => { x with waiters := x.waiters.map (s.markWaiter (fun g => decide (g = h))) }) }

section
variable {s : State} {h : HeadNo} {b : BandNo} {serial : Serial}

theorem State.marked_entry (s : State) (h : HeadNo) (e : EntryNo) : (s.marked h).entry e =
    { s.entry e with waiters := (s.entry e).waiters.map (s.markWaiter (fun g => decide (g = h))) } := by
  change (s.band.cache.map _)[e.val] = _
  rw [Vector.getElem_map]
  rfl

/-- With no pending presentation nothing is marked. -/
theorem State.marked_none (hs : (s.slot h).any (fun q => !q.decided) = false) : s.marked h = s := by
  have hid : (fun x : CacheEntry => { x with
      waiters := x.waiters.map (s.markWaiter (fun g => decide (g = h))) }) = id := by
    funext x
    have hmark : s.markWaiter (fun g => decide (g = h)) = id := State.markWaiter_of_not_pending hs
    rw [hmark, List.map_id]
    rfl
  rw [State.marked, hid, Vector.map_id]
  rfl

/-- With a pending one it is superseded. -/
theorem State.marked_pending (hs : (s.slot h).any (fun q => !q.decided) = true) : s.marked h = s.supersede h := by
  obtain ⟨⟨d, honly⟩, hentry⟩ := s.supersede_spec h
  have hmark : s.markWaiter (fun g => decide (g = h)) = supersedeIn h := State.markWaiter_of_pending hs
  have hcache : d = (s.marked h).band.cache := by
    refine Vector.ext fun i hi => ?_
    have hd : d[i] = (s.entry ⟨i, hi⟩).supersede h := by
      rw [← hentry ⟨i, hi⟩, honly]
      rfl
    rw [hd]
    refine Eq.trans ?_ (s.marked_entry h ⟨i, hi⟩).symm
    rw [hmark]
    rfl
  rw [honly, hcache]
  rfl

/-- A PRESENT answer with another reading than the head's record opens a presentation (R26, R27, R29). -/
theorem State.presentAnswer_new (hw : s.part.winding = false) (hin : s.inService h = true)
    (hnew : ∀ q, s.slot h = some q → q.band ≠ b ∨ q.serial ≠ serial) :
    s.presentAnswer h b serial = (s.marked h).openPresentation h b serial := by
  rw [State.presentAnswer, if_neg (by simp [hw, hin])]
  rcases hslot : s.slot h with _ | q
  · rw [State.marked_none (by rw [hslot]; rfl)]
  · have hother : ¬(q.band = b ∧ q.serial = serial) := not_and_or.mpr (hnew q hslot)
    rcases hq : q.decided with _ | _
    · rw [State.marked_pending (by simp [hslot, hq])]
      simp [hother, hq]
    · rw [State.marked_none (by simp [hslot, hq])]
      simp [hother, hq]

/-- The checks made at arrival, in their order (R30). -/
theorem State.arrivalReason_some {r : Reason}
    (hr : (r = .busy ∧ (s.part.part = .starting ∨ s.band.format.isSome = true)) ∨
      (r = .store ∧ s.part.part = .noStore ∧ s.band.format = none) ∨
      (r = .range ∧ s.part.part = .running ∧ s.band.format = none ∧ s.tableLength ≤ b.val)) :
    s.arrivalReason b = some r := by
  rcases hr with ⟨rfl, hstarting | hformat⟩ | ⟨rfl, hpart, hformat⟩ | ⟨rfl, hpart, hformat, hb⟩
  · simp [State.arrivalReason, hstarting]
  · simp [State.arrivalReason, hformat]
  · simp [State.arrivalReason, hpart, hformat]
  · simp [State.arrivalReason, hpart, hformat, hb]

theorem State.arrivalReason_none (hpart : s.part.part = .running) (hformat : s.band.format = none)
    (hb : b.val < s.tableLength) : s.arrivalReason b = none := by
  simp [State.arrivalReason, hpart, hformat, Nat.not_le.mpr hb]

/-- A presentation that passes the arrival checks sends its lookup (R31). -/
theorem State.openPresentation_lookup (hr : s.arrivalReason b = none) :
    s.openPresentation h b serial = (s.setSlot h (some ⟨b, serial, s.clock.value, false, false⟩)).bandOp b.val
      (.lookup h ⟨b, serial, s.clock.value, false, false⟩) := by
  have hr' : (s.setSlot h (some ⟨b, serial, s.clock.value, false, false⟩)).arrivalReason b = none := hr
  change (match (s.setSlot h (some ⟨b, serial, s.clock.value, false, false⟩)).arrivalReason b with
    | some r => _
    | none => _) = _
  rw [hr']
  rfl

/-- A verdict at a head on a line, of which no poll is in flight: the head holds it, and no engine changes (R156). -/
theorem State.placeVerdict_free {l : Line} (hstate : (s.head h).state = .on l)
    (hfree : ∀ line q, (s.engine line).poll = some q → q.head ≠ h) (v : Verdict) :
    s.placeVerdict h v = s.setHead h { s.head h with verdict := some v } := by
  have hkeep (line : Line) : (s.engine line).keepVerdict h = s.engine line := by
    unfold Engine.keepVerdict
    split
    · rfl
    · next q hq => exact if_neg (hfree line q hq)
  have ha : s.reader.engineA.keepVerdict h = s.reader.engineA := hkeep .a
  have hb : s.reader.engineB.keepVerdict h = s.reader.engineB := hkeep .b
  rw [State.placeVerdict, hstate]
  simp only [State.setHead, State.setReader_reader, ha, hb]
  rfl

/-- A refusal at arrival, at a head of a locker or cabin, with the refusals option off: the verdict is placed and the
presentation DECIDED (R30, R38, R40). -/
theorem State.openPresentation_refused {r : Reason} {l : Line} (hr : s.arrivalReason b = some r)
    (hh : h.val < 280) (hrefusals : s.settings.refusals = false) (hstate : (s.head h).state = .on l)
    (hfree : ∀ line q, (s.engine line).poll = some q → q.head ≠ h) :
    s.openPresentation h b serial = (s.setHead h { s.head h with verdict := some (.refuse r) }).setSlot h
      (some ⟨b, serial, s.clock.value, true, false⟩) := by
  let u : State := s.setSlot h (some ⟨b, serial, s.clock.value, false, false⟩)
  have hr' : u.arrivalReason b = some r := hr
  have hopen : s.openPresentation h b serial =
      u.conclude h ⟨b, serial, s.clock.value, false, false⟩ (.refuse r) .owner := by
    change (match u.arrivalReason b with
      | some r => _
      | none => _) = _
    rw [hr']
    rfl
  have hplaced : u.placeVerdict h (.refuse r) = u.setHead h { u.head h with verdict := some (.refuse r) } :=
    State.placeVerdict_free (s := u) hstate hfree (.refuse r)
  have hlane (m : LaneNo) : headTarget h ≠ .lane m := by
    rcases Nat.lt_or_ge h.val 256 with hlt | hge
    · rw [headTarget_locker hlt]
      exact JournalSubject.noConfusion
    · rw [headTarget_cabin hge hh]
      exact JournalSubject.noConfusion
  have hjournal {t : State} (ht : t.settings.refusals = false) (p : Presentation) :
      t.journalRefusal (headTarget h) p .owner r = t := if_neg (Bool.eq_false_iff.mp ht)
  rw [hopen]
  simp only [State.conclude, hplaced]
  rw [hjournal (by exact hrefusals), State.ejectForRefusal_none fun m hm => absurd hm (hlane m)]
  simp only [u, State.setSlot, State.setHead, State.setPres_pres, State.setPres_reader, State.setReader_pres,
    Vector.set_set]
  rfl

end

theorem Line.eq_or_other (l m : Line) : m = l ∨ m = otherLine l := by
  cases l <;> cases m <;> simp [otherLine]

theorem State.setEngine_other (s : State) (l : Line) (x : Engine) :
    (s.setEngine l x).engine (otherLine l) = s.engine (otherLine l) := by
  cases l <;> rfl

theorem State.setHead_setHead (s : State) (h : HeadNo) (x y : HeadRecord) :
    (s.setHead h x).setHead h y = s.setHead h y := by
  simp [State.setHead, State.setReader]

/-- The lookup of an opened presentation, past the arrival checks: what the polled head's record and the marks leave. -/
def State.opened (s : State) (line : Line) (h : HeadNo) (clears : Bool) (p : Presentation) : State :=
  (((s.setEngine line { s.engine line with poll := none }).setHead h { s.head h with
    miss := 0, tried := false, verdict := if clears = true then none else (s.head h).verdict }).setSlot h
      (some p)).setBand (s.marked h).band

section
variable {s : State} {line : Line} {h : HeadNo} {carried : Option Verdict} {clears : Bool} {w : Nat}

/-- The state in which the presentation unit gets the answer of a roster poll. -/
theorem State.answeredBy_poll : s.answeredBy line ⟨h, false, carried, clears, false, w⟩ =
    (s.setEngine line { s.engine line with poll := none }).setHead h { s.head h with
      miss := 0, tried := false, verdict := if clears = true then none else (s.head h).verdict } := by
  have hhead : (s.endPoll line).head h = s.head h := s.setEngine_head line _ h
  simp only [State.answeredBy, State.pollAnswered, hhead]
  rfl

theorem exec_present_eq (hpoll : (s.engine line).poll = some ⟨h, false, carried, clears, false, w⟩)
    (hw : s.part.winding = false) (b : BandNo) (serial : Serial) :
    exec (.pollAnswer line h.val (goodAnswer h (.present b.val serial))) s = .next
      ((s.answeredBy line ⟨h, false, carried, clears, false, w⟩).presentAnswer h b serial).arbitrate := by
  have hband {c : Nat} {serial' : Serial} (he : AnswerKind.present b.val serial = .present c serial') : c < 2048 := by
    cases he
    exact b.isLt
  have hanswer := exec_answer_eq hpoll hw rfl fun _ _ => hband
  rw [State.handAnswer, bandNoOf_val] at hanswer
  exact hanswer

/-- The lookup is sent (R31). -/
theorem exec_present_lookup (hpoll : (s.engine line).poll = some ⟨h, false, carried, clears, false, w⟩)
    (hpart : s.part = ⟨.running, false, .done⟩) (hformat : s.band.format = none) (hin : s.inService h = true)
    {b : BandNo} {serial : Serial} (hnew : ∀ q, s.slot h = some q → q.band ≠ b ∨ q.serial ≠ serial)
    (hb : b.val < s.tableLength) :
    exec (.pollAnswer line h.val (goodAnswer h (.present b.val serial))) s = .next
      ((s.opened line h clears ⟨b, serial, s.clock.value, false, false⟩).bandOp b.val
        (.lookup h ⟨b, serial, s.clock.value, false, false⟩)).arbitrate := by
  rw [exec_present_eq hpoll (congrArg Part.winding hpart)]
  obtain ⟨r, l, honly⟩ := s.answeredBy_only line ⟨h, false, carried, clears, false, w⟩
  have hopened : ((s.answeredBy line ⟨h, false, carried, clears, false, w⟩).marked h).setSlot h
      (some ⟨b, serial, s.clock.value, false, false⟩) =
      s.opened line h clears ⟨b, serial, s.clock.value, false, false⟩ := by
    rw [State.opened, ← State.answeredBy_poll (carried := carried) (w := w), honly]
    rfl
  have hclock : (s.answeredBy line ⟨h, false, carried, clears, false, w⟩).clock = s.clock := by rw [honly]; rfl
  rw [← hopened, State.presentAnswer_new, State.openPresentation_lookup]
  · rw [← hclock]
    rfl
  · rw [honly]
    exact State.arrivalReason_none (congrArg Part.part hpart) hformat hb
  · rw [honly]
    exact congrArg Part.winding hpart
  · rw [honly]
    exact hin
  · rw [honly]
    exact hnew

end

/-- The wait lists keep their lengths and the entries their contents under the mark. -/
theorem State.opened_entry (s : State) (line : Line) (h : HeadNo) (clears : Bool) (p : Presentation) (e : EntryNo) :
    (s.opened line h clears p).entry e =
      { s.entry e with waiters := (s.entry e).waiters.map (s.markWaiter (fun g => decide (g = h))) } :=
  s.marked_entry h e

theorem State.opened_entryOf (s : State) (line : Line) (h : HeadNo) (clears : Bool) (p : Presentation) (b : BandNo) :
    (s.opened line h clears p).entryOf b = s.entryOf b := by
  simp only [State.entryOf, State.opened_entry]

theorem State.opened_itemsHeld (s : State) (line : Line) (h : HeadNo) (clears : Bool) (p : Presentation) :
    (s.opened line h clears p).itemsHeld = s.itemsHeld := by
  simp only [State.itemsHeld, State.opened_entry, List.length_map]

/-- An opened presentation differs from what it is opened in by presentations, reader lines and marks. -/
theorem State.opened_only (s : State) (line : Line) (h : HeadNo) (clears : Bool) (p : Presentation) :
    ∃ r q, s.opened line h clears p = ((s.setReader r).setPres q).setBand (s.marked h).band := by
  cases line <;> exact ⟨_, _, rfl⟩

/-- Settles O37. -/
theorem presentationOpens : Obligations.PresentationOpens := by
  unfold Obligations.PresentationOpens
  refine ⟨fun s line h b serial carried clears w r hpoll hother hw hr hin hh hon hslot hrefusals => ?_,
    fun s line h b serial carried clears w e hpoll hpart hformat hin hnew hb hnone hport hitems hempty hlow => ?_,
    fun s line h b serial carried clears w hpoll hpart hformat hin hnew hb => ?_⟩
  · obtain ⟨l, hstate⟩ := hon
    rw [exec_present_eq hpoll hw]
    obtain ⟨u, k, honly⟩ := s.answeredBy_only line ⟨h, false, carried, clears, false, w⟩
    have hv : s.answeredBy line ⟨h, false, carried, clears, false, w⟩ = _ := State.answeredBy_poll
    generalize s.answeredBy line ⟨h, false, carried, clears, false, w⟩ = v at honly hv ⊢
    have hclock : v.clock = s.clock := by rw [honly]; rfl
    have hvslot : v.slot h = none := by rw [honly]; exact hslot
    have hvhead : v.head h = { s.head h with
        miss := 0, tried := false, verdict := if clears = true then none else (s.head h).verdict } := by
      rw [hv, State.setHead_head, if_pos rfl]
    have hfree (m : Line) (q : Poll) (hq : (v.engine m).poll = some q) : q.head ≠ h := by
      rw [hv, State.setHead_engine] at hq
      rcases Line.eq_or_other line m with rfl | rfl
      · rw [State.setEngine_engine] at hq
        cases hq
      · rw [State.setEngine_other] at hq
        exact hother q hq
    have hnew (q : Presentation) (hq : v.slot h = some q) : q.band ≠ b ∨ q.serial ≠ serial := by
      rw [hvslot] at hq
      cases hq
    rw [State.presentAnswer_new (by rw [honly]; exact hw) (by rw [honly]; exact hin) hnew,
      State.marked_none (by rw [hvslot]; rfl),
      State.openPresentation_refused (by rw [honly]; exact State.arrivalReason_some hr) hh
        (by rw [honly]; exact hrefusals) (by rw [hvhead]; exact hstate) hfree, hvhead, hclock, hv,
      State.setHead_setHead]
  · intro p
    have hsent := State.bandOp_sent (s := s.opened line h clears p) (n := b) (w := .lookup h p) rfl
    obtain ⟨r, q, honly⟩ := s.opened_only line h clears p
    have hentry := s.opened_entry line h clears p
    have htakes : (s.opened line h clears p).TakesBand b := by
      rw [honly]
      refine ⟨?_, hb⟩
      change (!s.part.winding && s.band.format.isNone) = true
      simp [hpart, hformat]
    have hfill : (s.opened line h clears p).MayFill b :=
      ⟨htakes, (s.opened_entryOf ..).trans hnone, by rw [honly]; exact hport⟩
    rw [exec_present_lookup hpoll hpart hformat hin hnew hb,
      hsent.lowestEmpty e hfill (by rw [State.opened_itemsHeld]; exact hitems) (by rw [hentry]; exact hempty)
        fun f hf => by rw [hentry]; exact hlow f hf]
    rfl
  · intro p opened
    exact ⟨_, exec_present_lookup hpoll hpart hformat hin hnew hb, State.bandOp_sent rfl⟩

/-! ### Unanswered exchanges (R157, R158) -/

section
variable {s : State} {line : Line} {h : HeadNo} {carried : Option Verdict} {clears : Bool} {w : Nat}

theorem exec_pollWindowExpiry_eq (hpoll : (s.engine line).poll = some ⟨h, false, carried, clears, false, w⟩)
    (hw : s.part.winding = false) :
    exec (.pollWindowExpiry line) s = .next ((s.endPoll line).countMiss h line).arbitrate := by
  have hevent : s.windowExpiry line false = (s.endPoll line).countMiss h line := by
    obtain ⟨r, hr⟩ := s.endPoll_only line
    have hw' : ¬((s.endPoll line).part.winding = true ∨ false = true) := by
      rw [hr]
      simpa using hw
    rw [State.windowExpiry, hpoll]
    exact (if_pos rfl).trans ((if_neg hw').trans (if_neg Bool.false_ne_true))
  exact congrArg (fun t : State => Host.Outcome.next t.arbitrate) hevent

theorem exec_probeWindowExpiry_eq (hpoll : (s.engine line).poll = some ⟨h, true, carried, clears, false, w⟩)
    (hw : s.part.winding = false) :
    exec (.probeWindowExpiry line) s = .next ((s.endPoll line).probeMissed h).arbitrate := by
  have hevent : s.windowExpiry line true = (s.endPoll line).probeMissed h := by
    obtain ⟨r, hr⟩ := s.endPoll_only line
    have hw' : ¬((s.endPoll line).part.winding = true ∨ false = true) := by
      rw [hr]
      simpa using hw
    rw [State.windowExpiry, hpoll]
    exact (if_pos rfl).trans ((if_neg hw').trans (if_pos rfl))
  exact congrArg (fun t : State => Host.Outcome.next t.arbitrate) hevent

end

/-- A record that is no pending presentation is dropped by emptying its slot (R29). -/
theorem State.dropPresentation_settled {s : State} {h : HeadNo}
    (hs : s.slot h = none ∨ ∃ q, s.slot h = some q ∧ q.decided = true) : s.dropPresentation h = s.setSlot h none := by
  rcases hs with hs | ⟨q, hs, hq⟩
  · have hsame : s.setSlot h none = s := by
      rw [← hs]
      simp [State.setSlot, State.setPres, State.slot]
    rw [hsame, State.dropPresentation, hs]
  · rw [State.dropPresentation, hs]
    simp only [hq, if_true]

/-- The probe of an OFFLINE head in service becomes DUE (R158). -/
theorem HeadRecord.markDue_eq (x : HeadRecord) (inService : Bool) : x.markDue inService =
    if x.state = .offline ∧ x.probe = .none ∧ inService = true then { x with probe := .due } else x := by
  rcases x with ⟨state, miss, tried, verdict, probeLine, probe⟩
  cases state <;> cases probe <;> cases inService <;> simp [HeadRecord.markDue]

/-- Settles O38. -/
theorem pollsUnanswered : Obligations.PollsUnanswered := by
  unfold Obligations.PollsUnanswered
  refine ⟨fun s line h carried clears w hpoll hw => ?_, fun s => ⟨⟨s.probeTimer, rfl, ?_⟩,
    fun line h carried clears w hpoll hw => ?_⟩⟩
  · intro ended x
    have hhead : ended.head h = x := s.setEngine_head line _ h
    obtain ⟨r, honly⟩ : ∃ r, ended = s.setReader r := s.endPoll_only line
    have hlimit : ended.settings.missLimit = s.settings.missLimit := by rw [honly]; rfl
    have hslot : ended.slot h = s.slot h := by rw [honly]; rfl
    have hrun : exec (.pollWindowExpiry line) s = .next (ended.countMiss h line).arbitrate :=
      exec_pollWindowExpiry_eq hpoll hw
    clear_value ended
    have hcount : ended.countMiss h line = if x.miss + 1 < s.settings.missLimit
        then ended.setHead h { x with miss := x.miss + 1 }
        else if x.tried then ended.goOffline h line else ended.switchLine h line := by
      rw [State.countMiss, hhead, hlimit]
    refine ⟨fun hmiss => ?_, fun hmiss htried => ?_, fun hmiss htried hs => ?_⟩
    · rw [hrun, hcount, if_pos hmiss]
    · rw [hrun, hcount, if_neg (by omega), if_neg (Bool.eq_false_iff.mp htried), State.switchLine, hhead]
    · have hsettled : ((ended.setHead h ⟨.offline, 0, false, none, otherLine line, .none⟩).post .headOffline
          (.head h)).slot h = s.slot h := hslot
      rw [hrun, hcount, if_neg (by omega), if_pos htried, State.goOffline,
        State.dropPresentation_settled (by rw [hsettled]; exact hs)]
  · obtain ⟨roster, hroster, honly⟩ : ∃ x, x = Vector.ofFn (fun h => (s.head h).markDue (s.inService h)) ∧
        s.probeTimer = s.setReader { s.reader with roster := x } := ⟨_, rfl, rfl⟩
    rw [honly]
    refine ⟨rfl, rfl, rfl, fun h => ?_⟩
    have hentry : (s.setReader { s.reader with roster := roster }).head h = (s.head h).markDue (s.inService h) := by
      rw [hroster]
      exact Vector.getElem_ofFn h.isLt
    rw [hentry, HeadRecord.markDue_eq]
  · rw [exec_probeWindowExpiry_eq hpoll hw, State.probeMissed, State.endPoll, State.setEngine_head]

end Sys2Proof.Machine
end


section
/-!
PROOF. The locker requests of the host (R65 to R70, R72, R73): the range test in front of each, and what each does at a
locker on a fitted string.
-/

namespace Sys2Proof.Machine

/-! ### A taken request and its reply (R18, R161) -/

section
variable {s : State} {r : Request} {body : List Byte} {t : State}

/-- A taken request runs its service. -/
theorem State.takes.exec_serve (h : s.takes r body) (tag : Byte) (hs : (s.taken r tag).serveHostRequest r body = t) :
    Machine.exec (r.command tag body) s = .next t.arbitrate := by
  rw [h.exec, hs]

/-- A service that ends in a reply at once. -/
theorem State.takes.exec_replied (h : s.takes r body) (tag : Byte) {res : Result} {data : ReplyData}
    (hs : (s.taken r tag).serveHostRequest r body = t.reply res data)
    (ho : t.link.outstanding = (s.taken r tag).link.outstanding) :
    Machine.exec (r.command tag body) s = .next (t.replied tag res data).arbitrate := by
  rw [h.exec_serve tag hs, State.reply_outstanding (ho.trans (s.taken_outstanding r tag))]

/-- A service that ends in a reply without data. -/
theorem State.takes.exec_answered (h : s.takes r body) (tag : Byte) {res : Result}
    (hs : (s.taken r tag).serveHostRequest r body = t.answer res)
    (ho : t.link.outstanding = (s.taken r tag).link.outstanding) :
    Machine.exec (r.command tag body) s = .next (t.replied tag res .none).arbitrate := h.exec_replied tag hs ho

/-- Only a RUNNING part that is not winding down takes a request outside the lists of R161. -/
theorem State.takes.running (h : s.takes r body) (hr : r ∉ [Request.status, .clockSet])
    (hr' : r ∉ [Request.clockRead, .storeFormat, .restart]) : s.part.winding = false := by
  have hshown : s.shownPart = .running := by
    have htest : s.partTest r = none := h.2.2
    rcases hs : s.shownPart with _ | _ | _
    · rw [State.partTest_starting hs, if_neg hr] at htest
      cases htest
    · rfl
    · have hr'' : r ∉ [Request.status, .clockSet, .clockRead, .storeFormat, .restart] := by simp_all
      rw [State.partTest_noStore hs, if_neg hr''] at htest
      cases htest
  by_contra hw
  rw [State.shownPart, if_pos (by simpa using hw)] at hshown
  cases hshown

end

/-! ### The range test (R65, R73) -/

/-- A locker number out of range, or a locker on a string that is not fitted. -/
theorem State.lockerRequest_range {s : State} {body : List Byte} (h : 255 < argWord body 0 ∨
    ∃ k : LockerNo, argWord body 0 = k.val ∧ (s.string (lockerString k)).fitting ≠ .fitted) (serve : LockerNo → State) :
    s.lockerRequest body serve = s.answer .range := by
  rcases h with h | ⟨k, hk, hfit⟩
  · rw [State.lockerRequest, inRangeOf_of_le (by omega)]
  · have hs : ¬s.stringFitted (lockerString k) = true := by simpa [State.stringFitted] using hfit
    rw [State.lockerRequest, hk, inRangeOf_val]
    exact if_neg hs

/-- The ten locker requests make that test first. -/
theorem serveHostRequest_locker {q : Request} (hq : q ∈ [Request.lockerAssign, .lockerShare, .lockerUnshare, .lockerOpen,
    .lockerRelease, .lockerReset, .lockerSuspend, .lockerResume, .lockerWatch, .lockerRead]) (s : State)
    (body : List Byte) : ∃ serve, s.serveHostRequest q body = s.lockerRequest body serve := by
  simp only [List.mem_cons, List.not_mem_nil, or_false] at hq
  rcases hq with rfl | rfl | rfl | rfl | rfl | rfl | rfl | rfl | rfl | rfl <;> exact ⟨_, rfl⟩

/-- A closed flag of a string out of range or not fitted. -/
theorem State.serveClosedFlag_range {s : State} {body : List Byte} (h : 7 < argByte body 0 ∨
    ∃ i : Fin 8, argByte body 0 = i.val ∧ (s.string (lockerStringNo i)).fitting ≠ .fitted) (closed : Bool) :
    s.serveClosedFlag body closed = s.answer .range := by
  rcases h with h | ⟨i, hi, hfit⟩
  · rw [State.serveClosedFlag, inRangeOf_of_le (by omega)]
  · have hs : ¬s.stringFitted (lockerStringNo i) = true := by simpa [State.stringFitted] using hfit
    rw [State.serveClosedFlag, hi, inRangeOf_val]
    exact if_neg hs

theorem State.serveClosedFlag_fitted {s : State} {body : List Byte} {i : Fin 8} (hi : argByte body 0 = i.val)
    (hfit : (s.string (lockerStringNo i)).fitting = .fitted) (closed : Bool) : s.serveClosedFlag body closed =
      (s.setLockers { s.lockers with closed := s.lockers.closed.set i.val closed }).answer .ok := by
  have hs : s.stringFitted (lockerStringNo i) = true := by simp [State.stringFitted, hfit]
  rw [State.serveClosedFlag, hi, inRangeOf_val]
  exact if_pos hs

/-- An on or off byte (R72). -/
theorem onOffOf_none {body : List Byte} {i : Nat} (h : 1 < argByte body i) : onOffOf (byteAt body i) = none := by
  unfold argByte at h
  generalize byteAt body i = b at h ⊢
  have h0 : b ≠ 0 := by
    rintro rfl
    exact absurd h (by decide)
  have h1 : b ≠ 1 := by
    rintro rfl
    exact absurd h (by decide)
  rw [onOffOf, if_neg h0, if_neg h1]

theorem onOffOf_some {body : List Byte} {i : Nat} (h : argByte body i ≤ 1) :
    onOffOf (byteAt body i) = some (decide (argByte body i = 1)) := by
  unfold argByte at h ⊢
  generalize byteAt body i = b at h ⊢
  have hb : b = 0 ∨ b = 1 := by
    rcases Nat.le_one_iff_eq_zero_or_eq_one.mp h with h | h
    · exact .inl (BitVec.eq_of_toNat_eq h)
    · exact .inr (BitVec.eq_of_toNat_eq h)
  rcases hb with rfl | rfl <;> rfl

/-- Settles O39. -/
theorem lockerRangeAndFlags : Obligations.LockerRangeAndFlags := by
  unfold Obligations.LockerRangeAndFlags
  refine ⟨fun s q tag body hq ht h => ?_, fun s tag body k ht hk hfit => ?_, fun s tag body =>
    ⟨fun k ht hk hfit => ⟨fun h => ?_, fun h => ?_⟩, fun h => ⟨fun ht => ?_, fun ht => ?_⟩,
      fun i hi hfit => ⟨fun ht => ?_, fun ht => ?_⟩⟩⟩
  · obtain ⟨serve, hserve⟩ := serveHostRequest_locker hq (s.taken q tag) body
    exact ht.exec_answered tag (hserve.trans (State.lockerRequest_range (s := s.taken q tag) h serve)) rfl
  · intro u
    have hserve : u.serveHostRequest .lockerUnshare body = _ := State.lockerRequest_fitted (s := u) hk hfit _
    refine ⟨fun h => ?_, fun b hb hlt => ⟨fun hmem => ?_, fun hmem => ?_⟩⟩
    · exact ht.exec_answered tag (hserve.trans (if_pos h)) rfl
    · have hlow : ¬u.tableLength ≤ argWord body 2 := by rw [hb]; exact Nat.not_le.mpr hlt
      rw [if_neg hlow, hb, bandNoOf_val] at hserve
      exact ht.exec_answered tag (hserve.trans (if_pos hmem)) rfl
    · have hlow : ¬u.tableLength ≤ argWord body 2 := by rw [hb]; exact Nat.not_le.mpr hlt
      rw [if_neg hlow, hb, bandNoOf_val] at hserve
      exact ht.exec_answered tag (hserve.trans (if_neg hmem)) rfl
  · refine ht.exec_answered tag ((State.lockerRequest_fitted (s := s.taken .lockerWatch tag) hk hfit _).trans ?_) rfl
    rw [onOffOf_none h]
  · refine ht.exec_answered tag ((State.lockerRequest_fitted (s := s.taken .lockerWatch tag) hk hfit _).trans ?_) rfl
    rw [onOffOf_some h]
    rfl
  · exact ht.exec_answered tag (State.serveClosedFlag_range (s := s.taken .stringClose tag) h true) rfl
  · exact ht.exec_answered tag (State.serveClosedFlag_range (s := s.taken .stringOpen tag) h false) rfl
  · exact ht.exec_answered tag (State.serveClosedFlag_fitted (s := s.taken .stringClose tag) hi hfit true) rfl
  · exact ht.exec_answered tag (State.serveClosedFlag_fitted (s := s.taken .stringOpen tag) hi hfit false) rfl

/-! ### LOCKER ASSIGN and LOCKER SHARE (R66, R67) -/

theorem BandState.active_iff (x : BandState) : x.active = true ↔ x = .issued ∨ x = .inside := by
  cases x <;> simp [BandState.active]

section
variable {s v : State} {q : Request} {body : List Byte} {i : Nat} {n : BandNo} {e : EntryNo} {rec : BandRecord}
  {w : BandRequest} {tag : Byte}

/-- A request at a held band is served at its entry (R5). -/
theorem State.Asks.exec_asked (h : s.Asks q body i n e rec) (hf : s.AsksFor q body i w) (tag : Byte) :
    exec (q.command tag body) s = .next (((s.taken q tag).serveAt e (.request w)).emptyTest e).arbitrate := by
  have hbelow : n.val < (s.taken q tag).tableLength := h.below
  rw [hf.exec h.takes h.service tag, h.names]
  exact congrArg (fun t : State => Host.Outcome.next t.arbitrate)
    ((State.bandOp_sent rfl).served e rec ⟨h.service, hbelow⟩ h.entry h.content)

/-- A service that leaves the record as it was: what it leaves besides, and its reply (R5, R18). -/
theorem State.serveAt_kept {res : Result} {data : ReplyData} (hc : (s.entry e).content = .valid n rec)
    (hs : (s.usedLast e).serveRequest n rec w = ⟨v, rec, some (res, data)⟩) :
    s.serveAt e (.request w) = v.reply res data := by
  have hserve : (s.touch e).serve n rec (.request w) = ⟨v, rec, some (res, data)⟩ := hs
  simp [State.serveAt, hc, hserve, State.replyServed]

theorem State.Asks.exec_kept (h : s.Asks q body i n e rec) (hf : s.AsksFor q body i w) {res : Result}
    {data : ReplyData}
    (hs : ((s.taken q tag).usedLast e).serveRequest n rec w = ⟨v, rec, some (res, data)⟩)
    (ho : v.link.outstanding = (s.taken q tag).link.outstanding) :
    exec (q.command tag body) s = .next ((v.replied tag res data).emptyTest e).arbitrate := by
  rw [h.exec_asked hf tag, State.serveAt_kept (s := s.taken q tag) h.content hs,
    State.reply_outstanding (ho.trans (s.taken_outstanding q tag))]

/-- Where the band is in use its entry stands. -/
theorem State.Asks.exec_kept_active (h : s.Asks q body i n e rec) (hf : s.AsksFor q body i w) {res : Result}
    {data : ReplyData}
    (hs : ((s.taken q tag).usedLast e).serveRequest n rec w = ⟨v, rec, some (res, data)⟩)
    (ho : v.link.outstanding = (s.taken q tag).link.outstanding) (hb : v.band = ((s.taken q tag).usedLast e).band)
    (ha : rec.state.active = true) :
    exec (q.command tag body) s = .next (v.replied tag res data).arbitrate := by
  have hcontent : ((v.replied tag res data).entry e).content = .valid n rec := by
    change v.band.cache[e.val].content = _
    rw [hb]
    exact h.content
  rw [h.exec_kept hf hs ho, State.emptyTest_active hcontent ha]

end

section
variable {s : State} {n : BandNo} {rec : BandRecord} {k : LockerNo}

/-- The tests of LOCKER ASSIGN (R66). -/
theorem State.serveAssign_refused (h : (s.locker k).state ≠ .vacant ∨ (rec.state ≠ .issued ∧ rec.state ≠ .inside) ∨
    ∃ j, (s.locker j).owner = some n) : s.serveAssign n rec k = ⟨s, rec, some (.state, .none)⟩ := by
  unfold State.serveAssign
  split
  · rfl
  · split
    · rfl
    · next hvacant hactive =>
      refine if_pos (State.ownedLocker_isSome.mpr ((h.resolve_left hvacant).resolve_left fun hout => ?_))
      rw [Bool.not_eq_false, BandState.active_iff] at hactive
      rcases hactive with ha | ha
      · exact hout.1 ha
      · exact hout.2 ha

theorem State.serveAssign_taken (hv : (s.locker k).state = .vacant) (ha : rec.state = .issued ∨ rec.state = .inside)
    (hn : ∀ j, (s.locker j).owner ≠ some n) : s.serveAssign n rec k =
      ⟨(s.setLocker k { s.locker k with state := .opened, owner := some n, companions := [], dirty := true }).journalClosed
        (.locker k) (some n) .desk .claim s.clock.value .done, rec, some (.ok, .none)⟩ := by
  have hactive : ¬rec.state.active = false := by rw [(BandState.active_iff _).mpr ha]; simp
  have howned : ¬(s.ownedLocker n).isSome = true := fun h => by
    obtain ⟨j, hj⟩ := State.ownedLocker_isSome.mp h
    exact hn j hj
  rw [State.serveAssign, if_neg (not_not_intro hv), if_neg hactive, if_neg howned]
  rfl

/-- The tests of LOCKER SHARE (R67). -/
theorem State.serveShare_refused (h : (s.locker k).owner = none ∨ (rec.state ≠ .issued ∧ rec.state ≠ .inside) ∨
    (s.locker k).owner = some n ∨ ∃ j, n ∈ (s.locker j).companions) :
    s.serveShare n rec k = ⟨s, rec, some (.state, .none)⟩ := by
  unfold State.serveShare
  dsimp only
  split
  · rfl
  · split
    · rfl
    · next howner hactive =>
      split
      · rfl
      · next hother =>
        refine if_pos (State.companionLocker_isSome.mpr (((h.resolve_left howner).resolve_left fun hout => ?_).resolve_left
          hother))
        rw [Bool.not_eq_false, BandState.active_iff] at hactive
        rcases hactive with ha | ha
        · exact hout.1 ha
        · exact hout.2 ha

theorem State.serveShare_tested {b : BandNo} (ho : (s.locker k).owner = some b) (hb : b ≠ n)
    (ha : rec.state = .issued ∨ rec.state = .inside) (hn : ∀ j, n ∉ (s.locker j).companions) :
    s.serveShare n rec k = if 3 ≤ (s.locker k).companions.length then ⟨s, rec, some (.full, .none)⟩
      else ⟨s.setLocker k { s.locker k with companions := (s.locker k).companions ++ [n], dirty := true }, rec,
        some (.ok, .none)⟩ := by
  have hactive : ¬rec.state.active = false := by rw [(BandState.active_iff _).mpr ha]; simp
  have hcompanion : ¬(s.companionLocker n).isSome = true := fun h => by
    obtain ⟨j, hj⟩ := State.companionLocker_isSome.mp h
    exact hn j hj
  rw [State.serveShare, if_neg (by simp [ho]), if_neg hactive, if_neg (by simpa [ho] using hb), if_neg hcompanion]
  rfl

end

/-- Settles O40. -/
theorem lockerAssignShare : Obligations.LockerAssignShare := by
  intro s tag body n e rec k hk hfit l u x
  have hassign : s.AsksFor .lockerAssign body 2 (.assign k) := .inr (.inr ⟨k, hk, hfit, rfl, .inl ⟨rfl, rfl⟩⟩)
  have hshare : s.AsksFor .lockerShare body 2 (.share k) := .inr (.inr ⟨k, hk, hfit, rfl, .inr ⟨rfl, rfl⟩⟩)
  refine ⟨fun h => ⟨fun htests => ?_, fun hv ha hn => ?_⟩, fun h => ⟨fun htests => ?_, fun b ho hb ha hn => ⟨fun hfull => ?_,
    fun hroom => ?_⟩⟩⟩
  · exact h.exec_kept hassign (State.serveAssign_refused (s := u) htests) rfl
  · have hserved := State.serveAssign_taken (s := u) (n := n) hv ha hn
    have hjournal := (u.setLocker k { l with
      state := .opened, owner := some n, companions := [], dirty := true }).journalClosed_only (.locker k) (some n) .desk
        .claim s.clock.value .done
    refine h.exec_kept_active hassign hserved ?_ ?_ ((BandState.active_iff _).mpr ha)
    · exact State.journalClosed_outstanding ..
    · obtain ⟨j, m, hj⟩ := hjournal
      exact (congrArg State.band hj).trans rfl
  · exact h.exec_kept hshare (State.serveShare_refused (s := x) htests) rfl
  · have hserved := (State.serveShare_tested (s := x) (n := n) ho hb ha hn).trans (if_pos hfull)
    exact h.exec_kept_active hshare hserved rfl rfl ((BandState.active_iff _).mpr ha)
  · have hserved := (State.serveShare_tested (s := x) (n := n) ho hb ha hn).trans (if_neg (Nat.not_le.mpr hroom))
    exact h.exec_kept_active hshare hserved rfl rfl ((BandState.active_iff _).mpr ha)

/-! ### The actions of the desk (R50, R68 to R70) -/

/-- An action begun at a locker (R50): its fields, its pulse at the tail of the queue, its open entry. -/
theorem State.beginLocker_eq (s : State) (k : LockerNo) (st : LockerState) (a : LockerAction) (band : Option BandNo)
    (party : Party) (entryBand : Option BandNo) (start : Stamp) :
    let t := (s.setLocker k { s.locker k with
      state := st
      work := some ⟨a, band, party, (s.locker k).state, .queued⟩
      retryUsed := false
      doorOpened := false
      window := none
      dirty := true }).setString (lockerString k) { s.string (lockerString k) with
        queue := s.pulsesWith (lockerString k) (lockerPosition k) st.direction }
    let j := t.journalOpen (.locker k) entryBand party a.journal start
    s.beginLocker k st a band party entryBand start = j.2.setLocker k { j.2.locker k with link := j.1 } := by
  intro t j
  let v : State := s.setLocker k { s.locker k with
    state := st
    work := some ⟨a, band, party, (s.locker k).state, .queued⟩
    retryUsed := false
    doorOpened := false
    window := none
    dirty := true }
  have hplaced : v.placePulse (lockerString k) (lockerPosition k) st.direction = t := State.placePulse_eq ..
  change ((v.placePulse (lockerString k) (lockerPosition k) st.direction).journalOpen (.locker k) entryBand party
    a.journal start).2.setLocker k _ = _
  rw [hplaced]

/-- Out of the winding-down interval a pulse joins the tail of the queue (R79). -/
theorem State.pulsesWith_placed {s : State} (hw : s.part.winding = false) (i : StringNo) (p : Position) (d : Direction) :
    s.pulsesWith i p d = (s.string i).queue ++ [⟨p, d⟩] := if_neg (Bool.eq_false_iff.mp hw)

/-- Settles O41. -/
theorem lockerDesk : Obligations.LockerDesk := by
  intro s q tag body k ht hk hfit l u begun
  have hrequest (serve : LockerNo → State) : u.lockerRequest body serve = serve k :=
    State.lockerRequest_fitted (s := u) hk hfit serve
  have hbegun {t : State} (a : LockerAction) (hw : s.part.winding = false)
      (hserve : u.serveHostRequest q body = t.answer .ok) (hdesk : t = u.beginDesk k a) :
      exec (q.command tag body) s = .next (begun a).arbitrate := by
    have hbegin : begun a = (u.beginDesk k a).replied tag .ok .none := by
      rw [State.beginDesk, State.beginLocker_eq, State.pulsesWith_placed (s := u) hw]
      rfl
    rw [hbegin, ← hdesk]
    exact ht.exec_answered tag hserve (by rw [hdesk]; exact u.beginDesk_outstanding k a)
  have hstate (hserve : u.serveHostRequest q body = u.answer .state) :
      exec (q.command tag body) s = .next (u.replied tag .state .none).arbitrate :=
    ht.exec_answered tag hserve rfl
  have hwinding (hq : q = .lockerOpen ∨ q = .lockerReset ∨ q = .lockerRelease) : s.part.winding = false := by
    refine ht.running ?_ ?_ <;> rcases hq with rfl | rfl | rfl <;> decide
  refine ⟨?_, ?_, ?_⟩
  · rintro rfl
    have hserve := hrequest fun k => if (u.locker k).state = .locked then (u.beginDesk k .deskOpen).answer .ok
      else u.answer .state
    split
    · next hl => exact hbegun .deskOpen (hwinding (.inl rfl)) (hserve.trans (if_pos hl)) rfl
    · next hl => exact hstate (hserve.trans (if_neg hl))
  · rintro rfl
    have hserve := hrequest fun k => match (u.locker k).state with
      | .forced => (u.beginDesk k .reset).answer .ok
      | .jammed => (u.beginDesk k .reset).answer .ok
      | _ => u.answer .state
    split
    · next hl =>
      refine hbegun .reset (hwinding (.inr (.inl rfl))) (hserve.trans ?_) rfl
      have hl' : (u.locker k).state = .forced ∨ (u.locker k).state = .jammed := hl
      rcases hl' with hl' | hl' <;> rw [hl']
    · next hl =>
      refine hstate (hserve.trans ?_)
      have hl' : ¬((u.locker k).state = .forced ∨ (u.locker k).state = .jammed) := hl
      split
      · next h => exact absurd (.inl h) hl'
      · next h => exact absurd (.inr h) hl'
      · rfl
  · rintro rfl
    have hserve := hrequest fun k => match (u.locker k).state with
      | .opened => (u.releaseOpened k).answer .ok
      | .locked => (u.beginDesk k .release).answer .ok
      | .abandoned => (u.beginDesk k .release).answer .ok
      | _ => u.answer .state
    have hl' : u.locker k = l := rfl
    rw [hl'] at hserve
    split
    · next hl =>
      refine hbegun .release (hwinding (.inr (.inr rfl))) (hserve.trans ?_) rfl
      rcases hl with hl | hl <;> rw [hl]
    · next hl =>
      split
      · next hopened =>
        refine ht.exec_answered tag (hserve.trans ?_) ?_
        · rw [hopened]
          rfl
        · exact State.journalClosed_outstanding ..
      · next hopened =>
        refine hstate (hserve.trans ?_)
        split
        · next h => exact absurd h hopened
        · next h => exact absurd (.inl h) hl
        · next h => exact absurd (.inr h) hl
        · rfl

end Sys2Proof.Machine
end


section
/-!
PROOF. The settings requests (R77, R108, R149, R159), the requests that only read (R74, R89, R109, R113, R119, R140,
R159), the cabin requests (R106, R107) and the tariff requests (R116 to R119): the ranges, then what each does.
-/

namespace Sys2Proof.Machine

/-! ### Ranges and settings (R11, R75) -/

theorem within_iff {lo hi n : Nat} : within lo hi n = true ↔ lo ≤ n ∧ n ≤ hi := by
  simp [within]

theorem onTens_iff {lo hi n : Nat} : onTens lo hi n = true ↔ lo ≤ n ∧ n ≤ hi ∧ n % 10 = 0 := by
  simp [onTens, and_assoc]

section
variable {s : State} {r : Request} {body : List Byte}

/-- A taken settings request with values in range. -/
theorem State.taken_applySettings (s : State) (r : Request) (tag : Byte) (x : Settings) :
    (s.taken r tag).applySettings x = (s.taken r tag).tookSettings tag x :=
  State.applySettings_outstanding (s.taken_outstanding r tag) x

theorem State.takes.exec_settings (h : s.takes r body) (tag : Byte) {x : Settings}
    (hs : (s.taken r tag).serveHostRequest r body = (s.taken r tag).applySettings x) :
    Machine.exec (r.command tag body) s = .next ((s.taken r tag).tookSettings tag x).arbitrate := by
  rw [h.exec_serve tag hs, State.taken_applySettings]

/-- A taken request replied RANGE at once. -/
theorem State.takes.exec_range (h : s.takes r body) (tag : Byte)
    (hs : (s.taken r tag).serveHostRequest r body = (s.taken r tag).answer .range) :
    Machine.exec (r.command tag body) s = .next ((s.taken r tag).replied tag .range .none).arbitrate :=
  h.exec_answered tag hs rfl

/-- A taken request that only reads. -/
theorem State.takes.exec_read (h : s.takes r body) (tag : Byte) {data data' : ReplyData}
    (hs : (s.taken r tag).serveHostRequest r body = (s.taken r tag).reply .ok data) (hdata : data = data') :
    Machine.exec (r.command tag body) s = .next ((s.taken r tag).replied tag .ok data').arbitrate := by
  rw [← hdata]
  exact h.exec_replied tag hs rfl

end

/-- Taken settings are those in force, whether they differ or not; the band unit and the link are what changes besides. -/
theorem State.tookSettings_only (s : State) (tag : Byte) (x : Settings) : s.tookSettings tag x =
    ((s.setSettings x).setBand (s.tookSettings tag x).band).setLink (s.tookSettings tag x).link := by
  unfold State.tookSettings
  split
  · next h =>
    subst h
    rfl
  · dsimp only
    split <;> rfl

/-- A miss count below its limit (R159). -/
theorem HeadRecord.clampMiss_eq (limit : Nat) (x : HeadRecord) :
    x.clampMiss limit = { x with miss := if limit ≤ x.miss then limit - 1 else x.miss } := by
  have hmin : min x.miss (limit - 1) = if limit ≤ x.miss then limit - 1 else x.miss := by
    split <;> omega
  rw [HeadRecord.clampMiss, hmin]

theorem State.tookSettings_clampMisses (s : State) (tag : Byte) (x : Settings) : (s.tookSettings tag x).clampMisses =
    (s.tookSettings tag x).setReader { s.reader with
      roster := s.reader.roster.map (HeadRecord.clampMiss x.missLimit) } := by
  have honly := s.tookSettings_only tag x
  generalize s.tookSettings tag x = t at honly ⊢
  rw [State.clampMisses, honly]
  rfl

/-- Settles O48. -/
theorem settingsRequests : Obligations.SettingsRequests := by
  unfold Obligations.SettingsRequests
  refine ⟨fun s tag body => ⟨fun ht => ?_, fun ht => ?_, fun ht => ⟨fun h => ?_, fun h => ?_⟩⟩, fun s tag body ht => ?_⟩
  · intro x good
    have hgood : x.inRange = true ↔ good := by
      simp only [StringSettings.inRange, Bool.and_eq_true, onTens_iff, Nat.zero_le, true_and, and_assoc, good]
    let u : State := s.taken .stringSettings tag
    refine ⟨fun h => ht.exec_range tag ?_, fun i hi h => ht.exec_settings tag ?_⟩
    · change u.serveStringSettings body = _
      rcases Nat.lt_or_ge 8 (argByte body 0) with hi | hi
      · rw [State.serveStringSettings, inRangeOf_of_le (by omega)]
      · have hbad : ¬x.inRange = true := fun hx => (h.resolve_left (by omega)) (hgood.mp hx)
        rw [State.serveStringSettings, inRangeOf_of_lt (by omega)]
        exact if_neg hbad
    · change u.serveStringSettings body = _
      rw [State.serveStringSettings, hi, inRangeOf_val]
      exact if_pos (hgood.mpr h)
  · intro good
    have hgood : (within 60 3600 (argWord body 0) && within 0 1800 (argWord body 2) && onTens 100 1000 (argWord body 4)) =
        true ↔ good := by
      simp only [Bool.and_eq_true, within_iff, onTens_iff, Nat.zero_le, true_and, and_assoc, good]
    exact ⟨fun h => ht.exec_range tag (if_neg fun hx => h (hgood.mp hx)),
      fun h => ht.exec_settings tag (if_pos (hgood.mpr h))⟩
  · refine ht.exec_range tag ?_
    change (s.taken .journalOptions tag).serveJournalOptions body = _
    rw [State.serveJournalOptions, onOffOf_none h]
  · refine ht.exec_settings tag ?_
    change (s.taken .journalOptions tag).serveJournalOptions body = _
    rw [State.serveJournalOptions, onOffOf_some h]
    rfl
  · intro good
    have hgood : (within 2 20 (argByte body 0) && within 1 7 (argByte body 1)) = true ↔ good := by
      simp only [Bool.and_eq_true, within_iff, and_assoc, good]
    refine ⟨fun h => ht.exec_range tag (if_neg fun hx => h (hgood.mp hx)), fun h => ht.exec_serve tag ?_⟩
    refine (if_pos (hgood.mpr h)).trans ?_
    have hclamp : HeadRecord.clampMiss (argByte body 1) = fun x : HeadRecord => { x with
        miss := if argByte body 1 ≤ x.miss then argByte body 1 - 1 else x.miss } :=
      funext (HeadRecord.clampMiss_eq _)
    rw [State.taken_applySettings, State.tookSettings_clampMisses, ← hclamp]
    rfl

/-! ### Reads -/

/-- A number out of a byte's or word's range names no cabin, lane or string (R89, R107, R137). -/
theorem State.cabinRequest_named {s : State} {body : List Byte} {c : CabinNo} (h : argByte body 0 = c.val)
    (serve : CabinNo → State) : s.cabinRequest body serve = serve c := by
  rw [State.cabinRequest, h, inRangeOf_val]

theorem State.cabinRequest_range {s : State} {body : List Byte} (h : 23 < argByte body 0) (serve : CabinNo → State) :
    s.cabinRequest body serve = s.answer .range := by
  rw [State.cabinRequest, inRangeOf_of_le (by omega)]

theorem State.laneRequest_named {s : State} {body : List Byte} {l : LaneNo} (h : argByte body 0 = l.val)
    (serve : LaneNo → State) : s.laneRequest body serve = serve l := by
  rw [State.laneRequest, h, inRangeOf_val]

theorem State.laneRequest_range {s : State} {body : List Byte} (h : 3 < argByte body 0) (serve : LaneNo → State) :
    s.laneRequest body serve = s.answer .range := by
  rw [State.laneRequest, inRangeOf_of_le (by omega)]

theorem stringPositions_eq (i : StringNo) :
    stringPositions i = (List.finRange 32).filter (fun p => decide (i.val < 8 ∨ p.val < 24)) := by
  unfold stringPositions
  split
  · next h =>
    subst h
    exact List.filter_congr fun p _ => by simp [cabinString]
  · next h =>
    have hlt : i.val < 8 := by
      have := i.isLt
      have : i.val ≠ 8 := fun h8 => h (Fin.ext h8)
      omega
    exact (List.filter_eq_self.mpr fun p _ => by simp [hlt]).symm

theorem State.pollOf_eq (s : State) (line : Line) (h : HeadNo) : s.pollOf line h =
    ((s.engine line).poll.filter (fun p => decide (p.head = h))).map (fun p => (line, p.probe)) := by
  unfold State.pollOf
  rcases (s.engine line).poll with _ | p
  · rfl
  · by_cases hp : p.head = h <;> simp [hp]

theorem State.inService_eq (s : State) (h : HeadNo) : s.inService h =
    if h1 : h.val < 256 then decide ((s.string (lockerString ⟨h.val, h1⟩)).fitting = .fitted)
    else if h.val < 280 then decide ((s.string 8).fitting = .fitted)
    else decide (h.val - 280 < s.settings.fittedLanes) := by
  have hfitted (i : StringNo) : s.stringFitted i = decide ((s.string i).fitting = .fitted) := by
    rw [State.stringFitted]
    exact beq_eq_decide _ _
  unfold State.inService
  by_cases h1 : h.val < 256
  · rw [headTarget_locker h1, dif_pos h1]
    exact hfitted _
  · by_cases h2 : h.val < 280
    · rw [headTarget_cabin (by omega) h2, dif_neg h1, if_pos h2]
      exact hfitted _
    · rw [headTarget_lane (by omega), dif_neg h1, if_neg h2]
      rfl

/-- Settles O49. -/
theorem reads : Obligations.Reads := by
  intro s tag body
  refine ⟨fun k ht hk hfit => ?_, fun ht => ⟨fun h => ?_, fun i hi => ?_⟩, fun ht => ⟨fun h => ?_, fun c hc => ?_⟩,
    fun ht => ⟨fun h => ?_, fun l hl => ?_⟩, fun ht => ⟨fun h => ?_, fun h hh => ?_⟩, fun ht => ht.exec_read tag rfl rfl,
    fun ht => ht.exec_read tag rfl rfl⟩
  · exact ht.exec_read tag (State.lockerRequest_fitted (s := s.taken .lockerRead tag) hk hfit _) rfl
  · refine ht.exec_range tag ?_
    change (s.taken .stringRead tag).serveStringRead body = _
    rw [State.serveStringRead, inRangeOf_of_le (by omega)]
  · intro x
    refine ht.exec_read (data := .string ((s.taken .stringRead tag).stringData i)) tag ?_ ?_
    · change (s.taken .stringRead tag).serveStringRead body = _
      rw [State.serveStringRead, hi, inRangeOf_val]
    · rw [State.stringData, stringPositions_eq]
      rcases hx : (s.string i).driver with _ | _ | _ <;>
        simp only [State.taken_string, StringRecord.coil, Driver.shown, hx, x] <;> rfl
  · exact ht.exec_range tag (State.cabinRequest_range (s := s.taken .cabinRead tag) h _)
  · intro x
    refine ht.exec_read tag (State.cabinRequest_named (s := s.taken .cabinRead tag) hc _) ?_
    rw [State.cabinData, State.lampOutput]
    have hcabin : (s.taken .cabinRead tag).cabin c = s.cabin c := rfl
    rcases hx : (s.cabin c).state with _ | _ | _ | _ | _ | _ <;>
      simp only [hcabin, CabinState.lampMode, hx, x] <;> rfl
  · exact ht.exec_range tag (State.laneRequest_range (s := s.taken .laneRead tag) h _)
  · intro x
    refine ht.exec_read tag (State.laneRequest_named (s := s.taken .laneRead tag) hl _) ?_
    rw [State.laneData]
    have hlane : (s.taken .laneRead tag).lane l = s.lane l := rfl
    rcases ha : (s.lane l).arm with _ | a <;> rcases hc : (s.lane l).commit with _ | c <;>
      simp only [hlane, Option.map, ha, hc, x] <;> rfl
  · refine ht.exec_range tag ?_
    change (s.taken .headRead tag).serveHeadRead body = _
    rw [State.serveHeadRead, inRangeOf_of_le (by omega)]
  · intro x polled
    refine ht.exec_read (data := .head ((s.taken .headRead tag).headData h)) tag ?_ ?_
    · change (s.taken .headRead tag).serveHeadRead body = _
      rw [State.serveHeadRead, hh, inRangeOf_val]
    · rw [State.headData, State.inService_eq, State.pollOf_eq, State.pollOf_eq]
      rfl

/-! ### Cabins (R107) -/

/-- Settles O50. -/
theorem cabinRequests : Obligations.CabinRequests := by
  intro s tag body
  refine ⟨fun h q hq ht => ?_, fun c hc => ?_⟩
  · refine ht.exec_range tag ?_
    simp only [List.mem_cons, List.not_mem_nil, or_false] at hq
    rcases hq with rfl | rfl | rfl <;> exact State.cabinRequest_range h _
  · intro x opened
    have hopened {q : Request} (ht : s.takes q body) (hw : s.part.winding = false) {a : CabinAction} {prior : CabinState}
        (hserve : (s.taken q tag).serveHostRequest q body = ((s.taken q tag).openCabin c a prior false).answer .ok) :
        exec (q.command tag body) s = .next (opened (s.taken q tag) a prior).arbitrate := by
      have hopen : opened (s.taken q tag) a prior = ((s.taken q tag).openCabin c a prior false).replied tag .ok .none := by
        rw [State.openCabin_eq, State.pulsesWith_placed (s := s.taken q tag) hw]
        rfl
      rw [hopen]
      exact ht.exec_answered tag hserve (State.openCabin_outstanding ..)
    have hstate {q : Request} (ht : s.takes q body)
        (hserve : (s.taken q tag).serveHostRequest q body = (s.taken q tag).answer .state) :
        exec (q.command tag body) s = .next ((s.taken q tag).replied tag .state .none).arbitrate :=
      ht.exec_answered tag hserve rfl
    refine ⟨fun ht => ?_, fun ht => ?_, fun ht => ⟨fun h => ?_, fun h hbolt => ?_, fun h hbolt => ?_⟩⟩
    · have hserve : (s.taken .cabinRelease tag).serveCabinRelease body = _ :=
        State.cabinRequest_named (s := s.taken .cabinRelease tag) hc _
      have hx : (s.taken .cabinRelease tag).cabin c = x := rfl
      rw [hx] at hserve
      split
      · next h =>
        refine hopened ht (ht.running (by decide) (by decide)) (hserve.trans ?_)
        rcases h with h | h <;> rw [h]
      · next h =>
        refine hstate ht (hserve.trans ?_)
        split
        · next h' => exact absurd (.inl h') h
        · next h' => exact absurd (.inr h') h
        · rfl
    · have hserve : (s.taken .cabinSuspend tag).serveCabinSuspend body = _ :=
        State.cabinRequest_named (s := s.taken .cabinSuspend tag) hc _
      split
      · next h => exact ht.exec_answered tag (hserve.trans (if_pos h)) rfl
      · next h => exact hstate ht (hserve.trans (if_neg h))
    · exact hstate ht ((State.cabinRequest_named (s := s.taken .cabinResume tag) hc _).trans (if_pos h))
    · have hthrown : (s.taken .cabinResume tag).cabinThrown c = true := beq_iff_eq.mpr hbolt
      exact hopened ht (ht.running (by decide) (by decide)) ((State.cabinRequest_named (s := s.taken .cabinResume tag) hc
        _).trans ((if_neg (not_not_intro h)).trans (if_pos hthrown)))
    · have hthrown : ¬(s.taken .cabinResume tag).cabinThrown c = true := by
        intro hthrown
        have := beq_iff_eq.mp hthrown
        exact absurd (hbolt.symm.trans this) (by simp)
      exact ht.exec_answered tag ((State.cabinRequest_named (s := s.taken .cabinResume tag) hc _).trans
        ((if_neg (not_not_intro h)).trans (if_neg hthrown))) rfl

/-! ### Tariffs (R116 to R119) -/

theorem State.tariffSwitch_eq (s : State) (table : TariffTable) : s.tariffSwitch table = s.switchedTo table := by
  rw [State.tariffSwitch, State.askHeaderWrite_eq]
  rfl

/-- A switch made at its request asks for the HEADER WRITE, and its reply is that of a settings request (R117, log 28). -/
theorem State.switchNow_eq {s : State} {o : Outstanding} (ho : s.link.outstanding = some o) (table : TariffTable) :
    s.switchNow table = if s.band.port = .fault then (s.switchedTo table).replied o.tag .store .none
      else (s.switchedTo table).setBand { (s.switchedTo table).band with
        replyWait := some ⟨.header, .none, false⟩ } := by
  have hout : (s.switchedTo table).link.outstanding = some o := by
    rw [← State.tariffSwitch_eq, State.tariffSwitch_outstanding, ho]
  rw [State.switchNow, State.tariffSwitch_eq, State.replyAfterHeader_outstanding hout]
  rfl

theorem TariffClass.inRange_iff (x : TariffClass) (hcap : x.cap ≤ 65535) :
    x.inRange = true ↔ x.grace ≤ 900 ∧ 1 ≤ x.block ∧ x.block ≤ 120 ∧ x.price ≤ 5000 := by
  simp only [TariffClass.inRange, Bool.and_eq_true, within_iff, Nat.zero_le, true_and, and_assoc, hcap, and_true]

theorem argWord_le (body : List Byte) (i : Nat) : argWord body i ≤ 65535 := by
  have h₁ := (byteAt body i).isLt
  have h₂ := (byteAt body (i + 1)).isLt
  unfold argWord be16
  omega

/-- Settles O53. -/
theorem tariffRequests : Obligations.TariffRequests := by
  intro s tag body
  refine ⟨fun ht => ?_, fun ht => ?_, fun ht => ?_⟩
  · intro x u good
    have hgood : x.inRange = true ↔ good := x.inRange_iff (argWord_le body 6)
    refine ⟨fun h => ht.exec_range tag ?_, fun c hc h => ?_⟩
    · change u.serveTariffStage body = _
      rcases Nat.lt_or_ge 7 (argByte body 0) with hi | hi
      · rw [State.serveTariffStage, inRangeOf_of_le (by omega)]
      · have hbad : ¬x.inRange = true := fun hx => (h.resolve_left (by omega)) (hgood.mp hx)
        rw [State.serveTariffStage, inRangeOf_of_lt (by omega)]
        exact if_neg hbad
    · have hserve : u.serveTariffStage body =
          (u.setClock { u.clock with pendingTable := some (u.stagedOn.set c.val x) }).answer .ok := by
        rw [State.serveTariffStage, hc, inRangeOf_val]
        exact if_pos (hgood.mpr h)
      refine ⟨fun table htable => ht.exec_answered tag (hserve.trans ?_) rfl,
        fun hnone => ht.exec_answered tag (hserve.trans ?_) rfl⟩
      · have hon : u.stagedOn = table := by
          have : u.clock.pendingTable = some table := htable
          rw [State.stagedOn, this]
          rfl
        rw [hon]
        rfl
      · have hon : u.stagedOn = s.settings.tariff := by
          have : u.clock.pendingTable = none := hnone
          rw [State.stagedOn, this]
          rfl
        rw [hon]
        rfl
  · intro u made
    have hmade (table : TariffTable) : u.switchNow table = made table :=
      State.switchNow_eq (s.taken_outstanding .tariffSwitch tag) table
    have hbyte {n : Bool} (h : argByte body 0 ≤ 1) (hn : decide (argByte body 0 = 1) = n) :
        onOffOf (byteAt body 0) = some n := by rw [onOffOf_some h, hn]
    refine ⟨fun h => ht.exec_range tag ?_, fun h hnone => ht.exec_answered tag ?_ rfl, fun table htable => ⟨fun h => ?_,
      fun h hset => ?_, fun h hset hle => ?_, fun h hset hlt => ?_⟩⟩
    · change u.serveTariffSwitch body = _
      rw [State.serveTariffSwitch, onOffOf_none h]
    · change u.serveTariffSwitch body = _
      have : u.clock.pendingTable = none := hnone
      rw [State.serveTariffSwitch, onOffOf_some h, this]
    · refine ht.exec_serve tag ?_
      change u.serveTariffSwitch body = _
      have : u.clock.pendingTable = some table := htable
      rw [State.serveTariffSwitch, hbyte (n := true) (by omega) (by simp [h]), this]
      exact hmade table
    all_goals
      have hserve : u.serveTariffSwitch body = if u.clock.isSet = false then u.answer .clockUnset
          else if (argLong body 1).toNat ≤ u.now.toNat then u.switchNow table
          else (u.setClock { u.clock with switchStamp := some (argLong body 1) }).answer .ok := by
        have : u.clock.pendingTable = some table := htable
        rw [State.serveTariffSwitch, hbyte (n := false) (by omega) (by simp [h]), this]
    · exact ht.exec_answered tag (hserve.trans (if_pos hset)) rfl
    · have hset' : ¬u.clock.isSet = false := by rw [show u.clock.isSet = true from hset]; simp
      exact ht.exec_serve tag (hserve.trans ((if_neg hset').trans ((if_pos hle).trans (hmade table))))
    · have hset' : ¬u.clock.isSet = false := by rw [show u.clock.isSet = true from hset]; simp
      exact ht.exec_answered tag (hserve.trans ((if_neg hset').trans (if_neg (Nat.not_le.mpr hlt)))) rfl
  · intro u
    refine ⟨fun h => ht.exec_answered tag ?_ rfl, fun h => ht.exec_answered tag ?_ rfl⟩
    · obtain ⟨table, htable⟩ := Option.isSome_iff_exists.mp h
      change u.serveTariffDiscard = _
      have : u.clock.pendingTable = some table := htable
      rw [State.serveTariffDiscard, this]
      rfl
    · change u.serveTariffDiscard = _
      have : u.clock.pendingTable = none := h
      rw [State.serveTariffDiscard, this]

end Sys2Proof.Machine
end


section
/-!
PROOF. The locker's actions at their ends and its contacts (R56 to R61), and the string drivers that report to it and to
the cabins (R81 to R83).
-/

namespace Sys2Proof.Machine

/-! ### A locker at rest (R57 to R59) -/

/-- A locker at rest again, the owner and the companions going with a claim. -/
theorem State.restLocker_claim (s : State) (k : LockerNo) (st : LockerState) (a : LockerAction) (o : EntryOutcome) :
    s.restLocker k st (a == .claim) o = (s.setLocker k { s.locker k with
      state := st
      owner := if a = .claim then none else (s.locker k).owner
      companions := if a = .claim then [] else (s.locker k).companions
      work := none
      retryUsed := false
      doorOpened := false
      window := none
      link := none
      dirty := true }).journalClose (s.locker k).link (.locker k) o := by
  simp only [State.restLocker, beq_iff_eq]

theorem LockerState.direction_eq (st : LockerState) : st.direction = if st = .locking then .throw else .withdraw := by
  cases st <;> rfl

theorem LockerAction.isThrow_iff (a : LockerAction) : a.isThrow = true ↔ a = .claim ∨ a = .lock := by
  cases a <;> simp [LockerAction.isThrow]

section
variable {s : State} {k : LockerNo} {w : LockerWork}

/-- An UNLOCKING locker whose action is a throw ends the undo of it (R59). -/
theorem State.confirmLocker_undone (hw : (s.locker k).work = some w) (hst : (s.locker k).state = .unlocking)
    (ha : w.action.isThrow = true) :
    s.confirmLocker k = s.restLocker k w.prior (w.action == .claim) .doorOpen := by
  simp only [State.confirmLocker, hw, hst, ha, and_self, if_true]

/-- A throw whose door has opened is undone (R59). -/
theorem State.confirmLocker_undo (hw : (s.locker k).work = some w) (hst : (s.locker k).state = .locking)
    (hd : (s.locker k).doorOpened = true) : s.confirmLocker k = s.undoLocker k w := by
  simp only [State.confirmLocker, hw, hst, hd, reduceCtorEq, false_and, if_false, if_true]

/-- Every other action ends in the state of R50's table. -/
theorem State.confirmLocker_done (hw : (s.locker k).work = some w) (hd : (s.locker k).doorOpened = false)
    (ha : (s.locker k).state = .locking ∨ w.action.isThrow = false) :
    s.confirmLocker k = s.restLocker k (confirmedState w (s.locker k).owner)
      (confirmedState w (s.locker k).owner == .vacant) .done := by
  have hnot : ¬((s.locker k).state = .unlocking ∧ w.action.isThrow = true) := by
    rintro ⟨hst, hthrow⟩
    rcases ha with ha | ha
    · rw [hst] at ha
      cases ha
    · rw [hthrow] at ha
      cases ha
  simp only [State.confirmLocker, hw, hnot, hd, if_false, Bool.false_eq_true]

end

/-- Settles O43. -/
theorem lockerActionEnds : Obligations.LockerActionEnds := by
  unfold Obligations.LockerActionEnds
  refine ⟨fun s k w ms hw hsub hwin => ?_, fun s k w hw => ?_⟩
  · intro l
    have hrun {t : State} (h : s.lockerWindowExpiry k = t) : exec (.lockerConfirmExpiry k) s = .next t.arbitrate :=
      congrArg (fun t : State => Host.Outcome.next t.arbitrate) h
    have hexpiry : s.lockerWindowExpiry k = if l.retryUsed = true then s.jamLocker k w
        else (s.setLocker k { l with work := some { w with sub := .queued }, retryUsed := true, window := none }).placePulse
          (lockerString k) (lockerPosition k) l.state.direction := by
      simp only [State.lockerWindowExpiry, hw, hwin, hsub, if_true, l]
    refine ⟨fun h => hrun ?_, fun h => hrun ?_⟩
    · rw [hexpiry, if_neg (by simp [h]), State.placePulse_eq, LockerState.direction_eq]
      rfl
    · rw [hexpiry, if_pos h, State.jamLocker, State.restLocker_claim]
  · intro l rests
    refine ⟨fun hst ha => ?_, fun hst ha => ?_, fun hst hd => ?_, fun hst hd ha => ?_, fun hst hd =>
      ⟨fun ha => ?_, fun ha => ?_⟩⟩
    · rw [State.confirmLocker_undone hw hst (by rw [ha]; rfl), ha]
      rfl
    · rw [State.confirmLocker_undone hw hst (by rw [ha]; rfl), ha]
      rfl
    · rw [State.confirmLocker_undo hw hst hd, State.undoLocker, State.placePulse_eq]
      rfl
    · have hlocked : confirmedState w l.owner = .locked := by
        rcases ha with ha | ha <;> rw [confirmedState, ha]
      rw [State.confirmLocker_done hw hd (.inl hst), hlocked]
      rfl
    · have hopened : confirmedState w l.owner = .opened := by
        rcases ha with ha | ha | ⟨ha, hp⟩ | ⟨ha, ho⟩
        · rw [confirmedState, ha]
        · rw [confirmedState, ha]
        · rw [confirmedState, ha]
          exact if_neg hp
        · rw [confirmedState, ha]
          exact if_pos ho
      have hthrow : w.action.isThrow = false := by
        rcases ha with ha | ha | ⟨ha, -⟩ | ⟨ha, -⟩ <;> rw [ha] <;> rfl
      rw [State.confirmLocker_done hw hd (.inr hthrow), hopened]
      rfl
    · have hvacant : confirmedState w l.owner = .vacant := by
        rcases ha with ha | ⟨ha, hp⟩ | ⟨ha, ho⟩
        · rw [confirmedState, ha]
        · rw [confirmedState, ha]
          exact if_pos hp
        · rw [confirmedState, ha, ho]
          rfl
      have hthrow : w.action.isThrow = false := by
        rcases ha with ha | ⟨ha, -⟩ | ⟨ha, -⟩ <;> rw [ha] <;> rfl
      rw [State.confirmLocker_done hw hd (.inr hthrow), hvacant]
      rfl

/-! ### Contacts (R60, R61) -/

/-- A state of a locker that is forced by a door opening or a bolt withdrawal (R60, R61). -/
theorem Locker.forcible_iff (l : Locker) : l.forcible = true ↔ l.state = .locked ∨ l.state = .abandoned ∨
    (l.state = .unlocking ∧ ∃ w, l.work = some w ∧ w.sub = .queued) := by
  rcases hw : l.work with _ | w <;> cases hs : l.state <;> simp [Locker.forcible, hs, hw]

section
variable {s : State} {k : LockerNo}

theorem State.lockerDoorOpened_forced (h : (s.locker k).forcible = true) : s.lockerDoorOpened k = s.forceLocker k :=
  if_pos h

theorem State.lockerBoltChange_forced (h : (s.locker k).forcible = true) :
    s.lockerBoltChange k false = s.forceLocker k := if_pos (by simpa using h)

/-- A bolt change that forces nothing confirms the action whose pulse drove for it (R56, R61). -/
theorem State.lockerBoltChange_work {w : LockerWork} {thrown : Bool} (h : (s.locker k).forcible = false ∨ thrown = true)
    (hw : (s.locker k).work = some w) : s.lockerBoltChange k thrown =
      if w.sub = .confirming ∧ thrown = (s.locker k).state.direction.target then s.confirmLocker k else s := by
  have hnot : ¬(!thrown && (s.locker k).forcible) = true := by
    rcases h with h | h <;> simp [h]
  simp only [State.lockerBoltChange, hnot, if_false, hw, Bool.false_eq_true]

theorem State.lockerBoltChange_idle {thrown : Bool} (h : (s.locker k).forcible = false ∨ thrown = true)
    (hw : (s.locker k).work = none) : s.lockerBoltChange k thrown = s := by
  have hnot : ¬(!thrown && (s.locker k).forcible) = true := by
    rcases h with h | h <;> simp [h]
  simp only [State.lockerBoltChange, hnot, if_false, hw, Bool.false_eq_true]

/-- A door opening at a LOCKING locker (R60): a queued throw is given up, any other takes the door-opened mark. -/
theorem State.lockerDoorOpened_locking {w : LockerWork} (h : (s.locker k).forcible = false)
    (hst : (s.locker k).state = .locking) (hw : (s.locker k).work = some w) : s.lockerDoorOpened k =
      if w.sub = .queued then
        (s.removePulse (lockerString k) (lockerPosition k)).restLocker k w.prior (w.action == .claim) .doorOpen
      else s.setLocker k { s.locker k with doorOpened := true } := by
  simp only [State.lockerDoorOpened, h, hst, hw, Bool.false_eq_true, if_false]

theorem State.lockerDoorOpened_other (h : (s.locker k).forcible = false)
    (hst : (s.locker k).state ≠ .locking ∨ (s.locker k).work = none) : s.lockerDoorOpened k = s := by
  rcases hw : (s.locker k).work with _ | w <;> cases hs : (s.locker k).state <;>
    simp_all [State.lockerDoorOpened]

/-- A forced locker: what of its action goes first (R60). -/
theorem State.forceLocker_eq {t : State} (ht : t.locker k = s.locker k) (hclock : t.clock = s.clock)
    (hforce : s.forceLocker k = ((t.restLocker k .forced false .forced).post .lockerForced (.locker k)).journalClosed
      (.locker k) (s.locker k).owner .desk .forced
        ((t.restLocker k .forced false .forced).post .lockerForced (.locker k)).now .done) :
    s.forceLocker k = (((t.setLocker k { s.locker k with
      state := .forced
      work := none
      retryUsed := false
      doorOpened := false
      window := none
      link := none
      dirty := true }).journalClose (s.locker k).link (.locker k) .forced).post .lockerForced (.locker k)).journalClosed
        (.locker k) (s.locker k).owner .desk .forced s.clock.value .done := by
  have hrest : t.restLocker k .forced false .forced = (t.setLocker k { s.locker k with
      state := .forced
      work := none
      retryUsed := false
      doorOpened := false
      window := none
      link := none
      dirty := true }).journalClose (s.locker k).link (.locker k) .forced := by
    rw [State.restLocker, ht]
    rfl
  have hnow : ((t.restLocker k .forced false .forced).post .lockerForced (.locker k)).now = s.clock.value := by
    rw [hrest]
    obtain ⟨j, l, hj⟩ := ((t.setLocker k _).journalClose_only (s.locker k).link (.locker k) .forced).trans
      (State.post_only _ .lockerForced (.locker k))
    rw [hj, ← hclock]
    rfl
  rw [hforce, hnow, hrest]

end

/-- Settles O44. -/
theorem lockerContacts : Obligations.LockerContacts := by
  intro s k l forced removed
  have hforced : l.work = none → s.forceLocker k = forced s := fun hw => by
    refine State.forceLocker_eq rfl rfl ?_
    have hw' : (s.locker k).work = none := hw
    simp only [State.forceLocker, hw']
  have hremoved {w : LockerWork} : l.work = some w → s.forceLocker k = forced removed := fun hw => by
    refine State.forceLocker_eq (t := removed) rfl rfl ?_
    have hw' : (s.locker k).work = some w := hw
    simp only [State.forceLocker, hw', State.removePulse_eq]
    rfl
  have hno {w : LockerWork} (hw : l.work = some w) (hst : l.state = .locking ∨ l.state = .unlocking)
      (hq : l.state = .unlocking → w.sub ≠ .queued) : l.forcible = false := by
    rw [← Bool.not_eq_true, Locker.forcible_iff]
    rintro (h | h | ⟨h, w', hw', hsub⟩)
    · simp [h] at hst
    · simp [h] at hst
    · cases hw.symm.trans hw'
      exact hq h hsub
  have hrest (hw : l.work = none) (h : l.state ≠ .locked ∧ l.state ≠ .abandoned) : l.forcible = false := by
    rw [← Bool.not_eq_true, Locker.forcible_iff]
    rintro (h' | h' | ⟨-, w', hw', -⟩)
    · exact h.1 h'
    · exact h.2 h'
    · cases hw.symm.trans hw'
  refine ⟨fun h hw => ?_, fun w hst hw hsub => ?_, fun w hst hw hsub => ?_, fun w hst hw hsub => ?_, fun w hst hw => ?_,
    fun w hst hw => ⟨?_, fun hsub => ⟨?_, ?_⟩⟩, fun h hw => State.lockerBoltChange_idle (.inr rfl) hw, fun hw h => ?_⟩
  · have hf : l.forcible = true := (Locker.forcible_iff l).2 (h.elim .inl fun h => .inr (.inl h))
    rw [State.lockerDoorOpened_forced hf, State.lockerBoltChange_forced hf]
    exact ⟨hforced hw, hforced hw⟩
  · have hf : l.forcible = true := (Locker.forcible_iff l).2 (.inr (.inr ⟨hst, w, hw, hsub⟩))
    rw [State.lockerDoorOpened_forced hf, State.lockerBoltChange_forced hf]
    exact ⟨hremoved hw, hremoved hw⟩
  · rw [State.lockerDoorOpened_locking (hno hw (.inl hst) (by simp [hst])) hst hw, if_pos hsub, State.removePulse_eq,
      State.restLocker_claim]
    rfl
  · rw [State.lockerDoorOpened_locking (hno hw (.inl hst) (by simp [hst])) hst hw, if_neg hsub]
  · have hf := hno hw (.inl hst) (by simp [hst])
    have htarget : (s.locker k).state.direction.target = true := by rw [show (s.locker k).state = _ from hst]; rfl
    rw [State.lockerBoltChange_work (.inl hf) hw, State.lockerBoltChange_work (.inl hf) hw, htarget]
    simp
  · have htarget : (s.locker k).state.direction.target = false := by rw [show (s.locker k).state = _ from hst]; rfl
    rw [State.lockerBoltChange_work (.inr rfl) hw, htarget]
    simp
  · exact State.lockerDoorOpened_other (hno hw (.inr hst) fun _ => hsub) (.inl (by simp [show (s.locker k).state = _ from hst]))
  · have htarget : (s.locker k).state.direction.target = false := by rw [show (s.locker k).state = _ from hst]; rfl
    rw [State.lockerBoltChange_work (.inl (hno hw (.inr hst) fun _ => hsub)) hw, htarget]
    simp
  · have hf := hrest hw (by simp at h; constructor <;> (intro h'; simp [h'] at h))
    exact ⟨State.lockerDoorOpened_other hf (.inr hw), fun thrown => State.lockerBoltChange_idle (.inl hf) hw⟩

/-! ### The string drivers (R81 to R83) -/

theorem lockerString_lt (k : LockerNo) : (lockerString k).val < 8 := by
  have := k.isLt
  simp only [lockerString]
  omega

theorem lockerAt_string_position (k : LockerNo) (h : (lockerString k).val < 8) :
    lockerAt ⟨(lockerString k).val, h⟩ (lockerPosition k) = k := by
  apply Fin.ext
  simp only [lockerAt, lockerString, lockerPosition]
  omega

theorem Direction.target_eq (d : Direction) : d.target = decide (d = .throw) := by
  cases d <;> rfl

section
variable (s : State)

/-- The owner of a locker's position is that locker (R75). -/
theorem State.reportStart_locker (k : LockerNo) :
    s.reportStart (lockerString k) (lockerPosition k) = s.lockerPulseStart k := by
  rw [State.reportStart, dif_pos (lockerString_lt k), lockerAt_string_position]

theorem State.reportStart_cabin (c : CabinNo) : s.reportStart 8 (cabinPosition c) = s.cabinPulseStart c := by
  rw [State.reportStart, dif_neg (by decide), dif_pos (show (cabinPosition c).val < 24 from c.isLt)]
  rfl

theorem State.reportEnd_locker (k : LockerNo) (d : Direction) (ms : Nat) :
    s.reportEnd (lockerString k) ⟨lockerPosition k, d⟩ ms = s.lockerPulseEnd k d ms := by
  rw [State.reportEnd, dif_pos (lockerString_lt k), lockerAt_string_position]

theorem State.reportEnd_cabin (c : CabinNo) (d : Direction) (ms : Nat) :
    s.reportEnd 8 ⟨cabinPosition c, d⟩ ms = s.cabinPulseEnd c d ms := by
  rw [State.reportEnd, dif_neg (by decide), dif_pos (show (cabinPosition c).val < 24 from c.isLt)]
  rfl

variable {s} {i : StringNo}

/-- A pulse start where the driver takes the head of its queue (R81). -/
theorem State.pulseStart_taken {p : Pulse} {rest : List Pulse} (hd : (s.string i).driver = .idle)
    (hf : (s.string i).fitting = .fitted) (hq : (s.string i).queue = p :: rest) (hw : s.part.winding = false) :
    s.pulseStart i = (s.setString i { s.string i with
      queue := rest, driver := .pulsing p (s.stringSettings i).pulse }).reportStart i p.position := by
  simp only [State.pulseStart, hd, hf, hq, hw, Bool.false_eq_true, if_false]

theorem State.pulseStart_none (h : (s.string i).driver ≠ .idle ∨ (s.string i).fitting ≠ .fitted ∨
    (s.string i).queue = [] ∨ s.part.winding = true) : s.pulseStart i = s := by
  cases hd : (s.string i).driver with
  | pulsing p ms => simp only [State.pulseStart, hd]
  | resting ms => simp only [State.pulseStart, hd]
  | idle =>
    rcases hf : (s.string i).fitting with _ | _ | _
    all_goals rcases hq : (s.string i).queue with _ | ⟨p, rest⟩
    all_goals simp only [State.pulseStart, hd, hf, hq]
    simp only [hd, hf, hq, ne_eq, not_true_eq_false, reduceCtorEq, false_or] at h
    exact if_pos h

/-- A pulse end: the driver rests, and the end is reported but from the RESTART reply on (R82, R83). -/
theorem State.pulseEnd_eq {p : Pulse} {ms : Nat} (hd : (s.string i).driver = .pulsing p ms) :
    s.pulseEnd i =
      let u := s.setString i { s.string i with driver := restDriver (s.stringSettings i).rest }
      if s.part.winding = true then u else u.reportEnd i p (s.stringSettings i).window := by
  simp only [State.pulseEnd, hd]
  rfl

theorem State.pulseEnd_none (h : ∀ p ms, (s.string i).driver ≠ .pulsing p ms) : s.pulseEnd i = s := by
  cases hd : (s.string i).driver with
  | pulsing p ms => exact absurd hd (h p ms)
  | idle => simp only [State.pulseEnd, hd]
  | resting ms => simp only [State.pulseEnd, hd]

end

/-- Settles O45. -/
theorem pulsesRun : Obligations.PulsesRun := by
  unfold Obligations.PulsesRun
  refine ⟨fun s i => ⟨fun p rest hd hf hq hw => ?_, fun h => ?_⟩, fun s i p ms hd => ?_, fun s i => ⟨fun ms hd => ?_,
    fun h => ?_, fun h => ?_⟩⟩
  · intro u
    have hrun {t : State} (h : u.reportStart i p.position = t) : exec (.pulseStart i) s = .next t.arbitrate :=
      congrArg (fun t : State => Host.Outcome.next t.arbitrate) ((State.pulseStart_taken hd hf hq hw).trans h)
    refine ⟨fun k w hk hp hwork => hrun ?_, fun c w hi hp hwork => hrun ?_⟩
    · rw [← hk, ← hp, State.reportStart_locker]
      have hwork' : (u.locker k).work = some w := hwork
      simp only [State.lockerPulseStart, hwork']
      rfl
    · rw [hi, ← hp, State.reportStart_cabin]
      have hwork' : (u.cabin c).work = some w := hwork
      simp only [State.cabinPulseStart, hwork']
      rfl
  · exact congrArg (fun t : State => Host.Outcome.next t.arbitrate) (State.pulseStart_none h)
  · intro g u
    have hrun {t : State} (h : (if s.part.winding = true then u else u.reportEnd i p g.window) = t) :
        exec (.pulseEnd i) s = .next t.arbitrate :=
      congrArg (fun t : State => Host.Outcome.next t.arbitrate) ((State.pulseEnd_eq hd).trans h)
    refine ⟨fun hw => hrun (if_pos hw), fun k w hw hk hp hwork => ?_, fun c w hw hi hp hwork => ?_⟩
    · intro v
      refine hrun ((if_neg (by simp [hw])).trans ?_)
      have hpulse : p = ⟨lockerPosition k, p.direction⟩ := by rw [hp]
      have hwork' : (u.locker k).work = some w := hwork
      rw [← hk, hpulse, State.reportEnd_locker, ← Direction.target_eq]
      simp only [State.lockerPulseEnd, hwork']
      rfl
    · intro v
      refine hrun ((if_neg (by simp [hw])).trans ?_)
      have hpulse : p = ⟨cabinPosition c, p.direction⟩ := by rw [hp]
      have hwork' : (u.cabin c).work = some w := hwork
      rw [hi, hpulse, State.reportEnd_cabin, ← Direction.target_eq]
      simp only [State.cabinPulseEnd, hwork']
      rfl
  · refine congrArg (fun t : State => Host.Outcome.next t.arbitrate) (a₁ := s.restEnd i) ?_
    simp only [State.restEnd, hd]
  · refine congrArg (fun t : State => Host.Outcome.next t.arbitrate) (a₁ := s.restEnd i) ?_
    cases hd : (s.string i).driver with
    | resting ms => exact absurd hd (h ms)
    | idle => simp only [State.restEnd, hd]
    | pulsing p ms => simp only [State.restEnd, hd]
  · exact congrArg (fun t : State => Host.Outcome.next t.arbitrate) (State.pulseEnd_none h)

end Sys2Proof.Machine
end


section
/-!
PROOF. The steps of the site clock with the cabins' due tests and the tariff switch (R94, R103, R110 to R118), and the
ends of a cabin's action with the reports of its contacts (R99 to R105).
-/

namespace Sys2Proof.Machine

/-! ### A fold in which one step acts -/

/-- A fold over all numbers in which every step but one leaves the state as it is, before that one and behind it. -/
theorem foldl_allFin_one {n : Nat} {f : State → Fin n → State} {s : State} {c : Fin n} (hc : ∀ d, d ≠ c → f s d = s)
    (hc' : ∀ d, d ≠ c → f (f s c) d = f s c) : (allFin n).foldl f s = f s c := by
  have hskip {t : State} (ht : ∀ d, d ≠ c → f t d = t) (l : List (Fin n)) (hl : c ∉ l) : l.foldl f t = t :=
    List.foldlRecOn (motive := (· = t)) _ _ rfl fun u hu d hd => by
      rw [hu, ht d fun h => hl (h ▸ hd)]
  obtain ⟨before, after, hsplit⟩ := List.append_of_mem (List.mem_finRange c)
  have hnodup := List.nodup_finRange n
  have hall : allFin n = before ++ c :: after := hsplit
  rw [hsplit, List.nodup_append, List.nodup_cons] at hnodup
  obtain ⟨-, ⟨hafter, -⟩, hdisjoint⟩ := hnodup
  rw [hall, List.foldl_append, hskip hc before fun h => hdisjoint c h c (List.mem_cons_self ..) rfl, List.foldl_cons,
    hskip hc' after hafter]

theorem foldl_allFin_none {n : Nat} {f : State → Fin n → State} {s : State} (h : ∀ d, f s d = s) :
    (allFin n).foldl f s = s :=
  List.foldlRecOn (motive := (· = s)) _ _ rfl fun u hu d _ => by rw [hu, h d]

/-! ### The due tests of a cabin (R103) -/

theorem State.JournalOnly.clock {s t : State} (h : s.JournalOnly t) : t.clock = s.clock := by
  obtain ⟨j, l, rfl⟩ := h
  rfl

theorem reached_eq (stamp : Option Stamp) (now : Stamp) :
    reached stamp now = stamp.any (fun d => decide (d.toNat ≤ now.toNat)) := by
  cases stamp <;> rfl

theorem not_reached_iff (stamp : Option Stamp) (now : Stamp) :
    reached stamp now = false ↔ ∀ x ∈ stamp, now.toNat < x.toNat := by
  cases stamp <;> simp [reached]

section
variable (s : State) (c : CabinNo)

/-- The expiry opening: OPENING with the expiry mark, the WITHDRAW at the tail of the queue, and a closed entry. -/
theorem State.expireCabin_eq : s.expireCabin c = ((s.setCabin c { s.cabin c with
    state := .opening
    work := some ⟨.release, none, .desk, s.clock.value, .overdue, .queued⟩
    retryUsed := false
    expiryMark := true
    releaseMark := false
    window := none }).setString 8 { s.string 8 with
      queue := s.pulsesWith 8 (cabinPosition c) .withdraw }).journalClosed (.cabin c) (s.cabin c).holder .desk
        .cabinExpire s.clock.value .done := by
  rw [State.expireCabin, State.openCabin_eq]
  rfl

theorem State.dueOverdue_eq : s.dueOverdue c =
    if (s.cabin c).state = .held ∧ reached (s.cabin c).due1 s.clock.value = true
      then (s.setCabin c { s.cabin c with state := .overdue }).post .cabinOverdue (.cabin c) else s := rfl

theorem State.dueExpiry_eq : s.dueExpiry c =
    if (s.cabin c).state = .overdue ∧ reached (s.cabin c).due2 s.clock.value = true then s.expireCabin c else s := rfl

theorem State.setCabin_clock (x : Cabin) : (s.setCabin c x).clock = s.clock := rfl

theorem State.expireCabin_clock : (s.expireCabin c).clock = s.clock := by
  rw [State.expireCabin_eq]
  exact (State.journalClosed_only ..).clock

theorem State.dueTests_clock : (s.dueTests c).clock = s.clock := by
  have hoverdue : (s.dueOverdue c).clock = s.clock := by
    rw [State.dueOverdue_eq]
    split <;> rfl
  rw [State.dueTests, State.dueExpiry_eq, ← hoverdue]
  split
  · exact State.expireCabin_clock ..
  · rfl

theorem State.allDueTests_clock : s.allDueTests.clock = s.clock :=
  List.foldlRecOn (motive := fun t : State => t.clock = s.clock) _ _ rfl fun t ht c _ => by rw [State.dueTests_clock, ht]

theorem State.JournalOnly.cabin {s t : State} (h : s.JournalOnly t) (d : CabinNo) : t.cabin d = s.cabin d := by
  obtain ⟨j, l, rfl⟩ := h
  rfl

theorem State.expireCabin_cabin {d : CabinNo} (hd : d ≠ c) : (s.expireCabin c).cabin d = s.cabin d := by
  rw [State.expireCabin_eq]
  exact ((State.journalClosed_only ..).cabin d).trans ((State.setCabin_cabin ..).trans (if_neg hd.symm))

variable {s c}

/-- The due tests of a cabin with no stamp reached. -/
theorem State.dueTests_quiet (h : s.cabinQuiet c s.clock.value) : s.dueTests c = s := by
  obtain ⟨hheld, hover⟩ := h
  have hfirst : s.dueOverdue c = s := if_neg fun ⟨hst, hr⟩ => by
    have hr' : reached (s.cabin c).due1 s.clock.value = true := hr
    rw [(not_reached_iff ..).2 (hheld hst)] at hr'
    cases hr'
  rw [State.dueTests, hfirst]
  exact if_neg fun ⟨hst, hr⟩ => by
    have hr' : reached (s.cabin c).due2 s.clock.value = true := hr
    rw [(not_reached_iff ..).2 (hover hst)] at hr'
    cases hr'

/-- The due tests of one cabin leave every other as it was. -/
theorem State.dueTests_cabin {d : CabinNo} (hd : d ≠ c) : (s.dueTests c).cabin d = s.cabin d := by
  have hfirst : (s.dueOverdue c).cabin d = s.cabin d := by
    rw [State.dueOverdue_eq]
    split
    · exact ((State.post_only ..).cabin d).trans ((State.setCabin_cabin ..).trans (if_neg hd.symm))
    · rfl
  rw [State.dueTests, State.dueExpiry_eq, ← hfirst]
  split
  · exact State.expireCabin_cabin _ _ hd
  · rfl

/-- A HELD cabin whose due1 alone is reached becomes OVERDUE (R103, step 1). -/
theorem State.dueTests_overdue (hst : (s.cabin c).state = .held) (h1 : reached (s.cabin c).due1 s.clock.value = true)
    (h2 : reached (s.cabin c).due2 s.clock.value = false) :
    s.dueTests c = (s.setCabin c { s.cabin c with state := .overdue }).post .cabinOverdue (.cabin c) := by
  have hfirst : s.dueOverdue c = (s.setCabin c { s.cabin c with state := .overdue }).post .cabinOverdue (.cabin c) :=
    if_pos ⟨hst, h1⟩
  rw [State.dueTests, hfirst, State.dueExpiry_eq]
  have hcabin : (((s.setCabin c { s.cabin c with state := .overdue }).post .cabinOverdue (.cabin c)).cabin c) =
      { s.cabin c with state := .overdue } :=
    ((State.post_only ..).cabin c).trans ((State.setCabin_cabin ..).trans (if_pos rfl))
  rw [hcabin]
  exact if_neg fun ⟨_, hr⟩ => by
    rw [(State.post_only ..).clock, State.setCabin_clock] at hr
    rw [h2] at hr
    cases hr

/-- An OVERDUE cabin whose due2 is reached begins its expiry opening (R103, step 2). -/
theorem State.dueTests_expired (hst : (s.cabin c).state = .overdue)
    (h2 : reached (s.cabin c).due2 s.clock.value = true) : s.dueTests c = s.expireCabin c := by
  have hfirst : s.dueOverdue c = s := if_neg fun ⟨h, _⟩ => by
    rw [hst] at h
    cases h
  rw [State.dueTests, hfirst]
  exact if_pos ⟨hst, h2⟩

/-- The due tests of a step that reaches no stamp of any cabin. -/
theorem State.allDueTests_quiet (h : ∀ c, s.cabinQuiet c s.clock.value) : s.allDueTests = s :=
  foldl_allFin_none fun c => State.dueTests_quiet (h c)

/-- The due tests of a step that reaches stamps of one cabin alone. -/
theorem State.allDueTests_one (h : ∀ d, d ≠ c → s.cabinQuiet d s.clock.value) : s.allDueTests = s.dueTests c := by
  refine foldl_allFin_one (fun d hd => State.dueTests_quiet (h d hd)) fun d hd => State.dueTests_quiet ?_
  rw [State.dueTests_clock, State.cabinQuiet, State.dueTests_cabin hd]
  exact h d hd

end

/-! ### The switch test and the steps of the clock (R111, R118) -/

section
variable {s : State}

theorem State.switchTest_quiet (h : s.switchQuiet s.clock.value) : s.switchTest = s := by
  unfold State.switchTest
  split
  · rfl
  · next table ht =>
    have hnot : reached s.clock.switchStamp s.clock.value = false :=
      (not_reached_iff ..).2 (h (by rw [ht]; rfl))
    exact if_neg (by rw [State.now, hnot]; simp)

theorem State.switchTest_switches {table : TariffTable} {x : Stamp} (ht : s.clock.pendingTable = some table)
    (hx : s.clock.switchStamp = some x) (hr : x.toNat ≤ s.clock.value.toNat) : s.switchTest = s.switchedTo table := by
  have hreached : reached s.clock.switchStamp s.now = true := by simp [hx, reached, State.now, hr]
  simp only [State.switchTest, ht, hreached, if_true, State.tariffSwitch_eq]

/-- A step of the clock that reaches no switch stamp: the due tests alone. -/
theorem State.stepClock_quiet {v : Stamp} (h : s.switchQuiet v) :
    s.stepClock v = (s.setClock { s.clock with value := v }).allDueTests := by
  refine State.switchTest_quiet ?_
  rw [State.switchQuiet, State.allDueTests_clock]
  exact h

/-- A step of the clock that reaches the switch stamp: the due tests, and the switch behind them. -/
theorem State.stepClock_switches {v x : Stamp} {table : TariffTable} (ht : s.clock.pendingTable = some table)
    (hx : s.clock.switchStamp = some x) (hr : x.toNat ≤ v.toNat) :
    s.stepClock v = ((s.setClock { s.clock with value := v }).allDueTests).switchedTo table := by
  refine State.switchTest_switches (x := x) ?_ ?_ ?_ <;> rw [State.allDueTests_clock]
  · exact ht
  · exact hx
  · exact hr

end

/-- The value of a minute pulse's snap, as a number (R114). -/
theorem snapped_eq {v w : Stamp} (h : w.toNat = if v.toNat % 60 < 30 then v.toNat - v.toNat % 60
    else v.toNat + 60 - v.toNat % 60) : snapped v = w := by
  apply BitVec.eq_of_toNat_eq
  have hw := w.isLt
  rw [snapped]
  split_ifs at h ⊢ <;> rw [BitVec.toNat_ofNat, ← h, Nat.mod_eq_of_lt hw]

section
variable {s t : State} {v : Stamp}

/-- A CLOCK SET of the value the clock has is no step of it (R112). -/
theorem State.setTheClock_same (h : v = s.clock.value) :
    s.setTheClock v = s.setClock { s.clock with isSet := true } := if_pos h

/-- The state behind the setting of the clock and the due tests of its step. -/
def State.testedAt (s : State) (v : Stamp) : State :=
  (allFin 24).foldl State.dueTests (s.setClock { s.clock with value := v, isSet := true })

theorem State.testedAt_outstanding (s : State) (v : Stamp) :
    (s.testedAt v).link.outstanding = s.link.outstanding := by
  rw [State.testedAt, State.foldl_outstanding State.dueTests State.dueTests_outstanding]
  rfl

theorem State.testedAt_quiet (h : ∀ c, s.cabinQuiet c v) :
    s.testedAt v = s.setClock { s.clock with value := v, isSet := true } :=
  State.allDueTests_quiet (s := s.setClock { s.clock with value := v, isSet := true }) h

theorem State.setTheClock_step (h : v ≠ s.clock.value) (hs : s.switchQuiet v) : s.setTheClock v = s.testedAt v :=
  (if_neg h).trans (State.stepClock_quiet (s := s.setClock { s.clock with isSet := true }) hs)

theorem State.setTheClock_switches {table : TariffTable} {x : Stamp} (h : v ≠ s.clock.value)
    (ht : s.clock.pendingTable = some table) (hx : s.clock.switchStamp = some x) (hr : x.toNat ≤ v.toNat) :
    s.setTheClock v = (s.testedAt v).switchedTo table :=
  (if_neg h).trans (State.stepClock_switches (s := s.setClock { s.clock with isSet := true }) ht hx hr)

/-- CLOCK SET is taken in every part state, and replied OK (R112). -/
theorem exec_clockSet {tag : Byte} {body : List Byte} (ho : s.link.outstanding = none) (hlen : body.length = 4)
    (ht : (s.taken .clockSet tag).setTheClock (argLong body 0) = t)
    (hout : t.link.outstanding = (s.taken .clockSet tag).link.outstanding) :
    exec (.clockSet tag body) s = .next (t.replied tag .ok .none).arbitrate := by
  have htakes : s.takes .clockSet body := ⟨ho, hlen, State.partTest_taken (.inr (.inl (by decide)))⟩
  exact htakes.exec_answered tag (congrArg (State.answer · .ok) ht) hout

end

/-- Settles O52. -/
theorem timersTick : Obligations.TimersTick := by
  intro s b up now tested
  have hall (v : Stamp) : (now v).allDueTests = tested v := rfl
  have hsecond {t : State} (h : s.stepClock up = t) : exec .secondTimerExpiry s = .next t.arbitrate :=
    congrArg (fun t : State => Host.Outcome.next t.arbitrate) h
  have hpulse {t : State} (h : s.minutePulse = t) : exec .minutePulse s = .next t.arbitrate :=
    congrArg (fun t : State => Host.Outcome.next t.arbitrate) h
  refine ⟨?_, fun hq hs => hsecond ?_, fun c x hq hs hst hx hr h2 => hsecond ?_, fun c x hq hs hst hx hr => hsecond ?_,
    fun c => ?_, fun hs => hsecond (State.stepClock_quiet hs),
    fun table x ht hx hr => hsecond (State.stepClock_switches ht hx hr),
    fun table x hq ht hx hr => hsecond ?_, fun hset => hpulse (if_pos hset), fun v hset hv => ?_,
    fun tag body ho hlen hq hs => ?_, fun tag body ho hlen => ?_⟩
  · have hcount : (b.count + 1 = 0) ↔ b.count = 3 := by
      generalize b.count = n
      revert n
      decide
    refine congrArg (fun t : State => Host.Outcome.next t.arbitrate) (a₁ := s.blinkExpiry) ?_
    simp only [State.blinkExpiry, b, hcount]
  · rw [State.stepClock_quiet hs]
    exact State.allDueTests_quiet hq
  · rw [State.stepClock_quiet hs, State.allDueTests_one (c := c) hq]
    refine State.dueTests_overdue hst ?_ ((not_reached_iff ..).2 h2)
    have hx' : ((now up).cabin c).due1 = some x := hx
    rw [hx']
    exact decide_eq_true hr
  · rw [State.stepClock_quiet hs, State.allDueTests_one (c := c) hq]
    refine (State.dueTests_expired (s := now up) hst ?_).trans (State.expireCabin_eq (now up) c)
    have hx' : ((now up).cabin c).due2 = some x := hx
    rw [hx']
    exact decide_eq_true hr
  · intro x is first
    have his (due : Option Stamp) : reached due s.clock.value = is due := reached_eq ..
    have hfirst : s.dueOverdue c = first := by rw [State.dueOverdue_eq, his]
    rw [State.dueTests, hfirst, State.dueExpiry_eq]
    have hcases : first = s ∨ first = (s.setCabin c { x with state := .overdue }).post .cabinOverdue (.cabin c) := by
      by_cases h : x.state = .held ∧ is x.due1 = true
      · exact .inr (if_pos h)
      · exact .inl (if_neg h)
    rcases hcases with h | h
    · rw [h, State.expireCabin_eq, his]
    · have hcabin : first.cabin c = { x with state := .overdue } := by
        rw [h]
        exact ((State.post_only ..).cabin c).trans ((State.setCabin_cabin ..).trans (if_pos rfl))
      have hclock : first.clock = s.clock := by rw [h]; rfl
      have hstring : first.string 8 = s.string 8 := by rw [h]; rfl
      have hpulses : first.pulsesWith 8 (cabinPosition c) .withdraw = s.pulsesWith 8 (cabinPosition c) .withdraw := by
        rw [h]; rfl
      rw [State.expireCabin_eq, hcabin, hclock, hstring, hpulses, his]
  · rw [State.stepClock_switches ht hx hr]
    exact congrArg (fun t : State => t.switchedTo table) (State.allDueTests_quiet hq)
  · have hsnap : snapped s.now = v := snapped_eq hv
    have hne (h : v ≠ s.clock.value) : s.minutePulse = (s.stepClock v).post .clockAdjusted .none := by
      rw [State.minutePulse, hsnap, if_neg (by simp [hset])]
      exact if_neg h
    refine ⟨fun h => hpulse ?_, fun h hq hs => hpulse ?_, fun h => ⟨fun hs => hpulse ?_, fun table x ht hx hr => hpulse ?_⟩⟩
    · rw [State.minutePulse, hsnap, if_neg (by simp [hset])]
      exact if_pos h
    · rw [hne h, State.stepClock_quiet hs]
      exact congrArg (fun t : State => t.post .clockAdjusted .none) (State.allDueTests_quiet hq)
    · rw [hne h, State.stepClock_quiet hs]
      rfl
    · rw [hne h, State.stepClock_switches ht hx hr]
      rfl
  · by_cases h : argLong body 0 = s.clock.value
    · refine exec_clockSet ho hlen ((State.setTheClock_same (s := s.taken .clockSet tag) h).trans ?_) rfl
      rw [h]
      rfl
    · exact exec_clockSet ho hlen ((State.setTheClock_step (s := s.taken .clockSet tag) h hs).trans
        (State.testedAt_quiet (s := s.taken .clockSet tag) hq)) rfl
  · intro t
    have ht : t = (s.taken .clockSet tag).testedAt (argLong body 0) := rfl
    have hout := State.testedAt_outstanding (s.taken .clockSet tag) (argLong body 0)
    refine ⟨fun h => ?_, fun h hs => ?_, fun table x h hp hx hr => ?_⟩
    · exact exec_clockSet ho hlen (State.setTheClock_same (s := s.taken .clockSet tag) h) rfl
    · rw [ht]
      exact exec_clockSet ho hlen (State.setTheClock_step (s := s.taken .clockSet tag) h hs) hout
    · rw [ht]
      refine exec_clockSet ho hlen (State.setTheClock_switches (s := s.taken .clockSet tag) h hp hx hr) ?_
      rw [← State.tariffSwitch_eq, State.tariffSwitch_outstanding]
      exact hout

/-! ### The ends of a cabin's action (R99 to R102) -/

theorem CabinState.direction_eq (st : CabinState) : st.direction = if st = .closing then .throw else .withdraw := by
  cases st <;> rfl

section
variable {s t : State} {c : CabinNo}

/-- A cabin that opens behind an entry closed and a notice posted. -/
theorem State.openCabin_behind {x : Cabin} (h : (s.setCabin c x).JournalOnly t) (a : CabinAction) (prior : CabinState)
    (expiry : Bool) : t.openCabin c a prior expiry = (t.setCabin c { x with
      state := .opening
      work := some ⟨a, none, .desk, s.clock.value, prior, .queued⟩
      retryUsed := false
      expiryMark := expiry
      releaseMark := false
      window := none }).setString 8 { s.string 8 with
        queue := s.pulsesWith 8 (cabinPosition c) .withdraw } := by
  have hcabin : t.cabin c = x := (h.cabin c).trans ((State.setCabin_cabin ..).trans (if_pos rfl))
  rw [State.openCabin_eq, hcabin]
  obtain ⟨j, l, rfl⟩ := h
  rfl

theorem State.cabinDoorOpen_iff : s.cabinDoorOpen c = true ↔ s.doorOpen 8 (cabinPosition c) = some true := beq_iff_eq

theorem State.cabinThrown_iff : s.cabinThrown c = true ↔ s.boltThrown 8 (cabinPosition c) = some true := beq_iff_eq

theorem stampAfter_eq {v due : Stamp} {seconds : Nat} (h : due.toNat = min 4294967295 (v.toNat + seconds)) :
    stampAfter v seconds = due := by
  apply BitVec.eq_of_toNat_eq
  rw [stampAfter, BitVec.toNat_ofNat, lastStamp, ← h, Nat.mod_eq_of_lt due.isLt]

/-- A THROW confirmed behind an open door is undone (R100). -/
theorem State.confirmCabinThrow_open (h : s.doorOpen 8 (cabinPosition c) = some true) :
    s.confirmCabinThrow c = (s.closeHold c .doorOpen).openCabin c .undo .free false :=
  if_pos (State.cabinDoorOpen_iff.2 h)

/-- A THROW confirmed behind a closed door: a RELEASE where the band has left, else the hold (R100). -/
theorem State.confirmCabinThrow_closed (h : s.doorOpen 8 (cabinPosition c) = some false) :
    s.confirmCabinThrow c = if (s.cabin c).releaseMark = true then s.openCabin c .release .free false
      else (s.setCabin c { s.cabin c with
        state := .held
        work := none
        retryUsed := false
        window := none
        due1 := some (stampAfter s.clock.value s.settings.cabinLimit)
        due2 := some (stampAfter (stampAfter s.clock.value s.settings.cabinLimit) s.settings.cabinGrace) }).dueTests c :=
  if_neg (by rw [State.cabinDoorOpen_iff, h]; simp)

variable {w : CabinWork}

theorem State.confirmCabin_throw (hw : (s.cabin c).work = some w) (hst : (s.cabin c).state = .closing) :
    s.confirmCabin c = s.confirmCabinThrow c := by
  simp only [State.confirmCabin, hw, hst, if_true]

theorem State.confirmCabin_withdraw (hw : (s.cabin c).work = some w) (hst : (s.cabin c).state = .opening) :
    s.confirmCabin c = s.confirmCabinWithdraw c w := by
  simp only [State.confirmCabin, hw, hst, reduceCtorEq, if_false]

/-- The hold a confirmed THROW begins where no due stamp is reached already (R100). -/
theorem State.dueTests_held {x : Cabin} {due1 : Stamp} (hst : x.state = .held) (hdue : x.due1 = some due1)
    (h : s.clock.value.toNat < due1.toNat) : (s.setCabin c x).dueTests c = s.setCabin c x := by
  have hcabin : (s.setCabin c x).cabin c = x := (State.setCabin_cabin ..).trans (if_pos rfl)
  refine State.dueTests_quiet ⟨fun _ y hy => ?_, fun hover => ?_⟩
  · rw [hcabin, hdue] at hy
    cases hy
    exact h
  · rw [hcabin, hst] at hover
    cases hover

end

theorem State.setCabin_setCabin (s : State) (c : CabinNo) (x y : Cabin) :
    (s.setCabin c x).setCabin c y = s.setCabin c y := by
  simp only [State.setCabin, State.setCabins, Vector.set_set]

/-- A door forced while the pulse of its opening is queued (R105). -/
theorem State.forceOpeningCabin_eq {s : State} {c : CabinNo} {w : CabinWork} (hsub : w.sub = .queued) :
    s.forceOpeningCabin c w = ((s.setCabin c { s.cabin c with
      work := some ⟨.forcedOpen, none, .desk, s.clock.value, w.prior, .queued⟩
      expiryMark := false
      link := none }).post .cabinForced (.cabin c)).journalClose (s.cabin c).link (.cabin c) .forced := by
  obtain ⟨y, hy⟩ : ∃ y : Cabin, y = { s.cabin c with
      work := some { w with action := .forcedOpen, party := .desk, stamp := s.now, band := none }
      expiryMark := false } := ⟨_, rfl⟩
  have hcabin : ((s.setCabin c y).post .cabinForced (.cabin c)).cabin c = y :=
    ((State.post_only ..).cabin c).trans ((State.setCabin_cabin ..).trans (if_pos rfl))
  have hset : ((s.setCabin c y).post .cabinForced (.cabin c)).setCabin c { y with link := none } =
      (s.setCabin c { y with link := none }).post .cabinForced (.cabin c) :=
    congrArg (fun t : State => t.post .cabinForced (.cabin c)) (State.setCabin_setCabin ..)
  rw [State.forceOpeningCabin, ← hy, State.closeHold, hcabin, hset, hy, hsub]
  rfl

/-- Settles O51. -/
theorem cabinActionEnds : Obligations.CabinActionEnds := by
  unfold Obligations.CabinActionEnds
  refine ⟨fun s c w hw => ?_, fun s c => ?_⟩
  · intro x queued rests
    refine ⟨fun ms hsub hwin => ?_, fun hst hd => ?_, fun due1 due2 hst hd hr h1 h2 hlt => ?_,
      fun due1 due2 hst hd hr h1 h2 => ?_, fun hst hd hr => ?_, fun hst => ?_⟩
    · have hrun {t : State} (h : s.cabinWindowExpiry c = t) : exec (.cabinConfirmExpiry c) s = .next t.arbitrate :=
        congrArg (fun t : State => Host.Outcome.next t.arbitrate) h
      have hexpiry : s.cabinWindowExpiry c = if x.retryUsed = true then s.jamCabin c
          else (s.setCabin c { x with
            work := some { w with sub := .queued }, retryUsed := true, window := none }).placePulse cabinString
              (cabinPosition c) x.state.direction := by
        simp only [State.cabinWindowExpiry, hw, hwin, hsub, if_true, x]
      refine ⟨fun h => hrun ?_, fun h => hrun ?_⟩
      · rw [hexpiry, if_neg (by simp [h]), State.placePulse_eq, CabinState.direction_eq]
        rfl
      · rw [hexpiry, if_pos h]
        rfl
    · rw [State.confirmCabin_throw hw hst, State.confirmCabinThrow_open hd]
      exact State.openCabin_behind (State.journalClose_only ..) ..
    · rw [State.confirmCabin_throw hw hst, State.confirmCabinThrow_closed hd, if_neg (by simp [hr, x] at hr ⊢),
        stampAfter_eq h1, stampAfter_eq h2]
      exact State.dueTests_held rfl rfl hlt
    · rw [State.confirmCabin_throw hw hst, State.confirmCabinThrow_closed hd, if_neg (by simp [hr, x] at hr ⊢),
        stampAfter_eq h1, stampAfter_eq h2]
    · rw [State.confirmCabin_throw hw hst, State.confirmCabinThrow_closed hd, if_pos hr, State.openCabin_eq]
    · rw [State.confirmCabin_withdraw hw hst]
      refine ⟨fun ha hp => ?_, fun ha hp => ?_, fun ha he => ?_, fun ha he => ?_, fun ha _ => ?_⟩
      · rw [State.confirmCabinWithdraw, ha]
        exact if_neg hp
      · rw [State.confirmCabinWithdraw, ha]
        exact if_pos hp
      · rw [State.confirmCabinWithdraw, ha]
        exact if_neg (by simp [he, x] at he ⊢)
      · rw [State.confirmCabinWithdraw, ha]
        exact if_pos he
      · simp only [List.mem_cons, List.not_mem_nil, or_false] at ha
        rcases ha with ha | ha | ha <;> rw [State.confirmCabinWithdraw, ha] <;> rfl
  · intro x
    refine ⟨fun hst => ⟨?_, ?_, fun hb => ?_⟩, fun w hw => ?_, fun hst => ?_⟩
    · rcases hst with hst | hst <;> simp only [State.cabinBoltChange, show (s.cabin c).state = _ from hst] <;> rfl
    · rcases hst with hst | hst <;> simp only [State.cabinBoltChange, show (s.cabin c).state = _ from hst] <;> rfl
    · have hforced : s.cabinDoorOpened c = s.forceHeldCabin c := by
        rcases hst with hst | hst <;>
          simp only [State.cabinDoorOpened, show (s.cabin c).state = _ from hst, State.cabinThrown_iff.2 hb, if_true]
      rw [hforced, State.forceHeldCabin]
      refine (State.openCabin_behind (s := s) (x := { x with link := none }) ?_ ..).trans rfl
      exact State.JournalOnly.trans (t := (s.post .cabinForced (.cabin c)).setCabin c { x with link := none })
        ⟨_, _, rfl⟩ (State.journalClose_only ..)
    · intro removed freed
      have hw' : (s.cabin c).work = some w := hw
      have hfreed (o : EntryOutcome) : (s.removePulse cabinString (cabinPosition c)).restCabin c .free o = freed o := by
        rw [State.removePulse_eq]
        rfl
      refine ⟨fun hst => ?_, fun hst => ?_⟩
      · have hst' : (s.cabin c).state = .closing := hst
        refine ⟨?_, ?_, ?_⟩
        · simp only [State.cabinBoltChange, hst', hw', Bool.false_eq_true, and_false, if_false]
        · simp only [State.cabinBoltChange, hst', hw', and_true]
        · simp only [State.cabinDoorOpened, hst', hw', hfreed]
      · have hst' : (s.cabin c).state = .opening := hst
        have hopened : s.cabinDoorOpened c = if w.sub = .queued ∧ (w.action = .opn ∨ w.action = .release) ∧
            s.cabinThrown c = true then s.forceOpeningCabin c w else s := by
          simp only [State.cabinDoorOpened, hst', hw']
        refine ⟨?_, fun hsub => ?_, fun hsub => ?_, fun hsub => ?_, fun hsub ha hb => ?_, fun h => ?_⟩
        · simp only [State.cabinBoltChange, hst', hw', if_true]
        · simp only [State.cabinBoltChange, hst', hw', hsub, Bool.false_eq_true, if_false]
          exact hfreed .handle
        · simp only [State.cabinBoltChange, hst', hw', hsub, Bool.false_eq_true, if_false]
        · simp only [State.cabinBoltChange, hst', hw', hsub, Bool.false_eq_true, if_false]
        · rw [hopened, if_pos ⟨hsub, ha, State.cabinThrown_iff.2 hb⟩]
          exact State.forceOpeningCabin_eq hsub
        · rw [hopened, if_neg]
          rintro ⟨hsub, ha, hb⟩
          rcases h with h | ⟨h, h'⟩ | h
          · exact h hsub
          · exact ha.elim h h'
          · exact h (State.cabinThrown_iff.1 hb)
    · have hcases : s.cabinDoorOpened c = s ∧ ∀ thrown, s.cabinBoltChange c thrown = s := by
        rcases hst with hst | hst <;>
          simp only [State.cabinDoorOpened, State.cabinBoltChange, show (s.cabin c).state = _ from hst, implies_true,
            and_self]
      exact hcases

end Sys2Proof.Machine
end


section
/-!
PROOF. The requests that change what is fitted: STRINGS FITTED (R76) and the lane requests (R137 to R139), with the heads
that leave service (R29, R152).
-/

namespace Sys2Proof.Machine

/-! ### The heads that leave service -/

section
variable {s s' t t' : State} {left : HeadNo → Bool}

/-- The heads that leave determine the records that are kept of the heads. -/
theorem State.HeadsLeft.unique (h : s.HeadsLeft t left) (h' : s'.HeadsLeft t' left) (hpres : s'.pres = s.pres)
    (hreader : s'.reader = s.reader) (hcache : s'.band.cache = s.band.cache) :
    t'.pres = t.pres ∧ t'.reader = t.reader ∧ t'.band.cache = t.band.cache := by
  have hslot (g : HeadNo) : s'.slot g = s.slot g := by simp only [State.slot, hpres]
  have hengine (line : Line) : t'.engine line = t.engine line := by
    have : s'.engine line = s.engine line := by cases line <;> simp only [State.engine, hreader]
    rw [h.engines, h'.engines, this]
  have hroster : t'.reader.roster = t.reader.roster := Vector.ext fun i hi => by
    have : t'.head ⟨i, hi⟩ = t.head ⟨i, hi⟩ := by
      rw [h.heads, h'.heads]
      simp only [State.head, hreader]
    exact this
  refine ⟨Vector.ext fun i hi => ?_, ?_, Vector.ext fun i hi => ?_⟩
  · have : t'.slot ⟨i, hi⟩ = t.slot ⟨i, hi⟩ := by rw [h.slots, h'.slots, hslot]
    exact this
  · have ha : t'.reader.engineA = t.reader.engineA := hengine .a
    have hb : t'.reader.engineB = t.reader.engineB := hengine .b
    calc t'.reader = ⟨t'.reader.roster, t'.reader.engineA, t'.reader.engineB⟩ := rfl
      _ = t.reader := by rw [hroster, ha, hb]
  · have hmark : s'.markWaiter left = s.markWaiter left := by
      funext w
      cases w with
      | lookup g p => simp only [State.markWaiter, hslot]
      | _ => rfl
    have : t'.entry ⟨i, hi⟩ = t.entry ⟨i, hi⟩ := by
      rw [h.waiters, h'.waiters, hmark]
      simp only [State.entry, hcache]
    exact this

/-- The state behind the heads that leave is the one in which they have left. -/
theorem State.leaveAll_eq {before : State} (hleft : ∀ g, (before.inService g && !s'.inService g) = left g)
    (h : s.HeadsLeft t left) (hpres : s'.pres = s.pres) (hreader : s'.reader = s.reader)
    (hcache : s'.band.cache = s.band.cache) :
    s'.leaveAll before = ((s'.setPres t.pres).setReader t.reader).setBand { s'.band with cache := t.band.cache } := by
  obtain ⟨⟨p, r, c, honly⟩, hall⟩ := s'.leaveAll_spec before
  rw [funext hleft] at hall
  obtain ⟨hp, hr, hc⟩ := h.unique hall hpres hreader hcache
  rw [← hp, ← hr, ← hc, honly]
  rfl

theorem State.leaveAll_none {before : State} (h : ∀ g, before.inService g = true → s.inService g = true) :
    s.leaveAll before = s :=
  foldl_allFin_none fun g => if_neg (by
    rw [Bool.and_eq_true, Bool.not_eq_true']
    rintro ⟨hg, hg'⟩
    rw [h g hg] at hg'
    cases hg')

theorem State.tookSettings_same {tag : Byte} {x : Settings} (h : x = s.settings) :
    s.tookSettings tag x = s.replied tag .ok .none := if_pos h

/-- Settings that differ are held and asked to be written, whatever the reply (R11, R16). -/
theorem State.tookSettings_new {tag : Byte} {x : Settings} (h : x ≠ s.settings) : s.tookSettings tag x =
    if s.band.port = .fault then ((s.setSettings x).setBand { s.band with
      queue := if .headerWrite ∈ s.band.queue then s.band.queue else s.band.queue ++ [.headerWrite] }).replied tag .store
        .none
    else (s.setSettings x).setBand { s.band with
      queue := if .headerWrite ∈ s.band.queue then s.band.queue else s.band.queue ++ [.headerWrite]
      replyWait := some ⟨.header, .none, false⟩ } := if_neg h

/-- The taking of settings reads nothing of the heads' records. -/
theorem State.tookSettings_heads (s : State) (tag : Byte) (x : Settings) (p : Vector (Option Presentation) 284)
    (r : Reader) (c : Vector CacheEntry 32) :
    (((s.setPres p).setReader r).setBand { s.band with cache := c }).tookSettings tag x =
      (((s.tookSettings tag x).setPres p).setReader r).setBand { (s.tookSettings tag x).band with cache := c } := by
  obtain ⟨t, ht⟩ : ∃ t, t = ((s.setPres p).setReader r).setBand { s.band with cache := c } := ⟨_, rfl⟩
  have hset : t.settings = s.settings := by rw [ht]; rfl
  have hport : t.band.port = s.band.port := by rw [ht]; rfl
  rw [← ht]
  by_cases hx : x = s.settings
  · rw [State.tookSettings_same (hx.trans hset.symm), State.tookSettings_same hx, ht]
    rfl
  · rw [State.tookSettings_new (by rw [hset]; exact hx), State.tookSettings_new hx, hport, ht]
    split <;> rfl

theorem State.tookSettings_kept (s : State) (tag : Byte) (x : Settings) :
    (s.tookSettings tag x).pres = s.pres ∧ (s.tookSettings tag x).reader = s.reader ∧
      (s.tookSettings tag x).band.cache = s.band.cache ∧ (s.tookSettings tag x).strings = s.strings ∧
      (s.tookSettings tag x).settings = x := by
  unfold State.tookSettings
  split
  · next h => exact ⟨rfl, rfl, rfl, rfl, h.symm⟩
  · dsimp only
    split <;> exact ⟨rfl, rfl, rfl, rfl, rfl⟩

/-- The heads leave behind the taking of new settings as they would before it. -/
theorem State.tookSettings_leaveAll {before : State} {tag : Byte} {x : Settings}
    (hleft : ∀ g, (before.inService g && !(s'.tookSettings tag x).inService g) = left g) (h : s.HeadsLeft t left)
    (hpres : s'.pres = s.pres) (hreader : s'.reader = s.reader) (hcache : s'.band.cache = s.band.cache)
    (ht : t = ((s'.setPres t.pres).setReader t.reader).setBand { s'.band with cache := t.band.cache }) :
    (s'.tookSettings tag x).leaveAll before = t.tookSettings tag x := by
  obtain ⟨hp, hr, hc, -, -⟩ := s'.tookSettings_kept tag x
  rw [State.leaveAll_eq hleft h (hp.trans hpres) (hr.trans hreader) (hc.trans hcache), ← State.tookSettings_heads, ← ht]

end

/-- A head stays in service where its string stays FITTED and the lane count does not fall. -/
theorem State.inService_of {s t : State} (hs : ∀ j, (s.string j).fitting = .fitted → (t.string j).fitting = .fitted)
    (hl : s.settings.fittedLanes ≤ t.settings.fittedLanes) (g : HeadNo) (h : s.inService g = true) :
    t.inService g = true := by
  rw [State.inService_eq] at h ⊢
  split_ifs at h ⊢
  · exact decide_eq_true (hs _ (of_decide_eq_true h))
  · exact decide_eq_true (hs _ (of_decide_eq_true h))
  · exact decide_eq_true (Nat.lt_of_lt_of_le (of_decide_eq_true h) hl)

/-! ### STRINGS FITTED (R76) -/

theorem stringsBetween_empty {lo hi : Nat} (h : hi ≤ lo) : stringsBetween lo hi = [] :=
  List.filter_eq_nil_iff.2 fun i _ => by simp; omega

theorem stringsBetween_one : ∀ i : Fin 8, stringsBetween i.val (i.val + 1) = [i] := by decide

theorem LockerState.unfittable_iff (st : LockerState) : st.unfittable = true ↔ st = .vacant ∨ st = .suspended := by
  cases st <;> simp [LockerState.unfittable]

theorem lockerAt_string (i : Fin 8) (p : Position) : (lockerAt i p).val / 32 = i.val := by
  simp only [lockerAt]
  omega

theorem State.stringsIdle_iff {s : State} {lo hi : Nat} : s.stringsIdle lo hi = true ↔
    ∀ k : LockerNo, lo ≤ k.val / 32 → k.val / 32 < hi → (s.locker k).state = .vacant ∨ (s.locker k).state = .suspended := by
  simp only [State.stringsIdle, List.all_eq_true, mem_stringsBetween, List.mem_finRange, forall_const,
    LockerState.unfittable_iff]
  refine ⟨fun h k hlo hhi => ?_, fun h i hi p => h _ ?_ ?_⟩
  · rw [← lockerAt_string_position k (lockerString_lt k)]
    exact h _ ⟨hlo, hhi⟩ _
  · rw [lockerAt_string]
    exact hi.1
  · rw [lockerAt_string]
    exact hi.2

theorem State.StringsOnly.trans {s t u : State} (h : s.StringsOnly t) (h' : t.StringsOnly u) : s.StringsOnly u := by
  obtain ⟨x, y, rfl⟩ := h
  obtain ⟨x', y', rfl⟩ := h'
  exact ⟨x', y', rfl⟩

/-- A new fitted-string count is taken behind the change of the strings. -/
theorem State.applySettings_strings {s t : State} {o : Outstanding} (h : s.StringsOnly t)
    (ho : s.link.outstanding = some o) (n : Nat) : t.applySettings { t.settings with fittedStrings := n } =
      t.tookSettings o.tag { s.settings with fittedStrings := n } := by
  obtain ⟨x, y, rfl⟩ := h
  exact State.applySettings_outstanding (s := (s.setStrings x).setScanner y) ho _

section
variable {s : State} {tag : Byte} {body : List Byte}

/-- STRINGS FITTED that is not turned down: the strings change, the values are taken, and heads leave (R76). -/
theorem State.serveStringsFitted_taken (h : 1 ≤ argByte body 0) (h8 : argByte body 0 ≤ 8)
    (hidle : s.stringsIdle (argByte body 0) s.settings.fittedStrings = true) :
    (s.taken .stringsFitted tag).serveStringsFitted body =
      ((((stringsBetween (argByte body 0) s.settings.fittedStrings).foldl (State.renewString StringRecord.atReset)
        ((stringsBetween s.settings.fittedStrings (argByte body 0)).foldl
          (State.renewString ⟨.establishing, [], .idle⟩) (s.taken .stringsFitted tag))).tookSettings tag
            { s.settings with fittedStrings := argByte body 0 }).leaveAll (s.taken .stringsFitted tag)) := by
  have hidle' : ¬(s.taken .stringsFitted tag).stringsIdle (argByte body 0) s.settings.fittedStrings = false := by
    rw [Bool.not_eq_false]
    exact hidle
  refine (if_neg (by omega)).trans ((if_neg hidle').trans ?_)
  exact congrArg (fun t : State => t.leaveAll (s.taken .stringsFitted tag)) (State.applySettings_strings
    ((State.foldl_renewString _ _ _).1.trans (State.foldl_renewString _ _ _).1) (s.taken_outstanding .stringsFitted tag) _)

end

/-- Settles O47. -/
theorem stringsFitted : Obligations.StringsFitted := by
  intro s tag body ht u
  have hidleNone (h : s.settings.fittedStrings ≤ argByte body 0) :
      s.stringsIdle (argByte body 0) s.settings.fittedStrings = true :=
    State.stringsIdle_iff.2 fun k hlo hhi => by omega
  refine ⟨fun h => ht.exec_range tag (if_pos h), fun k h1 hlo hhi hv hsus => ?_, fun h1 h8 h => ?_,
    fun h8 h i hi hfit => ?_, fun h1 hlt hmax hidle => ?_⟩
  · have hk := k.isLt
    have hnot : u.stringsIdle (argByte body 0) u.settings.fittedStrings = false := by
      rw [← Bool.not_eq_true, State.stringsIdle_iff]
      exact fun h => (h k hlo hhi).elim hv hsus
    exact ht.exec_answered tag ((if_neg (by omega)).trans (if_pos hnot)) rfl
  · have hserve := State.serveStringsFitted_taken (tag := tag) h1 h8 (hidleNone h.ge)
    rw [stringsBetween_empty h.le, stringsBetween_empty h.ge, List.foldl_nil, List.foldl_nil,
      State.tookSettings_same (by rw [h]; rfl)] at hserve
    exact ht.exec_serve tag (hserve.trans (State.leaveAll_none (State.inService_of (fun _ hj => hj) le_rfl)))
  · have hold : s.settings.fittedStrings < 8 := by omega
    have hserve := State.serveStringsFitted_taken (tag := tag) (by omega) h8 (hidleNone (by omega))
    have hi' : i = lockerStringNo ⟨s.settings.fittedStrings, hold⟩ := Fin.ext hi
    have hone : stringsBetween s.settings.fittedStrings (s.settings.fittedStrings + 1) =
      [⟨s.settings.fittedStrings, hold⟩] := stringsBetween_one ⟨_, hold⟩
    rw [h, stringsBetween_empty (Nat.le_succ s.settings.fittedStrings), hone, List.foldl_nil, List.foldl_cons,
      List.foldl_nil] at hserve
    rw [h, hi']
    refine ht.exec_serve tag (hserve.trans (State.leaveAll_none (State.inService_of (fun j hj => ?_) ?_)))
    · have hstrings := ((u.renewString ⟨.establishing, [], .idle⟩ ⟨s.settings.fittedStrings, hold⟩).tookSettings_kept tag
        { s.settings with fittedStrings := s.settings.fittedStrings + 1 }).2.2.2.1
      have hne : lockerStringNo ⟨s.settings.fittedStrings, hold⟩ ≠ j := fun hj' => by
        rw [← hj', ← hi'] at hj
        exact hfit hj
      have hj' : (u.renewString ⟨.establishing, [], .idle⟩ ⟨s.settings.fittedStrings, hold⟩).string j = s.string j :=
        (State.setString_string ..).trans (if_neg hne)
      rw [State.string, hstrings]
      exact (congrArg StringRecord.fitting hj').trans hj
    · rw [((u.renewString _ _).tookSettings_kept tag _).2.2.2.2]
      exact le_rfl
  · intro goes left t hleft heq hstring hcontacts
    have hserve := State.serveStringsFitted_taken (tag := tag) h1 (by omega) (State.stringsIdle_iff.2 hidle)
    rw [stringsBetween_empty hlt.le, List.foldl_nil] at hserve
    obtain ⟨⟨x, y, honly⟩, hrecords⟩ := State.foldl_renewString StringRecord.atReset
      (stringsBetween (argByte body 0) s.settings.fittedStrings) u
    set v := (stringsBetween (argByte body 0) s.settings.fittedStrings).foldl (State.renewString StringRecord.atReset) u
    have hgoes (j : StringNo) : goes j = true ↔
        ∃ i ∈ stringsBetween (argByte body 0) s.settings.fittedStrings, lockerStringNo i = j := by
      simp only [goes, decide_eq_true_eq, mem_stringsBetween]
      refine ⟨fun hj => ⟨⟨j.val, by omega⟩, hj, rfl⟩, ?_⟩
      rintro ⟨i, hi, rfl⟩
      exact hi
    have hgone (j : StringNo) (hj : ¬goes j = true) :
        ∀ i ∈ stringsBetween (argByte body 0) s.settings.fittedStrings, lockerStringNo i ≠ j :=
      fun i hi hij => hj ((hgoes j).2 ⟨i, hi, hij⟩)
    have hvs (j : StringNo) : v.string j = if goes j = true then ⟨.notFitted, [], .idle⟩ else s.string j := by
      split
      · next hj => exact ((hrecords j).1 ((hgoes j).1 hj)).1
      · next hj => exact ((hrecords j).2 (hgone j hj)).1
    have hvc (j : StringNo) : v.contacts j = if goes j = true then StringContacts.atReset else s.contacts j := by
      split
      · next hj => exact ((hrecords j).1 ((hgoes j).1 hj)).2
      · next hj => exact ((hrecords j).2 (hgone j hj)).2
    have hstrings : v.strings = t.strings := Vector.ext fun i hi => (hvs ⟨i, hi⟩).trans (hstring ⟨i, hi⟩).symm
    have hscanner : v.scanner = t.scanner := Vector.ext fun i hi => (hvc ⟨i, hi⟩).trans (hcontacts ⟨i, hi⟩).symm
    refine ht.exec_serve tag (hserve.trans (State.tookSettings_leaveAll (left := left) (s := s) (fun g => ?_) hleft ?_ ?_
      ?_ ?_))
    · obtain ⟨-, -, -, htook, hset⟩ := v.tookSettings_kept tag { s.settings with fittedStrings := argByte body 0 }
      have hafter (j : StringNo) : (v.tookSettings tag { s.settings with fittedStrings := argByte body 0 }).string j =
          if goes j = true then ⟨.notFitted, [], .idle⟩ else s.string j := by
        rw [← hvs j]
        simp only [State.string, htook]
      have hkeep (j : StringNo) (hj : ¬goes j = true) :
          (v.tookSettings tag { s.settings with fittedStrings := argByte body 0 }).string j = s.string j :=
        (hafter j).trans (if_neg hj)
      have hu (j : StringNo) : u.string j = s.string j := rfl
      rw [State.inService_eq, State.inService_eq, hset]
      by_cases h1 : g.val < 256
      · rw [dif_pos h1, dif_pos h1, hu, hafter]
        have hleft : left g = decide (goes (lockerString ⟨g.val, h1⟩) = true ∧
            (s.string (lockerString ⟨g.val, h1⟩)).fitting = .fitted) := by
          refine decide_eq_decide.2 ⟨?_, fun h => ⟨_, rfl, h⟩⟩
          rintro ⟨k, hk, h⟩
          obtain rfl : (⟨g.val, h1⟩ : LockerNo) = k := Fin.ext hk
          exact h
        rw [hleft]
        generalize s.string (lockerString ⟨g.val, h1⟩) = r
        cases goes (lockerString ⟨g.val, h1⟩)
        · simp
        · simp
      · have hleft : left g = false := by
          refine decide_eq_false ?_
          rintro ⟨k, hk, -⟩
          exact h1 (hk ▸ k.isLt)
        have h8 : ¬goes 8 = true := fun h => by
          have : 8 < s.settings.fittedStrings := (of_decide_eq_true h).2
          omega
        rw [dif_neg h1, dif_neg h1, hleft, hkeep 8 h8]
        exact Bool.and_not_self _
    · rw [honly]; rfl
    · rw [honly]; rfl
    · rw [honly]; rfl
    · have hx : x = t.strings := by rw [← hstrings, honly]; rfl
      have hy : y = t.scanner := by rw [← hscanner, honly]; rfl
      rw [honly, hx, hy]
      exact heq

/-! ### Lanes fitted (R138) -/

theorem laneRoleOf_some {body : List Byte} {i : Nat} (h : argByte body i ≤ 1) :
    laneRoleOf (byteAt body i) = some (if argByte body i = 0 then .entry else .exit) := by
  unfold argByte at h ⊢
  generalize byteAt body i = b at h ⊢
  have hb : b = 0 ∨ b = 1 := by
    rcases Nat.le_one_iff_eq_zero_or_eq_one.mp h with h | h
    · exact .inl (BitVec.eq_of_toNat_eq h)
    · exact .inr (BitVec.eq_of_toNat_eq h)
  rcases hb with rfl | rfl <;> rfl

theorem argByte_le_of_laneRoleOf {body : List Byte} {i : Nat} {r : LaneRole} (h : laneRoleOf (byteAt body i) = some r) :
    argByte body i ≤ 1 := by
  unfold laneRoleOf at h
  unfold argByte
  split_ifs at h with h0 h1
  · rw [h0]
    decide
  · rw [h1]
    decide

/-- A lane under new lane settings (R138). -/
def State.refitted (s : State) (x : Settings) (l : LaneNo) (y : Lane) : Lane :=
  if l.val < s.settings.fittedLanes then
    if x.fittedLanes ≤ l.val then Lane.atReset
    else if x.roles[l.val] = s.settings.roles[l.val] then y else { y with phase := 0 }
  else if l.val < x.fittedLanes then { Lane.atReset with beams := s.lanes.pins[l.val] } else y

/-- Each lane takes its place under the new settings, and nothing else changes. -/
theorem State.refitLanes_spec (s : State) (x : Settings) :
    s.LanesOnly ((allFin 4).foldl (fun t l => t.refitLane x l) s) ∧
      ∀ l, ((allFin 4).foldl (fun t l => t.refitLane x l) s).lane l = s.refitted x l (s.lane l) := by
  have step (t : State) (l : LaneNo) (ht : s.LanesOnly t) :
      t.refitLane x l = t.setLane l (s.refitted x l (t.lane l)) := by
    have hfitted : t.laneFitted l = true ↔ l.val < s.settings.fittedLanes := by
      obtain ⟨z, rfl⟩ := ht
      exact decide_eq_true_iff
    have hrole : t.laneRole l = s.settings.roles[l.val] := by obtain ⟨z, rfl⟩ := ht; rfl
    have hpins : t.lanes.pins = s.lanes.pins := by obtain ⟨z, rfl⟩ := ht; rfl
    by_cases hfit : l.val < s.settings.fittedLanes
    · rw [State.refitLane, if_pos (hfitted.2 hfit), State.refitted, if_pos hfit, hrole]
      by_cases hgoes : x.fittedLanes ≤ l.val
      · rw [if_pos hgoes, if_pos hgoes]
        rfl
      · rw [if_neg hgoes, if_neg hgoes]
        by_cases hr : x.roles[l.val] = s.settings.roles[l.val]
        · rw [if_neg (not_not_intro hr), if_pos hr]
          exact (t.setLane_self l).symm
        · rw [if_pos hr, if_neg hr]
    · rw [State.refitLane, if_neg (mt hfitted.1 hfit), State.refitted, if_neg hfit]
      split
      · rw [State.fitLane, hpins]
      · exact (t.setLane_self l).symm
  obtain ⟨honly, hlane⟩ := foldl_record (P := s.LanesOnly) (get := State.lane) (f := fun t l => t.refitLane x l)
    (g := s.refitted x)
    (fun t l ht => by
      rw [step t l ht]
      obtain ⟨z, rfl⟩ := ht
      exact ⟨_, rfl⟩)
    (fun t l m ht => by
      rw [step t l ht]
      exact State.setLane_lane ..)
    (List.nodup_finRange 4) ⟨_, rfl⟩
  exact ⟨honly, fun l => (hlane l).trans (if_pos (List.mem_finRange l))⟩

section
variable {s : State} {body : List Byte}

/-- Lane settings in range reach the tests of R138. -/
theorem State.serveLaneSettings_good {roles : Vector LaneRole 4} (hcount : argByte body 0 ≤ 4)
    (hbytes : ∀ l : LaneNo, argByte body (l.val + 1) ≤ 1) (hw : 2 ≤ argByte body 5) (hw' : argByte body 5 ≤ 30)
    (hroles : ∀ l : LaneNo, roles[l.val] = if argByte body (l.val + 1) = 0 then .entry else .exit) :
    s.serveLaneSettings body = s.takeLaneSettings { s.settings with
      fittedLanes := argByte body 0, roles := roles, armWindow := argByte body 5 } := by
  have hrole (l : LaneNo) : laneRoleOf (byteAt body (l.val + 1)) = some roles[l.val] := by
    rw [laneRoleOf_some (hbytes l), ← hroles l]
  have h0 : laneRoleOf (byteAt body 1) = some roles[0] := hrole 0
  have h1 : laneRoleOf (byteAt body 2) = some roles[1] := hrole 1
  have h2 : laneRoleOf (byteAt body 3) = some roles[2] := hrole 2
  have h3 : laneRoleOf (byteAt body 4) = some roles[3] := hrole 3
  have hrange : argByte body 0 ≤ 4 ∧ within 2 30 (argByte body 5) = true := ⟨hcount, (within_iff ..).2 ⟨hw, hw'⟩⟩
  have hvector : #v[roles[0], roles[1], roles[2], roles[3]] = roles := by
    ext i hi
    interval_cases i <;> rfl
  rw [State.serveLaneSettings, h0, h1, h2, h3]
  refine (if_pos hrange).trans ?_
  rw [hvector]

theorem State.serveLaneSettings_range (h : ¬(argByte body 0 ≤ 4 ∧ (∀ l : LaneNo, argByte body (l.val + 1) ≤ 1) ∧
    2 ≤ argByte body 5 ∧ argByte body 5 ≤ 30)) : s.serveLaneSettings body = s.answer .range := by
  unfold State.serveLaneSettings
  split
  · next r0 r1 r2 r3 h0 h1 h2 h3 =>
    refine if_neg fun ⟨hcount, hw⟩ => h ⟨hcount, fun l => ?_, (within_iff ..).1 hw⟩
    fin_cases l
    · exact argByte_le_of_laneRoleOf h0
    · exact argByte_le_of_laneRoleOf h1
    · exact argByte_le_of_laneRoleOf h2
    · exact argByte_le_of_laneRoleOf h3
  · rfl

/-- An affected lane is ARMED or has a commit pending (R138). -/
theorem State.laneAffected_iff (x : Settings) (l : LaneNo) : s.laneAffected x l = true ↔ l.val < s.settings.fittedLanes ∧
    (x.fittedLanes ≤ l.val ∨ x.roles[l.val] ≠ s.settings.roles[l.val]) := by
  simp [State.laneAffected, State.laneFitted, State.laneRole]

theorem Lane.engaged_iff (x : Lane) : x.engaged = true ↔ x.arm.isSome = true ∨ x.commit.isSome = true := by
  simp [Lane.engaged]

theorem State.takeLaneSettings_state {x : Settings} {l : LaneNo} (h : s.laneAffected x l = true)
    (hl : (s.lane l).engaged = true) : s.takeLaneSettings x = s.answer .state :=
  if_pos (List.any_eq_true.2 ⟨l, List.mem_finRange l, by rw [h, hl]; rfl⟩)

/-- Lane settings that no lane stands against are taken behind the change of the lanes, and heads leave (R138). -/
theorem State.takeLaneSettings_taken {x : Settings} {tag : Byte}
    (h : ∀ l, s.laneAffected x l = true → (s.lane l).arm = none ∧ (s.lane l).commit = none) :
    (s.taken .laneSettings tag).takeLaneSettings x =
      (((allFin 4).foldl (fun t l => t.refitLane x l) (s.taken .laneSettings tag)).tookSettings tag x).leaveAll
        (s.taken .laneSettings tag) := by
  obtain ⟨⟨y, honly⟩, -⟩ := (s.taken .laneSettings tag).refitLanes_spec x
  have hnone : ¬(allFin 4).any (fun l => (s.taken .laneSettings tag).laneAffected x l &&
      ((s.taken .laneSettings tag).lane l).engaged) = true := by
    rw [List.any_eq_true]
    rintro ⟨l, -, hl⟩
    rw [Bool.and_eq_true, Lane.engaged_iff] at hl
    obtain ⟨hl, hengaged⟩ := hl
    obtain ⟨harm, hcommit⟩ := h l hl
    have harm' : ((s.taken .laneSettings tag).lane l).arm = none := harm
    have hcommit' : ((s.taken .laneSettings tag).lane l).commit = none := hcommit
    rw [harm', hcommit'] at hengaged
    simp at hengaged
  refine (if_neg hnone).trans (congrArg (fun t : State => t.leaveAll (s.taken .laneSettings tag)) ?_)
  rw [honly]
  exact State.applySettings_outstanding (s := (s.taken .laneSettings tag).setLanes
    { (s.taken .laneSettings tag).lanes with table := y }) (s.taken_outstanding .laneSettings tag) x

end

/-! ### SERVICE mode (R137) -/

section
variable (s : State)

theorem State.postWatch_setLanes (sub : JournalSubject) (x : LaneUnit) :
    (s.postWatch sub).setLanes x = (s.setLanes x).postWatch sub := by
  cases sub with
  | locker k =>
    rw [State.postWatch, State.postWatch]
    split
    · next h => exact (if_pos h).symm
    · next h => exact (if_neg h).symm
  | cabin c => rfl
  | lane l => rfl

/-- The close of an entry reads nothing of the lanes and writes nothing to them. -/
theorem State.journalClose_setLanes (link : Option JournalLink) (sub : JournalSubject) (o : EntryOutcome)
    (x : LaneUnit) : (s.journalClose link sub o).setLanes x = (s.setLanes x).journalClose link sub o := by
  rcases link with _ | link
  · rfl
  · rcases he : s.journal.ring[link.slot.val] with _ | e
    · have he' : (s.setLanes x).journal.ring[link.slot.val] = none := he
      simp only [State.journalClose, he, he']
    · have he' : (s.setLanes x).journal.ring[link.slot.val] = some e := he
      simp only [State.journalClose, he, he']
      split
      · next h => exact (State.postWatch_setLanes ..).trans (if_pos h).symm
      · next h => exact (if_neg h).symm

variable {s} {l : LaneNo}

theorem State.serveLane_same {on : Bool} (h : on = (s.lane l).service) : s.serveLane l on = s := if_pos h

theorem State.serveLane_off (h : (s.lane l).service = true) :
    s.serveLane l false = s.setLane l { s.lane l with service := false, phase := 0, turnstile := false } := by
  rw [State.serveLane, h]
  rfl

theorem State.serveLane_on (h : (s.lane l).service = false) (ha : (s.lane l).arm = none) :
    s.serveLane l true = s.setLane l { s.lane l with service := true, phase := 0, turnstile := true } := by
  rw [State.serveLane, h, ha]
  rfl

/-- Entering SERVICE mode cancels an arm (R137). -/
theorem State.serveLane_cancels (h : (s.lane l).service = false) (ha : (s.lane l).arm.isSome = true) :
    s.serveLane l true = (s.setLane l { s.lane l with
      service := true, phase := 0, turnstile := true, arm := none, link := none }).journalClose (s.lane l).link (.lane l)
        .cancelled := by
  obtain ⟨a, ha⟩ := Option.isSome_iff_exists.1 ha
  obtain ⟨x, hx⟩ : ∃ x, x = { s.lane l with
    arm := none, link := none, turnstile := (s.lane l).service && (s.lane l).turnstile } := ⟨_, rfl⟩
  have hdisarm : s.disarm l .cancelled = (s.setLane l x).journalClose (s.lane l).link (.lane l) .cancelled := by
    rw [hx]
    rfl
  have honly := (s.setLane l x).journalClose_only (s.lane l).link (.lane l) .cancelled
  have hlane : (s.disarm l .cancelled).lane l = x := by
    rw [hdisarm, State.lane, honly.lanes]
    exact (State.setLane_lane s l l x).trans (if_pos rfl)
  have hset (y : Lane) : (s.disarm l .cancelled).setLane l y =
      (s.setLane l y).journalClose (s.lane l).link (.lane l) .cancelled := by
    rw [State.setLane, hdisarm, honly.lanes, State.journalClose_setLanes]
    exact congrArg (fun t : State => t.journalClose (s.lane l).link (.lane l) .cancelled) (s.setLane_setLane l x y)
  rw [State.serveLane, h, ha]
  refine (hset _).trans ?_
  rw [hlane, hx]

end

/-! ### CAPACITY SET and OCCUPANCY SET (R139), and the lane requests together -/

theorem State.evaluateFull_eq (s : State) : s.evaluateFull = s.hallTested := rfl

/-- LANE SERVICE at its service (R137). -/
theorem laneService_spec {s : State} {tag : Byte} {body : List Byte} (ht : s.takes .laneService body) :
    let u := s.taken .laneService tag
    (3 < argByte body 0 ∨ s.settings.fittedLanes ≤ argByte body 0 ∨ 1 < argByte body 1 →
      exec (.laneService tag body) s = .next (u.replied tag .range .none).arbitrate) ∧
    ∀ l : LaneNo, argByte body 0 = l.val → l.val < s.settings.fittedLanes → argByte body 1 ≤ 1 →
      ∀ t : State, u.serveLane l (decide (argByte body 1 = 1)) = t →
        t.link.outstanding = u.link.outstanding → exec (.laneService tag body) s = .next (t.replied tag .ok .none).arbitrate := by
  intro u
  have hserve : u.serveHostRequest .laneService body = u.laneRequest body (fun l =>
      if u.laneFitted l then
        match onOffOf (byteAt body 1) with
        | none => u.answer .range
        | some on => (u.serveLane l on).answer .ok
      else u.answer .range) := rfl
  refine ⟨fun h => ?_, fun l hl hfit hon t hserved hout => ?_⟩
  · by_cases hl : 3 < argByte body 0
    · exact ht.exec_range tag (hserve.trans (State.laneRequest_range hl _))
    · have hnamed : argByte body 0 = (⟨argByte body 0, by omega⟩ : LaneNo).val := rfl
      refine ht.exec_range tag (hserve.trans ((State.laneRequest_named hnamed _).trans ?_))
      split
      · next hfit =>
        have hfit' : argByte body 0 < s.settings.fittedLanes := of_decide_eq_true hfit
        rw [onOffOf_none (by omega)]
      · rfl
  · refine ht.exec_answered tag (hserve.trans ((State.laneRequest_named hl _).trans ((if_pos (decide_eq_true hfit)).trans
      ?_))) hout
    rw [onOffOf_some hon, ← hserved]

/-- LANE SETTINGS that is taken ends in the settings taken behind the lanes refitted. -/
theorem exec_laneSettings {s : State} {tag : Byte} {body : List Byte} (ht : s.takes .laneSettings body)
    {roles : Vector LaneRole 4} (hcount : argByte body 0 ≤ 4) (hbytes : ∀ l : LaneNo, argByte body (l.val + 1) ≤ 1)
    (hw : 2 ≤ argByte body 5) (hw' : argByte body 5 ≤ 30)
    (hroles : ∀ l : LaneNo, roles[l.val] = if argByte body (l.val + 1) = 0 then .entry else .exit)
    {t : State} (hserve : (s.taken .laneSettings tag).takeLaneSettings { s.settings with
      fittedLanes := argByte body 0, roles := roles, armWindow := argByte body 5 } = t) :
    exec (.laneSettings tag body) s = .next t.arbitrate :=
  ht.exec_serve tag ((State.serveLaneSettings_good (s := s.taken .laneSettings tag) hcount hbytes hw hw' hroles).trans
    hserve)

/-- Settles O55. -/
theorem laneRequests : Obligations.LaneRequests := by
  unfold Obligations.LaneRequests
  refine ⟨fun s tag body => ⟨fun ht => ?_, fun ht => ?_⟩, fun s tag body => ⟨fun ht => ?_, fun ht => ?_⟩⟩
  · intro u
    obtain ⟨hrange, hserve⟩ := laneService_spec (tag := tag) ht
    refine ⟨hrange, fun l hl hfit => ?_⟩
    intro x
    refine ⟨fun h1 hs ha => ?_, fun h1 hs ha => ?_, fun h1 hs => ?_, fun h => ?_⟩
    · refine hserve l hl hfit h1.le _ ?_ rfl
      rw [h1]
      exact State.serveLane_on (s := u) hs ha
    · refine hserve l hl hfit h1.le _ ?_ ?_
      · rw [h1]
        exact State.serveLane_cancels (s := u) hs ha
      · rw [State.journalClose_outstanding]
        rfl
    · refine hserve l hl hfit (by omega) _ ?_ rfl
      rw [h1]
      exact State.serveLane_off (s := u) hs
    · refine hserve l hl hfit (by omega) _ (State.serveLane_same (s := u) ?_) rfl
      have hx : (u.lane l).service = x.service := rfl
      rw [hx]
      rcases h with ⟨h1, hs⟩ | ⟨h1, hs⟩ <;> rw [h1, hs] <;> rfl
  · intro u role good
    have hmake {roles : Vector LaneRole 4} (hroles : ∀ l : LaneNo, roles[l.val] = role l) (hgood : good) {t : State}
        (h : u.takeLaneSettings { s.settings with
          fittedLanes := argByte body 0, roles := roles, armWindow := argByte body 5 } = t) :
        exec (.laneSettings tag body) s = .next t.arbitrate := by
      obtain ⟨hcount, hbytes, hw, hw'⟩ := hgood
      exact exec_laneSettings ht hcount hbytes hw hw' hroles h
    refine ⟨fun h => ht.exec_range tag (State.serveLaneSettings_range (s := u) h), fun l hgood hl haff heng => ?_,
      fun table roles hgood hup hroles hfree htable => ?_, fun t roles hgood hdown hmax hroles hfree hleft heq hlane => ?_⟩
    · have hroles (m : LaneNo) : (Vector.ofFn role)[m.val] = role m := Vector.getElem_ofFn ..
      refine hmake hroles hgood ((State.takeLaneSettings_state (s := u) (l := l) ?_ ?_).trans
        (State.answer_outstanding (s.taken_outstanding ..) _))
      · rw [State.laneAffected_iff]
        refine ⟨hl, haff.imp id fun h => ?_⟩
        rw [hroles l]
        exact h
      · exact (Lane.engaged_iff _).2 heng
    · set x : Settings := { s.settings with
        fittedLanes := argByte body 0, roles := roles, armWindow := argByte body 5 }
      have hfree' (l : LaneNo) (h : s.laneAffected x l = true) : (s.lane l).arm = none ∧ (s.lane l).commit = none := by
        obtain ⟨hl, h⟩ := (State.laneAffected_iff x l).1 h
        refine hfree l hl (h.elim (fun h => absurd (show argByte body 0 ≤ l.val from h) (by omega)) fun h => ?_)
        rw [← hroles l]
        exact h
      obtain ⟨⟨y, honly⟩, hlanes⟩ := u.refitLanes_spec x
      have hy : y = table := Vector.ext fun i hi => by
        have hlane := hlanes ⟨i, hi⟩
        rw [honly] at hlane
        refine Eq.trans hlane ?_
        rw [htable ⟨i, hi⟩, State.refitted, ← hroles ⟨i, hi⟩]
        change (if i < s.settings.fittedLanes then
          if argByte body 0 ≤ i then Lane.atReset
          else if roles[i] = s.settings.roles[i] then s.lane ⟨i, hi⟩ else { s.lane ⟨i, hi⟩ with phase := 0 }
          else _) = _
        by_cases hfit : i < s.settings.fittedLanes
        · rw [if_pos hfit, if_pos hfit, if_neg (by omega)]
        · rw [if_neg hfit, if_neg hfit]
          rfl
      rw [hy] at honly
      obtain ⟨-, -, -, hstrings, hset⟩ := (u.setLanes { u.lanes with table := table }).tookSettings_kept tag x
      refine hmake hroles hgood ((State.takeLaneSettings_taken hfree').trans ?_)
      rw [honly]
      refine State.leaveAll_none (State.inService_of (fun j hj => ?_) ?_)
      · rw [State.string, hstrings]
        exact hj
      · rw [hset]
        exact hup
    · set x : Settings := { s.settings with
        fittedLanes := argByte body 0, roles := roles, armWindow := argByte body 5 }
      have hfree' (l : LaneNo) (h : s.laneAffected x l = true) : (s.lane l).arm = none ∧ (s.lane l).commit = none := by
        obtain ⟨hl, h⟩ := (State.laneAffected_iff x l).1 h
        refine hfree l hl (h.imp id fun h => ?_)
        rw [← hroles l]
        exact h
      obtain ⟨⟨y, honly⟩, hlanes⟩ := u.refitLanes_spec x
      have hy : y = t.lanes.table := Vector.ext fun i hi => by
        have h := hlanes ⟨i, hi⟩
        rw [honly] at h
        refine Eq.trans h (Eq.trans ?_ (hlane ⟨i, hi⟩).symm)
        rw [State.refitted, ← hroles ⟨i, hi⟩]
        change (if i < s.settings.fittedLanes then
          if argByte body 0 ≤ i then Lane.atReset
          else if roles[i] = s.settings.roles[i] then s.lane ⟨i, hi⟩ else { s.lane ⟨i, hi⟩ with phase := 0 }
          else if i < argByte body 0 then _ else _) = _
        by_cases hnew : i < argByte body 0
        · rw [if_pos (by omega), if_neg (by omega), if_pos hnew]
        · rw [if_pos (show argByte body 0 ≤ i by omega), if_neg hnew, if_neg hnew]
          rfl
      rw [hy] at honly
      obtain ⟨-, -, -, hstrings, hset⟩ := (u.setLanes { u.lanes with table := t.lanes.table }).tookSettings_kept tag x
      refine hmake hroles hgood ((State.takeLaneSettings_taken hfree').trans ?_)
      rw [honly]
      refine State.tookSettings_leaveAll (s := s) (fun g => ?_) hleft rfl rfl rfl heq
      have hkeep (j : StringNo) : (((u.setLanes { u.lanes with table := t.lanes.table }).tookSettings tag x).string j) =
          s.string j := by
        rw [State.string, hstrings]
        rfl
      rw [State.inService_eq, State.inService_eq, hset]
      by_cases h1 : g.val < 256
      · rw [dif_pos h1, dif_pos h1, hkeep]
        exact (Bool.and_not_self _).trans (decide_eq_false (by omega)).symm
      · rw [dif_neg h1, dif_neg h1, hkeep]
        by_cases h2 : g.val < 280
        · rw [if_pos h2, if_pos h2]
          exact (Bool.and_not_self _).trans (decide_eq_false (by omega)).symm
        · rw [if_neg h2, if_neg h2, ← decide_not, ← Bool.decide_and]
          refine decide_eq_decide.2 ?_
          change (g.val - 280 < s.settings.fittedLanes ∧ ¬g.val - 280 < argByte body 0) ↔ _
          omega
  · intro good
    refine ⟨fun h => ht.exec_range tag (if_neg fun hw => h ?_), fun h => ?_⟩
    · rw [Bool.and_eq_true, within_iff, within_iff] at hw
      exact ⟨hw.1.1, hw.1.2, hw.2.2⟩
    · refine ht.exec_serve tag ((if_pos ?_).trans ?_)
      · obtain ⟨h1, h2, h3⟩ := h
        rw [Bool.and_eq_true, within_iff, within_iff]
        exact ⟨⟨h1, h2⟩, Nat.zero_le _, h3⟩
      · exact (congrArg State.evaluateFull (State.taken_applySettings ..)).trans (State.evaluateFull_eq _)
  · have hmin : min 999 (argWord body 0) = if argWord body 0 ≤ 999 then argWord body 0 else 999 := by
      split <;> omega
    refine ht.exec_replied tag (t := ((s.taken .occupancySet tag).setLanes { s.lanes with
      occupancy := if argWord body 0 ≤ 999 then argWord body 0 else 999 }).hallTested) ?_ ?_
    · rw [← hmin]
      rfl
    · rw [← State.evaluateFull_eq, State.evaluateFull_outstanding]
      rfl

end Sys2Proof.Machine
end


section
/-!
PROOF. The writes and closes of the journal with WATCH, and JOURNAL READ (R143 to R148).
-/

namespace Sys2Proof.Machine

/-! ### WATCH (R147) -/

/-- WATCH for the entry of a subject, if there is one. -/
def State.told (s : State) : Option JournalSubject → State
  | none => s
  | some sub => s.postWatch sub

section
variable (s : State)

theorem State.postWatch_locker (k : LockerNo) :
    s.postWatch (.locker k) = if (s.locker k).watch = true then s.post .watch (.locker k) else s := rfl

theorem State.postWatch_setJournal (sub : JournalSubject) (j : Journal) :
    (s.postWatch sub).setJournal j = (s.setJournal j).postWatch sub := by
  cases sub with
  | locker k =>
    rw [State.postWatch_locker, State.postWatch_locker]
    split
    · next h => exact (if_pos h).symm
    · next h => exact (if_neg h).symm
  | cabin c => rfl
  | lane l => rfl

theorem State.postWatch_journal (sub : JournalSubject) : (s.postWatch sub).journal = s.journal := by
  cases sub with
  | locker k =>
    rw [State.postWatch_locker]
    split <;> rfl
  | cabin c => rfl
  | lane l => rfl

theorem State.told_setJournal (o : Option JournalSubject) (j : Journal) :
    (s.told o).setJournal j = (s.setJournal j).told o := by
  cases o with
  | none => rfl
  | some sub => exact s.postWatch_setJournal sub j

theorem State.told_journal (o : Option JournalSubject) : (s.told o).journal = s.journal := by
  cases o with
  | none => rfl
  | some sub => exact s.postWatch_journal sub

/-! ### Writes (R143 to R146) -/

/-- The advance of the write position, and what it posts. -/
theorem State.advanceJournal_eq : s.advanceJournal =
    let t := s.setJournal { s.journal with
      pos := if s.journal.pos = 511 then 0 else s.journal.pos + 1
      lap := if s.journal.pos = 511 then s.journal.lap + 1 else s.journal.lap }
    if s.journal.pos = 255 then t.post .journalHalf (.lap s.journal.lap)
    else if s.journal.pos = 511 then t.post .journalWrap (.lap (s.journal.lap + 1)) else t := by
  have hval (n : SlotNo) : s.journal.pos.val = n.val ↔ s.journal.pos = n := Fin.ext_iff.symm
  have h511 : s.journal.pos.val = 511 ↔ s.journal.pos = 511 := hval 511
  have h255 : s.journal.pos.val = 255 ↔ s.journal.pos = 255 := hval 255
  dsimp only
  unfold State.advanceJournal
  by_cases h : s.journal.pos = 511
  · have h' : ¬s.journal.pos = 255 := by
      rw [h]
      decide
    rw [if_neg h', if_pos h, if_pos h, if_pos h]
    exact if_pos (h511.2 h)
  · rw [if_neg h, if_neg h, if_neg h]
    refine (if_neg (mt h511.1 h)).trans ?_
    by_cases h' : s.journal.pos = 255
    · rw [if_pos h']
      exact if_pos (h255.2 h')
    · rw [if_neg h']
      exact if_neg (mt h255.1 h')

theorem State.writeSlot_eq {t : State} {j : Journal} (h : t.journal = j) (sub : JournalSubject) (band : Option BandNo)
    (party : Party) (action : JournalAction) (start : Stamp) (finish : Option (Stamp × EntryOutcome)) :
    t.writeSlot sub band party action start finish = t.setJournal { j with
      ring := j.ring.set j.pos.val (some ⟨j.lap, sub, band, party, action, start, finish⟩) } := by
  subst h
  rfl

theorem State.told_lockers (o : Option JournalSubject) : (s.told o).lockers = s.lockers := by
  cases o with
  | none => rfl
  | some sub => exact (s.postWatch_only sub).lockers

/-- A write behind the overtake test: the entry, the WATCHes, and the advance. -/
theorem State.writeTold_eq (j : Journal) (lost told : Option JournalSubject) (sub : JournalSubject)
    (band : Option BandNo) (party : Party) (action : JournalAction) (start : Stamp)
    (finish : Option (Stamp × EntryOutcome)) :
    ((((s.setJournal j).told lost).writeSlot sub band party action start finish).told told).advanceJournal =
      let t := ((s.setJournal ⟨j.ring.set j.pos.val (some ⟨j.lap, sub, band, party, action, start, finish⟩),
        if j.pos = 511 then 0 else j.pos + 1, if j.pos = 511 then j.lap + 1 else j.lap, j.overtaken⟩).told lost).told told
      if j.pos = 255 then t.post .journalHalf (.lap j.lap)
      else if j.pos = 511 then t.post .journalWrap (.lap (j.lap + 1)) else t := by
  rw [State.writeSlot_eq (State.told_journal ..), State.told_setJournal, State.advanceJournal_eq, State.told_journal,
    State.told_journal, State.told_setJournal, State.told_setJournal]
  rfl

variable {s} {copy : Option (SlotNo × JournalEntry)} {lost : Option JournalSubject}

/-- The overtake test keeps the copy of an open entry and tells its subject's WATCH (R146). -/
theorem State.overtake_eq
    (hopen : ∀ x, s.journal.ring[s.journal.pos.val] = some x → x.finish = none → lost = some x.subject ∧
      copy = some (s.journal.pos, { x with finish := some (s.clock.value, .overtaken) }))
    (hclosed : ∀ x, s.journal.ring[s.journal.pos.val] = some x → x.finish.isSome = true →
      lost = none ∧ copy = s.journal.overtaken)
    (hnone : s.journal.ring[s.journal.pos.val] = none → lost = none ∧ copy = s.journal.overtaken) :
    s.overtake = (s.setJournal { s.journal with overtaken := copy }).told lost := by
  rcases hx : s.journal.ring[s.journal.pos.val] with _ | x
  · obtain ⟨rfl, rfl⟩ := hnone hx
    simp only [State.overtake, hx]
    rfl
  · rcases hf : x.finish with _ | f
    · obtain ⟨rfl, rfl⟩ := hopen x hx hf
      simp only [State.overtake, hx, hf]
      rfl
    · obtain ⟨rfl, rfl⟩ := hclosed x hx (by rw [hf]; rfl)
      simp only [State.overtake, hx, hf]
      rfl

/-! ### Closes (R145) -/

theorem State.journalClose_open {k : JournalLink} {sub : JournalSubject} {x : JournalEntry} (hw : s.part.winding = false)
    (hx : s.journal.ring[k.slot.val] = some x) (hlap : x.lap = k.lap) (hsub : x.subject = sub) (hf : x.finish = none)
    (o : EntryOutcome) : s.journalClose (some k) sub o = (s.setJournal { s.journal with
      ring := s.journal.ring.set k.slot.val (some { x with finish := some (s.clock.value, o) }) }).postWatch sub := by
  simp only [State.journalClose, hx]
  exact if_pos (by simp [hw, hlap, hsub, hf])

theorem State.journalClose_lost {k : JournalLink} {sub : JournalSubject}
    (h : ∀ x, s.journal.ring[k.slot.val] = some x → x.lap ≠ k.lap ∨ x.subject ≠ sub ∨ x.finish.isSome = true)
    (o : EntryOutcome) : s.journalClose (some k) sub o = s := by
  rcases hx : s.journal.ring[k.slot.val] with _ | x
  · simp only [State.journalClose, hx]
  · simp only [State.journalClose, hx]
    refine if_neg fun hc => ?_
    simp only [Bool.and_eq_true, beq_iff_eq, Option.isNone_iff_eq_none] at hc
    obtain ⟨⟨⟨-, hlap⟩, hsub⟩, hf⟩ := hc
    rcases h x hx with h | h | h
    · exact h hlap
    · exact h hsub
    · rw [hf] at h
      cases h

end

/-! ### JOURNAL READ (R148) -/

/-- The entries a JOURNAL READ returns. -/
def Journal.entriesRead (j : Journal) (start : SlotNo) (count : Nat) : List (List Byte) :=
  (readSlots start count).map (fun i => slotBytes i j.ring[i.val])

theorem Journal.entriesRead_length (j : Journal) (start : SlotNo) (count : Nat) :
    (j.entriesRead start count).length = count := by
  simp [Journal.entriesRead, readSlots]

theorem Journal.entriesRead_getElem (j : Journal) (start : SlotNo) (count i : Nat)
    (h : i < (j.entriesRead start count).length) : (j.entriesRead start count)[i] =
      slotBytes (start + Fin.ofNat 512 i) j.ring[(start + Fin.ofNat 512 i).val] := by
  simp [Journal.entriesRead, readSlots]

theorem Journal.read_eq (j : Journal) (start : SlotNo) (count : Nat) : j.read start count =
    toBe16 j.pos.val ++ toBe16 j.lap.toNat ++ [BitVec.ofNat 8 count] ++ overtakenBytes j.overtaken ++
      (j.entriesRead start count).flatten := by
  rw [Journal.read, Journal.entriesRead, List.flatMap_def]

/-- Settles O59. -/
theorem journalWrites : Obligations.JournalWrites := by
  intro s sub hw j tell
  have htell (t : State) (ht : t.lockers = s.lockers) (o : Option JournalSubject) : tell t o = t.told o := by
    rcases o with _ | k | c | l
    · rfl
    · have hk : t.locker k = s.locker k := by simp only [State.locker, ht]
      refine Eq.trans ?_ (t.postWatch_locker k).symm
      rw [hk]
    · rfl
    · rfl
  refine ⟨fun band party action start o copy lost hopen hclosed hnone => ?_, fun k o => ⟨?_, fun h => ?_⟩,
    fun tag body ht => ?_⟩
  · intro written
    have hover := State.overtake_eq hopen hclosed hnone
    have hwritten (finish : Option (Stamp × EntryOutcome)) (told : Option JournalSubject) :
        ((s.overtake.writeSlot sub band party action start finish).told told).advanceJournal = written finish told := by
      have hboth (t : State) (ht : t.lockers = s.lockers) : tell (tell t lost) told = (t.told lost).told told := by
        rw [htell t ht, htell _ ((t.told_lockers lost).trans ht)]
      rw [hover, State.writeTold_eq]
      dsimp only [written]
      rw [hboth (s.setJournal ⟨j.ring.set j.pos.val (some ⟨j.lap, sub, band, party, action, start, finish⟩),
        if j.pos = 511 then 0 else j.pos + 1, if j.pos = 511 then j.lap + 1 else j.lap, copy⟩) rfl]
    have hnot : ¬s.part.winding = true := by simp [hw]
    refine ⟨?_, ?_⟩
    · have hj : s.overtake.journal.pos = j.pos ∧ s.overtake.journal.lap = j.lap := by
        rw [hover, State.told_journal]
        exact ⟨rfl, rfl⟩
      rw [State.journalOpen, if_neg hnot, ← hwritten none none]
      dsimp only
      rw [hj.1, hj.2]
      rfl
    · rw [State.journalClosed, if_neg hnot]
      exact hwritten (some (s.clock.value, o)) (some sub)
  · intro x hx hlap hsub hf
    rw [State.journalClose_open hw hx hlap hsub hf o]
    exact (htell (s.setJournal { j with
      ring := j.ring.set k.slot.val (some { x with finish := some (s.clock.value, o) }) }) rfl (some sub)).symm
  · exact State.journalClose_lost h o
  · intro u
    refine ⟨fun h => ht.exec_range tag ?_, fun slot hslot h1 h8 => ⟨j.entriesRead slot (argByte body 2),
      j.entriesRead_length .., j.entriesRead_getElem _ _, ht.exec_read tag ?_ (congrArg ReplyData.journal (j.read_eq slot (argByte body 2)))⟩⟩
    · by_cases hslot : 511 < argWord body 0
      · simp only [State.serveHostRequest, State.serveJournalRead, inRangeOf_of_le (show 512 ≤ argWord body 0 by omega)]
      · simp only [State.serveHostRequest, State.serveJournalRead,
          inRangeOf_of_lt (show argWord body 0 < 511 + 1 by omega)]
        exact if_neg (by rw [within_iff]; omega)
    · simp only [State.serveHostRequest, State.serveJournalRead, hslot, inRangeOf_val]
      exact if_pos ((within_iff ..).2 ⟨h1, h8⟩)

end Sys2Proof.Machine
end


section
/-!
PROOF. The lane's timers and the admission commit (R131, R134, R135), and the beam edges with their passages (R127 to
R131).
-/

namespace Sys2Proof.Machine

/-! ### The admission commit (R131) -/

section
variable {s : State} {l : LaneNo} {b : BandNo} {stamp : Stamp} {e : EntryNo} {rec : BandRecord}

theorem State.setLane_lane_self (s : State) (l : LaneNo) (x : Lane) : (s.setLane l x).lane l = x :=
  (State.setLane_lane ..).trans (if_pos rfl)

/-- A commit that is served at once: the band is admitted, or only the commit ends (R5, R131). -/
theorem State.bandOp_commit (hb : b.val < s.tableLength) (hserve : s.bandService = true) (he : s.entryOf b = some e)
    (hc : (s.entry e).content = .valid b rec) :
    let u := (s.setLane l { s.lane l with commit := none }).usedLast e
    (rec.state = .issued → s.bandOp b.val (.commit l stamp) =
      u.changed e b { rec with state := .inside, entry := some stamp }) ∧
    (rec.state = .barred → rec.beforeBar = some .issued → s.bandOp b.val (.commit l stamp) =
      u.changed e b { rec with beforeBar := some .inside, entry := some stamp }) ∧
    (rec.state = .inside → s.bandOp b.val (.commit l stamp) = u) := by
  intro u
  have hserved : s.bandOp b.val (.commit l stamp) = (s.serveAt e (.commit l stamp)).emptyTest e :=
    (State.bandOp_sent rfl).served e rec ⟨hserve, hb⟩ he hc
  obtain ⟨hissued, hbarred, helse⟩ := State.serveAt_commit hc l stamp
  have hpending (now : BandRecord) : ((u.changed e b now).emptyTest e) = u.changed e b now :=
    State.emptyTest_pending (by rw [State.changed_entry])
  refine ⟨fun h => ?_, fun h h' => ?_, fun h => ?_⟩
  · rw [hserved, hissued h]
    exact hpending _
  · rw [hserved, hbarred h h']
    exact hpending _
  · rw [hserved, helse (by simp [h]) (by simp [h])]
    exact State.emptyTest_inUse (s := u) (rec := rec) hc (by simp [h, BandState.inUse])

/-- A commit that is to be sent again, and ends BUSY again, is kept. -/
theorem State.resent_busy (hc : (s.lane l).commit = some ⟨b, stamp, true⟩) :
    (s.setLane l { s.lane l with commit := some ⟨b, stamp, false⟩ }).endedWith .busy (.commit l stamp) = s := by
  rw [State.endedWith, State.setLane_lane_self]
  dsimp only
  rw [State.setLane_setLane, if_pos rfl, ← hc]
  exact s.setLane_self l

theorem State.retryCommit_sent (hc : (s.lane l).commit = some ⟨b, stamp, true⟩) : s.retryCommit l =
    (s.setLane l { s.lane l with commit := some ⟨b, stamp, false⟩ }).bandOp b.val (.commit l stamp) := by
  simp only [State.retryCommit, hc, if_true, State.sendCommit]

theorem State.retryCommit_none (h : ∀ c, (s.lane l).commit = some c → c.retrying = false) : s.retryCommit l = s := by
  rcases hc : (s.lane l).commit with _ | c
  · simp only [State.retryCommit, hc]
  · simp only [State.retryCommit, hc, h c hc, Bool.false_eq_true, if_false]

end

/-- Settles O57. -/
theorem laneTimers : Obligations.LaneTimers := by
  intro s l x
  have hrun {t : State} (h : s.retryCommit l = t) : exec (.commitRetryExpiry l) s = .next t.arbitrate :=
    congrArg (fun t : State => Host.Outcome.next t.arbitrate) h
  have harm {t : State} (h : s.armTimerExpiry l = t) : exec (.armTimerExpiry l) s = .next t.arbitrate :=
    congrArg (fun t : State => Host.Outcome.next t.arbitrate) h
  refine ⟨fun h => hrun (State.retryCommit_none h), fun b stamp e rec hc hb hserve he hcontent => ?_,
    fun b stamp hc => ⟨_, hrun (State.retryCommit_sent hc), State.bandOp_sent rfl⟩,
    fun b stamp hc hserve hb he => ⟨fun hp => hrun ?_, fun hp hpool => hrun ?_⟩, rfl, rfl, fun h => harm ?_,
    fun h => harm ?_⟩
  · intro u
    set sent := s.setLane l { x with commit := some ⟨b, stamp, false⟩ }
    obtain ⟨hissued, hbarred, hinside⟩ := State.bandOp_commit (s := sent) (l := l) (stamp := stamp) hb hserve he hcontent
    have hu : (sent.setLane l { sent.lane l with commit := none }).usedLast e = u := by
      rw [State.setLane_lane_self, State.setLane_setLane]
    rw [hu] at hissued hbarred hinside
    have hsent := State.retryCommit_sent hc
    exact ⟨fun h => hrun (hsent.trans (hissued h)), fun h h' => hrun (hsent.trans (hbarred h h')),
      fun h => hrun (hsent.trans (hinside h))⟩
  · have hop := State.bandOp_sent (s := s.setLane l { s.lane l with commit := some ⟨b, stamp, false⟩ }) (n := b)
      (w := .commit l stamp) rfl
    rw [State.retryCommit_sent hc, hop.fault ⟨hserve, hb⟩ he hp, State.endedWith_commit, State.setLane_lane_self,
      State.setLane_setLane]
  · have hop := State.bandOp_sent (s := s.setLane l { s.lane l with commit := some ⟨b, stamp, false⟩ }) (n := b)
      (w := .commit l stamp) rfl
    rw [State.retryCommit_sent hc, hop.poolFull ⟨⟨hserve, hb⟩, he, hp⟩ hpool, State.resent_busy hc]
  · have h' : (s.lane l).arm = none := h
    simp only [State.armTimerExpiry, h']
  · obtain ⟨a, h⟩ := Option.isSome_iff_exists.1 h
    have h' : (s.lane l).arm = some a := h
    simp only [State.armTimerExpiry, h']
    rfl

/-! ### Edges and the phase count (R127) -/

theorem phaseStep_eq (beam : Beam) (broken other : Bool) : phaseStep beam broken other =
    if (beam = .outer ∧ broken ≠ other) ∨ (beam = .inner ∧ broken = other) then 1 else -1 := by
  cases beam <;> cases broken <;> cases other <;> rfl

theorem passedOccupancy_eq (n : Nat) (inbound : Bool) : passedOccupancy n inbound =
    if inbound = true then (if n < 999 then n + 1 else 999) else n - 1 := by
  cases inbound
  · rfl
  · rw [passedOccupancy, if_pos rfl, if_pos rfl]
    split <;> omega

/-- The evaluation of the full flag leaves the lanes and every other block. -/
theorem State.hallTested_only (s : State) :
    ∃ f lk, s.hallTested = (s.setLanes { s.lanes with full := f }).setLink lk := by
  unfold State.hallTested
  split
  · split
    · exact ⟨false, _, rfl⟩
    · exact ⟨s.lanes.full, s.link, rfl⟩
  · split
    · exact ⟨true, _, rfl⟩
    · exact ⟨s.lanes.full, s.link, rfl⟩

section
variable {s : State} {l : LaneNo} {beam : Beam} {broken : Bool}

theorem State.beamChange_none (h : s.settings.fittedLanes ≤ l.val ∨ (s.lane l).beams.level beam = broken) :
    s.beamChange l beam broken = s.setPin l beam broken := by
  unfold State.beamChange
  dsimp only
  split
  · rfl
  · next hfit =>
    have hfit' : ¬s.settings.fittedLanes ≤ l.val := fun hle => hfit (decide_eq_false (Nat.not_lt.2 hle))
    exact if_pos (h.resolve_left hfit')

/-- An edge at a fitted lane: the level is set, and out of SERVICE mode the phase count moves (R127). -/
theorem State.beamChange_edge (hfit : l.val < s.settings.fittedLanes) (h : (s.lane l).beams.level beam ≠ broken) :
    s.beamChange l beam broken =
      let t := (s.setPin l beam broken).setLane l { s.lane l with beams := (s.lane l).beams.put beam broken }
      if (s.lane l).service = true then t
      else t.countPhase l ((s.lane l).phase + phaseStep beam broken ((s.lane l).beams.level (otherBeam beam))) := by
  have hnot : ¬(s.setPin l beam broken).laneFitted l = false := by
    rw [Bool.not_eq_false]
    exact decide_eq_true hfit
  exact (if_neg hnot).trans (if_neg h)

/-! ### Passages (R128, R130) -/

variable {t : State} {y : Lane}

theorem State.JournalOnly.part {s t : State} (h : s.JournalOnly t) : t.part = s.part := by
  obtain ⟨j, l, rfl⟩ := h
  rfl

theorem State.JournalOnly.band {s t : State} (h : s.JournalOnly t) : t.band = s.band := by
  obtain ⟨j, l, rfl⟩ := h
  rfl

theorem State.setLane_settings (s : State) (l : LaneNo) (x : Lane) : (s.setLane l x).settings = s.settings := rfl

theorem State.setLane_band (s : State) (l : LaneNo) (x : Lane) : (s.setLane l x).band = s.band := rfl

theorem State.entryOf_of_band {s t : State} (h : t.band = s.band) (b : BandNo) : t.entryOf b = s.entryOf b := by
  simp only [State.entryOf, State.entry, h]

/-- An arm consumed at a lane out of SERVICE mode. -/
def State.passedAt (t : State) (l : LaneNo) (y : Lane) : State :=
  (t.setLane l { y with arm := none, link := none, turnstile := false }).journalClose y.link (.lane l) .passed

theorem State.passedAt_only (t : State) (l : LaneNo) (y : Lane) :
    (t.setLane l { y with arm := none, link := none, turnstile := false }).JournalOnly (t.passedAt l y) :=
  State.journalClose_only ..

theorem State.passedAt_lane (t : State) (l : LaneNo) (y : Lane) :
    (t.passedAt l y).lane l = { y with arm := none, link := none, turnstile := false } := by
  rw [State.lane, (t.passedAt_only l y).lanes]
  exact State.setLane_lane_self ..

theorem State.disarm_passed (hy : t.lane l = y) (hs : y.service = false) : t.disarm l .passed = t.passedAt l y := by
  have hoff : (y.service && y.turnstile) = false := by rw [hs, Bool.false_and]
  rw [State.disarm, hy, State.passedAt, hoff]

theorem State.passage_eq (t : State) (l : LaneNo) (inbound : Bool) : t.passage l inbound =
    ((t.setLanes { t.lanes with
      occupancy := if inbound = true then (if t.lanes.occupancy < 999 then t.lanes.occupancy + 1 else 999)
        else t.lanes.occupancy - 1 }).hallTested).meetArm l inbound := by
  rw [State.passage, State.setOccupancy, passedOccupancy_eq, State.evaluateFull_eq]

theorem LaneRole.runs_iff (r : LaneRole) (inbound : Bool) :
    r.runs inbound = true ↔ r = if inbound = true then .entry else .exit := by
  cases r <;> cases inbound <;> simp [LaneRole.runs]

theorem LaneRole.not_runs_iff (r : LaneRole) (inbound : Bool) :
    r.runs inbound = false ↔ r = if inbound = true then .exit else .entry := by
  cases r <;> cases inbound <;> simp [LaneRole.runs]

/-- A passage against the role of the lane (R128). -/
theorem State.meetArm_against {inbound : Bool} (h : t.laneRole l = if inbound = true then .exit else .entry) :
    t.meetArm l inbound = t.post .wrongWay (.lane l) :=
  if_neg (by rw [(LaneRole.not_runs_iff ..).2 h]; simp)

/-- A passage in the role's direction at a DISARMED lane (R128). -/
theorem State.meetArm_tailgate {inbound : Bool} (h : t.laneRole l = if inbound = true then .entry else .exit)
    (ha : (t.lane l).arm = none) : t.meetArm l inbound = t.post .tailgate (.lane l) := by
  refine (if_pos ((LaneRole.runs_iff ..).2 h)).trans ?_
  rw [ha]

/-- A passage that consumes the arm (R130). -/
theorem State.meetArm_consumes {inbound : Bool} {a : Arm} (h : t.laneRole l = if inbound = true then .entry else .exit)
    (ha : (t.lane l).arm = some a) : t.meetArm l inbound = t.consumeArm l a := by
  refine (if_pos ((LaneRole.runs_iff ..).2 h)).trans ?_
  rw [ha]

theorem State.consumeArm_silent {a : Arm} (hy : t.lane l = y) (hs : y.service = false)
    (h : t.laneRole l = .exit ∨ a.band = none) : t.consumeArm l a = t.passedAt l y := by
  have hrole : (t.passedAt l y).laneRole l = t.laneRole l := by
    rw [State.laneRole, (t.passedAt_only l y).settings]
    rfl
  rw [State.consumeArm, State.disarm_passed hy hs, hrole]
  rcases h with h | h
  · rw [h]
  · cases hr : t.laneRole l <;> rw [h]

/-- The band of an entry lane's arm is admitted by a commit (R131). -/
theorem State.consumeArm_sends {a : Arm} {b : BandNo} (hy : t.lane l = y) (hs : y.service = false)
    (hrole : t.laneRole l = .entry) (hb : a.band = some b) : t.consumeArm l a =
      ((t.passedAt l y).setLane l { y with
        arm := none, link := none, turnstile := false, commit := some ⟨b, t.clock.value, false⟩ }).bandOp b.val
          (.commit l t.clock.value) := by
  have hrole' : (t.passedAt l y).laneRole l = .entry := by
    rw [State.laneRole, (t.passedAt_only l y).settings]
    exact hrole
  have hnow : (t.passedAt l y).now = t.clock.value := by
    rw [State.now, (t.passedAt_only l y).clock]
    rfl
  rw [State.consumeArm, State.disarm_passed hy hs, hrole', hb]
  dsimp only
  rw [hnow, State.sendCommit, State.passedAt_lane]

end

/-- Settles O56. -/
theorem beamEdges : Obligations.BeamEdges := by
  intro s l beam broken x set level other n pinned
  have hrun {t : State} (h : s.beamChange l beam broken = t) : exec (.beamEdge l beam broken) s = .next t.arbitrate :=
    congrArg (fun t : State => Host.Outcome.next t.arbitrate) h
  have hset (b : Beams) : b.put beam broken = set b := by cases beam <;> rfl
  have hlevel : x.beams.level beam = level := by cases beam <;> rfl
  have hother : x.beams.level (otherBeam beam) = other := by cases beam <;> rfl
  have hpin : s.setPin l beam broken = pinned := by rw [State.setPin, hset]
  refine ⟨fun h => hrun ((State.beamChange_none (by rw [show (s.lane l).beams.level beam = level from hlevel]; exact h)).trans
    hpin), fun hfit hedge => ?_⟩
  have htake : s.beamChange l beam broken = if x.service = true then pinned.setLane l { x with beams := set x.beams }
      else (pinned.setLane l { x with beams := set x.beams }).countPhase l n := by
    rw [State.beamChange_edge hfit (fun h => hedge (hlevel.symm.trans h)), hpin, hset, phaseStep_eq,
      show (s.lane l).beams.level (otherBeam beam) = other from hother]
  have hphase (m : Int) : (pinned.setLane l { x with beams := set x.beams }).setLane l
      { (pinned.setLane l { x with beams := set x.beams }).lane l with phase := m } =
        pinned.setLane l { x with beams := set x.beams, phase := m } := by
    rw [State.setLane_lane_self, State.setLane_setLane]
  refine ⟨fun hs => hrun (htake.trans (if_pos hs)), fun hs h4 h4' => hrun ?_, fun inbound hs hn => ?_⟩
  · rw [htake, if_neg (by simp [hs]), State.countPhase, if_neg h4, if_neg h4']
    exact hphase n
  · intro at0 t passed
    have hpassage : s.beamChange l beam broken = t.meetArm l inbound := by
      have hcount : s.beamChange l beam broken = at0.passage l inbound := by
        rw [htake, if_neg (by simp [hs]), State.countPhase]
        cases inbound
        · have hn' : n = -4 := hn.trans (if_neg (by decide))
          rw [if_neg (by rw [hn']; decide), if_pos hn', hphase 0]
        · have hn' : n = 4 := hn.trans (if_pos rfl)
          rw [if_pos hn', hphase 0]
      have hocc : at0.lanes.occupancy = s.lanes.occupancy := rfl
      rw [hcount, State.passage_eq, hocc]
    obtain ⟨f, lk, ht⟩ := (at0.setLanes { at0.lanes with
      occupancy := if inbound = true then (if s.lanes.occupancy < 999 then s.lanes.occupancy + 1 else 999)
        else s.lanes.occupancy - 1 }).hallTested_only
    obtain ⟨y, hy⟩ : ∃ y : Lane, y = { x with beams := set x.beams, phase := 0 } := ⟨_, rfl⟩
    have hlane : t.lane l = y := by
      rw [show t = _ from ht, hy]
      exact State.setLane_lane_self pinned l _
    have hservice : y.service = false := by rw [hy]; exact hs
    have hrole : t.laneRole l = s.settings.roles[l.val] := by rw [show t = _ from ht]; rfl
    have hclock : t.clock = s.clock := by rw [show t = _ from ht]; rfl
    have hpassed : t.passedAt l y = passed := by rw [hy]; rfl
    have hsettings : passed.settings = s.settings := by
      rw [← hpassed, (t.passedAt_only l y).settings, State.setLane_settings, show t = _ from ht]
      rfl
    have hpart : passed.part = s.part := by
      rw [← hpassed, (t.passedAt_only l y).part, State.setLane_part, show t = _ from ht]
      rfl
    have hband : passed.band = s.band := by
      rw [← hpassed, (t.passedAt_only l y).band, State.setLane_band, show t = _ from ht]
      rfl
    have hsends {a : Arm} {b : BandNo} (h : s.settings.roles[l.val] = if inbound = true then .entry else .exit)
        (ha : x.arm = some a) (hb : a.band = some b) (hin : inbound = true) : s.beamChange l beam broken =
          (passed.setLane l { x with
            beams := set x.beams, phase := 0, arm := none, link := none, turnstile := false
            commit := some ⟨b, s.clock.value, false⟩ }).bandOp b.val (.commit l s.clock.value) := by
      rw [hpassage, State.meetArm_consumes (hrole.trans h) (by rw [hlane, hy]; exact ha),
        State.consumeArm_sends hlane hservice ((hrole.trans h).trans (if_pos hin)) hb, hpassed, hclock, hy]
    refine ⟨fun h => hrun (hpassage.trans (State.meetArm_against (hrole.trans h))), fun h => ⟨fun ha => hrun ?_,
      fun a ha hb => hrun ?_, fun a b e rec ha hb hin htable hserve he hc hrec => hrun ?_, fun a b ha hb hin => ?_⟩⟩
    · exact hpassage.trans (State.meetArm_tailgate (hrole.trans h) (by rw [hlane, hy]; exact ha))
    · rw [hpassage, State.meetArm_consumes (hrole.trans h) (by rw [hlane, hy]; exact ha),
        State.consumeArm_silent hlane hservice ?_, hpassed]
      rcases hb with hb | hb
      · exact .inr hb
      · refine .inl ((hrole.trans h).trans (if_neg ?_))
        rw [hb]
        decide
    · obtain ⟨sent, hsent⟩ : ∃ sent, sent = passed.setLane l { x with
        beams := set x.beams, phase := 0, arm := none, link := none, turnstile := false
        commit := some ⟨b, s.clock.value, false⟩ } := ⟨_, rfl⟩
      have hset' : sent.settings = s.settings := by rw [hsent, State.setLane_settings, hsettings]
      have hpart' : sent.part = s.part := by rw [hsent, State.setLane_part, hpart]
      have hband' : sent.band = s.band := by rw [hsent, State.setLane_band, hband]
      obtain ⟨hissued, -⟩ := State.bandOp_commit (s := sent) (b := b) (e := e) (l := l) (stamp := s.clock.value) (rec := rec)
        (by rw [State.tableLength, hset']; exact htable) (by rw [State.bandService, hpart', hband']; exact hserve)
        (by rw [State.entryOf_of_band hband']; exact he) (by rw [State.entry, hband']; exact hc)
      rw [hsends h ha hb hin, ← hsent, hissued hrec, hsent, State.setLane_lane_self, State.setLane_setLane]
    · intro sent
      exact ⟨_, hrun (hsends h ha hb hin), State.bandOp_sent rfl⟩

end Sys2Proof.Machine
end


section
/-!
PROOF. The target rules at the heads (R49 to R55, R95 to R98, R132, R133) and the grants of a band that holds nothing.
-/

namespace Sys2Proof.Machine

/-! ### A locker head (R49 to R55) -/

section
variable {s : State} {k : LockerNo} {b : BandNo} {rec : BandRecord} {arrival : Stamp}

/-- The party a band acts as at a locker (R49). -/
theorem State.lockerParty_iff (master : Bool) (p : Party) : s.lockerParty k b master = some p ↔
    (p = .owner ∧ (s.locker k).owner = some b) ∨
    (p = .companion ∧ (s.locker k).owner ≠ some b ∧ b ∈ (s.locker k).companions) ∨
    (p = .master ∧ (s.locker k).owner ≠ some b ∧ b ∉ (s.locker k).companions ∧ master = true) := by
  unfold State.lockerParty
  by_cases ho : (s.locker k).owner = some b
  · simp [ho, eq_comm]
  · by_cases hc : b ∈ (s.locker k).companions
    · simp [ho, hc, eq_comm]
    · cases master <;> simp [ho, hc, eq_comm]

theorem State.lockerParty_none (master : Bool) (h : ∀ p, s.lockerParty k b master ≠ some p) :
    s.lockerParty k b master = none := Option.eq_none_iff_forall_ne_some.2 h

theorem State.lockerRules_outOfOrder (h : (s.locker k).state = .forced ∨ (s.locker k).state = .jammed) :
    s.lockerRules k b rec arrival = (.refuse .outOfOrder, s) := by
  rcases h with h | h <;> simp only [State.lockerRules, h]

/-- While an action runs a locker cancels it for its action band, and is busy for any other (R51). -/
theorem State.lockerRules_running {w : LockerWork} (h : (s.locker k).state = .locking ∨ (s.locker k).state = .unlocking)
    (hw : (s.locker k).work = some w) : s.lockerRules k b rec arrival =
      if w.sub = .queued ∧ w.band = some b then (.cancelled, s.cancelLocker k w) else (.refuse .busy, s) := by
  rcases h with h | h <;> simp only [State.lockerRules, h, hw]

theorem State.lockerRules_vacant (h : (s.locker k).state = .vacant) :
    s.lockerRules k b rec arrival = s.vacantRules k b rec arrival := by
  simp only [State.lockerRules, h]

theorem State.lockerRules_locked_band (h : (s.locker k).state = .locked) {p : Party}
    (hp : s.lockerParty k b rec.master = some p) (hp' : p = .owner ∨ p = .companion) :
    s.lockerRules k b rec arrival = s.grantLocker k .unlocking .unlock b p arrival := by
  rcases hp' with rfl | rfl <;> simp only [State.lockerRules, h, hp]

theorem State.lockerRules_master (h : (s.locker k).state = .locked ∨ (s.locker k).state = .abandoned)
    (hp : s.lockerParty k b rec.master = some .master) :
    s.lockerRules k b rec arrival = s.grantLocker k .unlocking .masterOpen b .master arrival := by
  rcases h with h | h <;> simp only [State.lockerRules, h, hp]

theorem State.lockerRules_locked_none (h : (s.locker k).state = .locked) (hp : s.lockerParty k b rec.master = none) :
    s.lockerRules k b rec arrival = (.refuse .notYours, s) := by
  simp only [State.lockerRules, h, hp]

theorem State.lockerRules_opened_band (h : (s.locker k).state = .opened) {p : Party}
    (hp : s.lockerParty k b rec.master = some p) (hp' : p = .owner ∨ p = .companion) : s.lockerRules k b rec arrival =
      if s.doorOpen (lockerString k) (lockerPosition k) = some true then (.refuse .doorOpen, s)
      else s.grantLocker k .locking .lock b p arrival := by
  rcases hp' with rfl | rfl <;> simp only [State.lockerRules, h, hp]

theorem State.lockerRules_opened_other (h : (s.locker k).state = .opened)
    (hp : s.lockerParty k b rec.master = some .master ∨ s.lockerParty k b rec.master = none) :
    s.lockerRules k b rec arrival = (.refuse .notYours, s) := by
  rcases hp with hp | hp <;> simp only [State.lockerRules, h, hp]

theorem State.lockerRules_abandoned_other (h : (s.locker k).state = .abandoned)
    (hp : s.lockerParty k b rec.master ≠ some .master) : s.lockerRules k b rec arrival = (.refuse .notYours, s) := by
  simp only [State.lockerRules, h]

/-- The cancel of a queued action by its band (R51). -/
theorem State.cancelLocker_eq (w : LockerWork) : s.cancelLocker k w =
    ((s.setString (lockerString k) { s.string (lockerString k) with
      queue := s.pulsesWithout (lockerString k) (lockerPosition k) }).setLocker k { s.locker k with
        state := w.prior
        owner := if w.action = .claim then none else (s.locker k).owner
        companions := if w.action = .claim then [] else (s.locker k).companions
        work := none
        retryUsed := false
        doorOpened := false
        window := none
        link := none
        dirty := true }).journalClose (s.locker k).link (.locker k) .cancelled := by
  rw [State.cancelLocker, State.removePulse_eq, State.restLocker_claim]
  rfl

end

/-! ### A cabin head (R95 to R98) -/

section
variable {s : State} {c : CabinNo} {b : BandNo} {rec : BandRecord} {arrival : Stamp}

/-- While an action runs a cabin cancels it for its action band, and is busy for any other (R96). -/
theorem State.cabinRules_running {w : CabinWork} (h : (s.cabin c).state = .closing ∨ (s.cabin c).state = .opening)
    (hw : (s.cabin c).work = some w) : s.cabinRules c b rec arrival =
      if w.sub = .queued ∧ w.band = some b then (.cancelled, s.cancelCabin c w) else (.refuse .busy, s) := by
  rcases h with h | h <;> simp only [State.cabinRules, h, hw]

theorem State.cabinRules_suspended (h : (s.cabin c).state = .suspended) :
    s.cabinRules c b rec arrival = (.refuse .cabinSuspended, s) := by
  simp only [State.cabinRules, h]

theorem State.cabinRules_free (h : (s.cabin c).state = .free) :
    s.cabinRules c b rec arrival = s.freeCabinRules c b rec arrival := by
  simp only [State.cabinRules, h]

theorem State.cabinRules_held (h : (s.cabin c).state = .held ∨ (s.cabin c).state = .overdue) :
    s.cabinRules c b rec arrival = s.heldCabinRules c b rec arrival := by
  rcases h with h | h <;> simp only [State.cabinRules, h]

/-- The tests at a FREE cabin with the clock set, of a band that may claim a cabin (R97). -/
theorem State.freeCabinRules_admitted (hset : s.clock.isSet = true)
    (hin : s.settings.fittedLanes = 0 ∨ rec.state = .inside) : s.freeCabinRules c b rec arrival =
      if (s.heldCabin b).isSome = true then (.refuse .holdsCabin, s)
      else if s.cabinDoorOpen c = true then (.refuse .doorOpen, s)
      else if rec.master = true then (.refuse .notYours, s)
      else (.grant, s.claimCabin c b arrival) := by
  have hadmitted : ¬(0 < s.settings.fittedLanes ∧ rec.state ≠ .inside) := by
    rintro ⟨hfit, hnot⟩
    exact hin.elim (fun h => by omega) hnot
  exact (if_neg (by simp [hset])).trans (if_neg hadmitted)

theorem State.heldCabin_isSome_false (h : ∀ d, (s.cabin d).holder ≠ some b) : ¬(s.heldCabin b).isSome = true := by
  rw [State.heldCabin_isSome]
  rintro ⟨d, hd⟩
  exact h d hd

/-- A cancelled claim leaves the cabin FREE (R96). -/
theorem State.cancelCabin_claim {w : CabinWork} (ha : w.action = .claim) : s.cancelCabin c w =
    ((s.setString 8 { s.string 8 with queue := s.pulsesWithout 8 (cabinPosition c) }).setCabin c
      ⟨.free, none, none, false, none, none, false, false, none, none⟩).journalClose (s.cabin c).link (.cabin c)
        .cancelled := by
  simp only [State.cancelCabin, ha, State.removePulse_eq]
  rfl

/-- A cancelled OPEN leaves the prior state, with the due tests made again (R96, R103). -/
theorem State.cancelCabin_open {w : CabinWork} (ha : w.action = .opn) : s.cancelCabin c w =
    ((s.setString 8 { s.string 8 with queue := s.pulsesWithout 8 (cabinPosition c) }).setCabin c { s.cabin c with
      state := w.prior, work := none, retryUsed := false, window := none }).dueTests c := by
  simp only [State.cancelCabin, ha, State.removePulse_eq]
  rfl

/-- The opening of a cabin by its holder or a master (R98). -/
theorem State.openHeldCabin_eq (p : Party) : s.openHeldCabin c b p arrival = (s.setCabin c { s.cabin c with
    state := .opening
    work := some ⟨.opn, some b, p, arrival, (s.cabin c).state, .queued⟩
    retryUsed := false }).setString 8 { s.string 8 with
      queue := s.pulsesWith 8 (cabinPosition c) .withdraw } := by
  rw [State.openHeldCabin, State.placePulse_eq]
  rfl

end

/-! ### A lane head (R132, R133) -/

theorem State.armLane_eq (s : State) (l : LaneNo) (b : BandNo) (master inbound : Bool) (arrival : Stamp) :
    let t := s.stampTaken
    let j := (t.setLane l { t.lane l with
      arm := some ⟨if master = true then none else some b, s.expiryStamp, inbound, s.settings.armWindow⟩
      turnstile := true }).journalOpen (.lane l) (some b) (if master = true then .master else .owner)
        (if inbound = true then .admission else .exit) arrival
    s.armLane l b master inbound arrival = j.2.setLane l { j.2.lane l with link := j.1 } := rfl

theorem State.stampTaken_setLane (s : State) (l : LaneNo) (x : Lane) :
    (s.setLane l x).stampTaken = s.stampTaken.setLane l x := by
  by_cases h : s.clock.value.toNat + s.settings.armWindow ≤ 4294967295
  · have hs : s.stampTaken = s := if_pos h
    rw [hs]
    exact if_pos h
  · have hs : s.stampTaken = s.setFree (s.free + 1) := if_neg h
    rw [hs]
    exact if_neg h

theorem State.armedElsewhere_isSome {s : State} {l : LaneNo} {b : BandNo} :
    (s.armedLane b (fun m => m != l)).isSome = true ↔ ∃ m a, m ≠ l ∧ (s.lane m).arm = some a ∧ a.band = some b := by
  simp [State.armedLane, List.find?_isSome, Option.bind_eq_some_iff]

section
variable {s : State} {l : LaneNo} {b : BandNo} {rec : BandRecord} {arrival : Stamp}

theorem State.armedElsewhere_false (h : ∀ m a, m ≠ l → (s.lane m).arm = some a → a.band ≠ some b) :
    ¬(s.armedLane b (fun m => m != l)).isSome = true := by
  rw [State.armedElsewhere_isSome]
  rintro ⟨m, a, hm, ha, hb⟩
  exact h m a hm ha hb

/-- The tests at an entry lane that is DISARMED with no commit, of a band armed nowhere else (R132). -/
theorem State.entryRules_disarmed (hs : (s.lane l).service = false) (ha : (s.lane l).arm = none)
    (hc : (s.lane l).commit = none) (helse : ∀ m a, m ≠ l → (s.lane m).arm = some a → a.band ≠ some b) :
    s.entryRules l b rec arrival =
      if rec.master = true then (.grant, s.armLane l b true true arrival)
      else if rec.state = .inside then (.refuse .alreadyInside, s)
      else if s.clock.isSet = false then (.refuse .clockUnset, s)
      else if s.lanes.full = true then (.refuse .hallFull, s)
      else (.grant, s.armLane l b false true arrival) :=
  (if_neg (by simp [hs])).trans ((if_neg (by simp [ha, hc])).trans (if_neg (State.armedElsewhere_false helse)))

/-- The tests at an exit lane that is DISARMED (R133). -/
theorem State.exitRules_disarmed (hs : (s.lane l).service = false) (ha : (s.lane l).arm = none) :
    s.exitRules l b rec arrival =
      if rec.master = true then (.grant, (s.pulseEject l).armLane l b true false arrival, rec)
      else if rec.state ≠ .inside then (.refuse .notInside, s, rec)
      else if (s.heldCabin b).isSome = true then (.refuse .cabinHeld, s, rec)
      else if s.ownsClosedLocker b = true then (.refuse .lockerLocked, s, rec)
      else if s.clock.isSet = false then (.refuse .clockUnset, s, rec)
      else if rec.credit < (s.stayOf rec).owed then (.refuse .owed, s, rec)
      else (.grant, ((s.lockerExit b).pulseSwallow l).armLane l b false false arrival, exitRecord rec (s.stayOf rec)) :=
  (if_neg (by simp [hs])).trans (if_neg (by simp [ha]))

theorem State.ownedLocker_owner {k : LockerNo} (h : s.ownedLocker b = some k) : (s.locker k).owner = some b := by
  simpa using List.find?_some h

theorem State.ownsClosedLocker_false (h : ∀ k, (s.locker k).owner = some b → (s.locker k).state = .opened) :
    ¬s.ownsClosedLocker b = true := by
  rcases hk : s.ownedLocker b with _ | k
  · simp only [State.ownsClosedLocker, hk, Bool.false_eq_true, not_false_eq_true]
  · simp only [State.ownsClosedLocker, hk, h k (State.ownedLocker_owner hk), bne_self_eq_false, Bool.false_eq_true,
      not_false_eq_true]

theorem State.ownsClosedLocker_true {k : LockerNo} (h : (s.locker k).owner = some b)
    (hk : ∀ j, j ≠ k → (s.locker j).owner ≠ some b) (hst : (s.locker k).state ≠ .opened) :
    s.ownsClosedLocker b = true := by
  simp only [State.ownsClosedLocker, State.ownedLocker_only h hk, bne_iff_ne]
  exact hst

theorem State.stayOf_entered {entry : Stamp} (h : rec.entry = some entry) : s.stayOf rec =
    stayFigures s.clock.value entry rec.paid rec.settled rec.credit s.settings.tariff[rec.cls.val] := by
  rw [State.stayOf, h]
  rfl

theorem State.targetRules_entry (h : s.settings.roles[l.val] = .entry) {v : Verdict} {t : State}
    (hr : s.entryRules l b rec arrival = (v, t)) : s.targetRules (.lane l) b rec arrival = (v, t, rec) := by
  have hrole : s.laneRole l = .entry := h
  simp only [State.targetRules, hrole, hr]

theorem State.targetRules_exit (h : s.settings.roles[l.val] = .exit) :
    s.targetRules (.lane l) b rec arrival = s.exitRules l b rec arrival := by
  have hrole : s.laneRole l = .exit := h
  simp only [State.targetRules, hrole]

end

/-- Settles O60. -/
theorem targetRules : Obligations.TargetRules := by
  unfold Obligations.TargetRules
  refine ⟨fun s k b rec arrival => ?_, fun s c b rec arrival => ?_, fun s l b rec arrival => ?_⟩
  · intro l run refused isOpen begun removed acts
    have hrun {v : Verdict} {t : State} (h : s.lockerRules k b rec arrival = (v, t)) : run = (v, t, rec) :=
      congrArg (fun r : Verdict × State => (r.1, r.2, rec)) h
    have hbegun (t : State) (hst : (t.locker k).state = l.state) (hs : t.string (lockerString k) = s.string (lockerString k))
        (hpart : t.part = s.part) (st : LockerState) (a : LockerAction) (p : Party)
        (h : s.lockerRules k b rec arrival = t.grantLocker k st a b p arrival) : run = begun t st a p st.direction := by
      have hq : t.pulsesWith (lockerString k) (lockerPosition k) st.direction =
          s.pulsesWith (lockerString k) (lockerPosition k) st.direction := by
        rw [State.pulsesWith, State.pulsesWith, hs, hpart]
      refine (hrun h).trans ?_
      rw [State.beginLocker_eq, hst, hs, hq]
    have hparty (p : Party) : s.lockerParty k b rec.master = some p ↔ acts p := State.lockerParty_iff ..
    have hopen : isOpen = true ↔ s.doorOpen (lockerString k) (lockerPosition k) = some true := beq_iff_eq
    have hself (st : LockerState) (a : LockerAction) (p : Party)
        (h : s.lockerRules k b rec arrival = s.grantLocker k st a b p arrival) : run = begun s st a p st.direction :=
      hbegun s rfl rfl rfl st a p h
    refine ⟨fun h => hrun (State.lockerRules_outOfOrder h), fun w hst hw => ⟨fun h => hrun ?_, fun hsub hb => hrun ?_⟩,
      fun hst => ?_, fun hst => ⟨fun p hp hp' => ?_, fun hp => ?_, fun hp => hrun ?_⟩,
      fun hst => ⟨fun p hp hp' => ?_, fun hp => hrun ?_⟩, fun hst => ⟨fun hp => ?_, fun hp => hrun ?_⟩⟩
    · rw [State.lockerRules_running hst hw, if_neg fun ⟨hsub, hb⟩ => h.elim (· hsub) (· hb)]
    · rw [State.lockerRules_running hst hw, if_pos ⟨hsub, hb⟩, State.cancelLocker_eq]
    · have hrules := State.lockerRules_vacant (s := s) (b := b) (rec := rec) (arrival := arrival) hst
      rw [State.vacantRules] at hrules
      split at hrules
      · next h => exact (hrun hrules).trans (if_pos h).symm
      · next h =>
        rw [if_neg (show ¬s.lockers.closed[k.val / 32] = true from h)]
        split at hrules
        · next h => exact (hrun hrules).trans (if_pos h).symm
        · next h =>
          rw [if_neg h]
          split at hrules
          · next h => exact (hrun hrules).trans (if_pos (State.ownedLocker_isSome.1 h)).symm
          · next h =>
            rw [if_neg (mt State.ownedLocker_isSome.2 h)]
            split at hrules
            · next h => exact (hrun hrules).trans (if_pos h).symm
            · next h =>
              rw [if_neg h]
              split at hrules
              · next h => exact (hrun hrules).trans (if_pos (hopen.2 h)).symm
              · next h =>
                rw [if_neg (mt hopen.1 h)]
                exact hbegun (s.setLocker k { l with owner := some b, companions := [] })
                  (by rw [State.setLocker_locker, if_pos rfl]) rfl rfl .locking .claim .owner hrules
    · exact hself .unlocking .unlock p (State.lockerRules_locked_band hst ((hparty p).2 hp) hp')
    · exact hself .unlocking .masterOpen .master (State.lockerRules_master (.inl hst) ((hparty _).2 hp))
    · exact State.lockerRules_locked_none hst (State.lockerParty_none _ fun p => mt (hparty p).1 (hp p))
    · have hrules := State.lockerRules_opened_band (arrival := arrival) hst ((hparty p).2 hp) hp'
      split at hrules
      · next h => exact (hrun hrules).trans (if_pos (hopen.2 h)).symm
      · next h => exact (hself .locking .lock p hrules).trans (if_neg (mt hopen.1 h)).symm
    · refine State.lockerRules_opened_other hst (hp.imp (hparty _).2 fun hp => ?_)
      exact State.lockerParty_none _ fun p => mt (hparty p).1 (hp p)
    · exact hself .unlocking .masterOpen .master (State.lockerRules_master (.inr hst) ((hparty _).2 hp))
    · exact State.lockerRules_abandoned_other hst (mt (hparty _).1 hp)
  · intro x run refused removed opens
    have hrun {v : Verdict} {t : State} (h : s.cabinRules c b rec arrival = (v, t)) : run = (v, t, rec) :=
      congrArg (fun r : Verdict × State => (r.1, r.2, rec)) h
    refine ⟨fun h => hrun (State.cabinRules_suspended h), fun w hst hw => ?_, fun hst => ?_, fun hst => ?_⟩
    · have hrules := State.cabinRules_running (b := b) (rec := rec) (arrival := arrival) hst hw
      refine ⟨fun h => hrun (hrules.trans (if_neg fun ⟨hsub, hb⟩ => h.elim (· hsub) (· hb))),
        fun hsub hb ha => hrun (hrules.trans ((if_pos ⟨hsub, hb⟩).trans ?_)),
        fun hsub hb ha h1 h2 => hrun (hrules.trans ((if_pos ⟨hsub, hb⟩).trans ?_)),
        fun hsub hb ha => hrun (hrules.trans ((if_pos ⟨hsub, hb⟩).trans ?_))⟩
      · rw [State.cancelCabin_claim ha]
      · rw [State.cancelCabin_open ha]
        refine congrArg (Prod.mk Verdict.cancelled) (State.dueTests_quiet ?_)
        rw [State.cabinQuiet, State.setCabin_cabin, if_pos rfl]
        exact ⟨fun _ => h1, fun _ => h2⟩
      · rw [State.cancelCabin_open ha]
    · have hrules := State.cabinRules_free (b := b) (rec := rec) (arrival := arrival) hst
      refine ⟨fun hset => hrun (hrules.trans (if_pos hset)), fun hset => ⟨fun hfit hin => hrun (hrules.trans ?_),
        fun hin => ?_⟩⟩
      · exact (if_neg (by simp [hset])).trans (if_pos ⟨hfit, hin⟩)
      · have hadmitted := hrules.trans (State.freeCabinRules_admitted hset hin)
        refine ⟨fun hheld => hrun (hadmitted.trans (if_pos (State.heldCabin_isSome.2 hheld))), fun hheld => ?_⟩
        have hdoor := hadmitted.trans (if_neg (State.heldCabin_isSome_false hheld))
        refine ⟨fun hd => hrun (hdoor.trans (if_pos (State.cabinDoorOpen_iff.2 hd))),
          fun hd hm => hrun (hdoor.trans ((if_neg ?_).trans (if_pos hm)))⟩
        rw [State.cabinDoorOpen_iff, hd]
        simp
    · have hrules := State.cabinRules_held (b := b) (rec := rec) (arrival := arrival) hst
      rw [State.heldCabinRules] at hrules
      split at hrules
      · next h =>
        rw [State.openHeldCabin_eq] at hrules
        exact (hrun hrules).trans (if_pos h).symm
      · next h =>
        rw [if_neg (show ¬x.holder = some b from h)]
        split at hrules
        · next h =>
          rw [State.openHeldCabin_eq] at hrules
          exact (hrun hrules).trans (if_pos h).symm
        · next h => exact (hrun hrules).trans (if_neg h).symm
  · intro x run refused masterArm
    refine ⟨fun hs => ?_, fun hs hrole => ⟨fun h => ?_, fun ha hc => ⟨fun h => ?_, fun helse => ?_⟩⟩,
      fun hs hrole => ⟨fun h => ?_, fun ha hm => ?_, fun ha hm => ?_⟩⟩
    · cases hrole : s.settings.roles[l.val] with
      | entry => exact State.targetRules_entry hrole (if_pos hs)
      | exit => exact (State.targetRules_exit hrole).trans (if_pos hs)
    · exact State.targetRules_entry hrole ((if_neg (Bool.eq_false_iff.1 hs)).trans (if_pos h))
    · refine State.targetRules_entry hrole ((if_neg (Bool.eq_false_iff.1 hs)).trans ((if_neg ?_).trans (if_pos
        (State.armedElsewhere_isSome.2 h))))
      simp [show (s.lane l).arm = none from ha, show (s.lane l).commit = none from hc]
    · have hrules := State.entryRules_disarmed (rec := rec) (arrival := arrival) hs ha hc helse
      refine ⟨fun hm => ?_, fun hm hin => ?_, fun hm hin => ?_⟩
      · exact State.targetRules_entry hrole (hrules.trans (if_pos hm))
      · exact State.targetRules_entry hrole (hrules.trans ((if_neg (Bool.eq_false_iff.1 hm)).trans (if_pos hin)))
      · have htests := hrules.trans ((if_neg (Bool.eq_false_iff.1 hm)).trans (if_neg hin))
        refine ⟨fun hset => State.targetRules_entry hrole (htests.trans (if_pos hset)),
          fun hset hfull => State.targetRules_entry hrole (htests.trans ((if_neg ?_).trans (if_pos hfull)))⟩
        simp [hset]
    · exact (State.targetRules_exit hrole).trans ((if_neg (Bool.eq_false_iff.1 hs)).trans (if_pos h))
    · refine (State.targetRules_exit hrole).trans ((State.exitRules_disarmed hs ha).trans ((if_pos hm).trans ?_))
      rw [State.armLane_eq, State.pulseEject, State.stampTaken_setLane]
      rfl
    · have hrules := (State.targetRules_exit (b := b) (arrival := arrival) hrole).trans
        ((State.exitRules_disarmed hs ha).trans (if_neg (Bool.eq_false_iff.1 hm)))
      refine ⟨fun hin => hrules.trans (if_pos hin), fun hin => ?_⟩
      have hinside := hrules.trans (if_neg (not_not_intro hin))
      refine ⟨fun hc => hinside.trans (if_pos (State.heldCabin_isSome.2 hc)), fun hc => ?_⟩
      have hfree := hinside.trans (if_neg (State.heldCabin_isSome_false hc))
      refine ⟨fun k hk hk' hst => hfree.trans (if_pos (State.ownsClosedLocker_true hk hk' hst)), fun hk => ?_⟩
      have hopened := hfree.trans (if_neg (State.ownsClosedLocker_false hk))
      refine ⟨fun hset => hopened.trans (if_pos hset), fun entry hset he howed => ?_⟩
      refine hopened.trans ((if_neg (by simp [hset])).trans (if_pos ?_))
      rw [State.stayOf_entered he]
      exact howed

end Sys2Proof.Machine
end


section
/-!
PROOF. The grants of a band that holds nothing, from the answer of the poll to the next state (R36, R38, R52, R97, R132,
R133).
-/

namespace Sys2Proof.Machine

/-! ### Pieces that the target blocks and the journal leave alone -/

/-- A change of pieces other than the lockers. -/
structure LockersAside (g : State → State) : Prop where
  lockers : ∀ s, (g s).lockers = s.lockers
  setLockers : ∀ s x, (g s).setLockers x = g (s.setLockers x)

/-- A change of pieces that the target blocks and the journal neither read nor write. -/
structure Aside (g : State → State) : Prop extends LockersAside g where
  part : ∀ s, (g s).part = s.part
  link : ∀ s, (g s).link = s.link
  settings : ∀ s, (g s).settings = s.settings
  strings : ∀ s, (g s).strings = s.strings
  cabins : ∀ s, (g s).cabins = s.cabins
  clock : ∀ s, (g s).clock = s.clock
  lanes : ∀ s, (g s).lanes = s.lanes
  journal : ∀ s, (g s).journal = s.journal
  free : ∀ s, (g s).free = s.free
  setLink : ∀ s x, (g s).setLink x = g (s.setLink x)
  setStrings : ∀ s x, (g s).setStrings x = g (s.setStrings x)
  setCabins : ∀ s x, (g s).setCabins x = g (s.setCabins x)
  setLanes : ∀ s x, (g s).setLanes x = g (s.setLanes x)
  setJournal : ∀ s x, (g s).setJournal x = g (s.setJournal x)
  setFree : ∀ s x, (g s).setFree x = g (s.setFree x)

section
variable {g : State → State} (hg : LockersAside g) (s : State)
include hg

theorem LockersAside.locker (k : LockerNo) : (g s).locker k = s.locker k :=
  congrArg (fun x : LockerEngine => x.table[k.val]) (hg.lockers s)

theorem LockersAside.setLocker (k : LockerNo) (x : Locker) : (g s).setLocker k x = g (s.setLocker k x) := by
  rw [State.setLocker, hg.setLockers, hg.lockers]
  rfl

end

section
variable {g : State → State} (hg : Aside g) (s : State)
include hg

theorem Aside.cabin (c : CabinNo) : (g s).cabin c = s.cabin c :=
  congrArg (fun x : CabinUnit => x.table[c.val]) (hg.cabins s)

theorem Aside.lane (l : LaneNo) : (g s).lane l = s.lane l :=
  congrArg (fun x : LaneUnit => x.table[l.val]) (hg.lanes s)

theorem Aside.string (i : StringNo) : (g s).string i = s.string i :=
  congrArg (fun x : Vector StringRecord 9 => x[i.val]) (hg.strings s)

theorem Aside.now : (g s).now = s.now := congrArg ClockUnit.value (hg.clock s)

theorem Aside.setCabin (c : CabinNo) (x : Cabin) : (g s).setCabin c x = g (s.setCabin c x) := by
  rw [State.setCabin, hg.setCabins, hg.cabins]
  rfl

theorem Aside.setLane (l : LaneNo) (x : Lane) : (g s).setLane l x = g (s.setLane l x) := by
  rw [State.setLane, hg.setLanes, hg.lanes]
  rfl

theorem Aside.setString (i : StringNo) (x : StringRecord) : (g s).setString i x = g (s.setString i x) := by
  rw [State.setString, hg.setStrings, hg.strings]
  rfl

theorem Aside.post (n : NoticeKind) (sub : NoticeSubject) : (g s).post n sub = g (s.post n sub) := by
  simp only [State.post, hg.link, hg.now, hg.setLink]

theorem Aside.placePulse (i : StringNo) (q : Position) (d : Direction) :
    (g s).placePulse i q d = g (s.placePulse i q d) := by
  simp only [State.placePulse, hg.part, hg.string, hg.setString, apply_ite g]

theorem Aside.removePulse (i : StringNo) (q : Position) : (g s).removePulse i q = g (s.removePulse i q) := by
  simp only [State.removePulse, hg.part, hg.string, hg.setString, apply_ite g]

theorem Aside.postWatch (sub : JournalSubject) : (g s).postWatch sub = g (s.postWatch sub) := by
  cases sub with
  | locker k =>
    simp only [State.postWatch, State.watched, hg.locker, hg.post]
    exact (apply_ite g _ _ _).symm
  | cabin c => rfl
  | lane l => rfl

theorem Aside.overtake : (g s).overtake = g s.overtake := by
  rcases hx : s.journal.ring[s.journal.pos.val] with _ | x
  · simp only [State.overtake, hg.journal, hx]
  · rcases hf : x.finish with _ | f
    · simp only [State.overtake, hg.journal, hx, hf, hg.now, hg.setJournal, hg.postWatch]
    · simp only [State.overtake, hg.journal, hx, hf]

theorem Aside.advanceJournal : (g s).advanceJournal = g s.advanceJournal := by
  simp only [State.advanceJournal, hg.journal, hg.setJournal, hg.post, apply_ite g]

theorem Aside.journalOpen (sub : JournalSubject) (band : Option BandNo) (party : Party) (action : JournalAction)
    (start : Stamp) : (g s).journalOpen sub band party action start =
      ((s.journalOpen sub band party action start).1, g (s.journalOpen sub band party action start).2) := by
  simp only [State.journalOpen, hg.part]
  split
  · rfl
  · simp only [hg.overtake, State.writeSlot, hg.journal, hg.setJournal, hg.advanceJournal]

theorem Aside.journalClosed (sub : JournalSubject) (band : Option BandNo) (party : Party) (action : JournalAction)
    (start : Stamp) (o : EntryOutcome) : (g s).journalClosed sub band party action start o =
      g (s.journalClosed sub band party action start o) := by
  simp only [State.journalClosed, State.writeSlot, hg.part, hg.overtake, hg.journal, hg.now, hg.setJournal, hg.postWatch,
    hg.advanceJournal, apply_ite g]

theorem Aside.journalClose (link : Option JournalLink) (sub : JournalSubject) (o : EntryOutcome) :
    (g s).journalClose link sub o = g (s.journalClose link sub o) := by
  rcases link with _ | k
  · rfl
  · rcases hx : s.journal.ring[k.slot.val] with _ | x
    · simp only [State.journalClose, hg.journal, hx]
    · simp only [State.journalClose, hg.journal, hx, hg.part, hg.now, hg.setJournal, hg.postWatch, apply_ite g]

theorem Aside.stampTaken : (g s).stampTaken = g s.stampTaken := by
  simp only [State.stampTaken, hg.clock, hg.settings, hg.free, hg.setFree, apply_ite g]

end

/-! ### The reader lines and the presentations apart from the rest -/

/-- A state with other reader lines and presentation records. -/
def State.withHeads (s : State) (r : Reader) (p : Vector (Option Presentation) 284) : State := (s.setReader r).setPres p

theorem aside_withHeads (r : Reader) (p : Vector (Option Presentation) 284) :
    Aside fun s => s.withHeads r p := by
  constructor
  case toLockersAside => constructor <;> intros <;> rfl
  all_goals intros; rfl

/-! ### A grant, from the answer to the next state -/

section
variable {s : State} {line : Line} {h : HeadNo} {b : BandNo} {rec : BandRecord} {e : EntryNo}

/-- The state in which a presented band is decided: the lookup is served with the head's record pending. -/
def State.presented (s : State) (line : Line) (h : HeadNo) (clears : Bool) (b : BandNo) (serial : Serial) (e : EntryNo) :
    State := (s.opened line h clears ⟨b, serial, s.clock.value, false, false⟩).usedLast e

theorem State.setHead_reader_setHead (v : State) (h : HeadNo) (x y : HeadRecord) :
    ((v.setHead h x).setHead h y).reader = (v.setHead h y).reader := by rw [State.setHead_setHead]

/-- The decision's own changes are those of the reader lines and the presentation record (R38). -/
theorem State.presented_withHeads (hp : s.slot h = none) (clears : Bool) (serial : Serial) :
    let u := s.grantedAt line h b serial e
    (s.presented line h clears b serial e).withHeads u.reader u.pres = u := by
  intro u
  have hmarked : s.marked h = s := State.marked_none (by rw [hp]; rfl)
  rw [State.presented, State.opened, hmarked]
  cases line
  · rfl
  · rfl

/-- A grant at a head on a line that no other poll asks (R38, R156). -/
theorem State.conclude_grant {t : State} {clears : Bool} {serial : Serial} {l : Line}
    (hon : (s.head h).state = .on l)
    (hother : ∀ q, (s.engine (otherLine line)).poll = some q → q.head ≠ h)
    (hreader : t.reader = (s.presented line h clears b serial e).reader)
    (hpres : t.pres = (s.presented line h clears b serial e).pres) (party : Party) :
    let u := s.grantedAt line h b serial e
    t.conclude h ⟨b, serial, s.clock.value, false, false⟩ .grant party = t.withHeads u.reader u.pres := by
  intro u
  set v := s.setEngine line { s.engine line with poll := none }
  set z : HeadRecord := { s.head h with
    miss := 0, tried := false, verdict := if clears = true then none else (s.head h).verdict }
  have hv : t.reader = (v.setHead h z).reader := hreader.trans (by cases line <;> rfl)
  have hhead : t.head h = z := by
    have : (v.setHead h z).head h = z := (State.setHead_head ..).trans (if_pos rfl)
    rw [← this, State.head, hv]
    rfl
  have hfree (m : Line) (q : Poll) (hq : (t.engine m).poll = some q) : q.head ≠ h := by
    have hm : t.engine m = v.engine m := by
      have : t.engine m = (v.setHead h z).engine m := by cases m <;> simp only [State.engine, hv]
      rw [this, State.setHead_engine]
    rw [hm] at hq
    rcases Line.eq_or_other line m with rfl | rfl
    · rw [State.setEngine_engine] at hq
      cases hq
    · rw [State.setEngine_other] at hq
      exact hother q hq
  have hplaced : t.placeVerdict h .grant = t.setHead h { z with verdict := some .grant } := by
    rw [State.placeVerdict_free (s := t) (l := l) (by rw [hhead]; exact hon) hfree, hhead]
  have hread : t.setHead h { z with verdict := some .grant } = t.setReader u.reader := by
    have : (t.setHead h { z with verdict := some .grant }).reader = u.reader := by
      have hset : (t.setHead h { z with verdict := some .grant }).reader =
          ((v.setHead h z).setHead h { z with verdict := some .grant }).reader := by
        simp only [State.setHead, State.setReader_reader, hv]
      rw [hset, State.setHead_reader_setHead]
      rfl
    rw [← this]
    rfl
  have hset : (t.setReader u.reader).setSlot h (some ⟨b, serial, s.clock.value, true, false⟩) =
      t.withHeads u.reader u.pres := by
    have hpresent : t.pres = s.pres.set h.val (some ⟨b, serial, s.clock.value, false, false⟩) :=
      hpres.trans (by cases line <;> rfl)
    have hgranted : u.pres = s.pres.set h.val (some ⟨b, serial, s.clock.value, true, false⟩) := by
      cases line <;> rfl
    rw [State.setSlot, State.setReader_pres, hpresent, Vector.set_set, ← hgranted]
    rfl
  rw [State.conclude, hplaced, hread]
  exact hset

/-- A band that passes the common checks is decided by the target rules (R36). -/
theorem State.Presents.decided (hp : s.Presents line h b rec e) {o t : State} {rec' : BandRecord}
    (hrules : o.targetRules (headTarget h) b rec s.clock.value = (.grant, t, rec')) :
    ∃ party, o.decidePresentation h ⟨b, rec.serial, s.clock.value, false, false⟩ rec =
      (t.conclude h ⟨b, rec.serial, s.clock.value, false, false⟩ .grant party, rec') := by
  have hpass : rec.master = true ∨ 280 ≤ h.val ∨ (h.val < 256 ∧ rec.mask.getLsbD (h.val / 32) = true) ∨
      (256 ≤ h.val ∧ h.val < 280 ∧ rec.cabinRight = true) := by
    rcases hp.zone with hz | hz | hz
    · exact .inr (.inr (.inl hz))
    · exact .inr (.inr (.inr hz))
    · exact .inr (.inl hz)
  have hchecks : commonChecks (headTarget h) ⟨b, rec.serial, s.clock.value, false, false⟩ rec = none :=
    (commonChecks_zone _ hp.state rfl).trans (if_neg (zoneRefused_passes hpass))
  refine ⟨o.refusalParty (headTarget h) b rec, ?_⟩
  rw [State.decidePresentation, if_neg (by simp), hchecks]
  dsimp only
  rw [hrules]

/-- A grant of the target rules is the next state, with the verdict placed (R5, R38). -/
theorem State.Presents.exec_grant (hp : s.Presents line h b rec e) {carried : Option Verdict} {clears : Bool} {w : Nat}
    (hpoll : (s.engine line).poll = some ⟨h, false, carried, clears, false, w⟩) {t : State} {rec' : BandRecord}
    (hrules : (s.presented line h clears b rec.serial e).targetRules (headTarget h) b rec s.clock.value =
      (.grant, t, rec'))
    (hreader : t.reader = (s.presented line h clears b rec.serial e).reader)
    (hpres : t.pres = (s.presented line h clears b rec.serial e).pres)
    (hband : t.band = (s.presented line h clears b rec.serial e).band) :
    let u := s.grantedAt line h b rec.serial e
    Machine.exec (.pollAnswer line h.val (goodAnswer h (.present b.val rec.serial))) s = .next
      (if rec' = rec then t.withHeads u.reader u.pres else (t.withHeads u.reader u.pres).changed e b rec').arbitrate := by
  intro u
  obtain ⟨l, hon⟩ := hp.online
  set p : Presentation := ⟨b, rec.serial, s.clock.value, false, false⟩
  set opened := s.opened line h clears p
  obtain ⟨party, hdecided⟩ := hp.decided hrules
  have hconclude := State.conclude_grant hon hp.other hreader hpres party
  have hcontent : (opened.entry e).content = .valid b rec := by
    rw [State.opened_entry]
    exact hp.content
  have hserved : opened.bandOp b.val (.lookup h p) = (opened.serveAt e (.lookup h p)).emptyTest e := by
    obtain ⟨r, q, honly⟩ := s.opened_only line h clears p
    refine (State.bandOp_sent rfl).served e rec ?_ ((State.opened_entryOf ..).trans hp.entry) hcontent
    rw [show opened = _ from honly]
    refine ⟨?_, hp.below⟩
    change (!s.part.winding && s.band.format.isNone) = true
    simp [hp.running, hp.unformatted]
  have hserve : opened.serveAt e (.lookup h p) =
      if rec' = rec then t.withHeads u.reader u.pres else (t.withHeads u.reader u.pres).changed e b rec' := by
    refine State.serveAt_silent hcontent (v := t.withHeads u.reader u.pres) (now := rec') ?_
    have hd : (s.presented line h clears b rec.serial e).serve b rec (.lookup h p) =
        ⟨t.withHeads u.reader u.pres, rec', none⟩ := by rw [State.serve, hdecided, hconclude]
    exact hd
  have hexec := exec_present_lookup (serial := rec.serial) hpoll hp.running hp.unformatted hp.served (fun q hq => by
    rw [hp.empty] at hq
    cases hq) hp.below
  refine hexec.trans (congrArg (fun t : State => Host.Outcome.next t.arbitrate) (hserved.trans ?_))
  rw [hserve]
  split
  · refine State.emptyTest_inUse (rec := rec) (n := b) ?_ ?_
    · have hentry : (t.withHeads u.reader u.pres).entry e = opened.entry e := by
        change t.band.cache[e.val] = _
        rw [hband]
        rfl
      rw [hentry]
      exact hcontent
    · rcases hp.state with hs | hs <;> rw [hs] <;> rfl
  · exact State.emptyTest_pending (by rw [State.changed_entry])

/-- What the decision finds of the other blocks is what was there. -/
theorem State.presented_only (s : State) (line : Line) (h : HeadNo) (clears : Bool) (b : BandNo) (serial : Serial)
    (e : EntryNo) : ∃ r p x, s.presented line h clears b serial e = ((s.setReader r).setPres p).setBand x := by
  cases line <;> exact ⟨_, _, _, rfl⟩

/-- The state behind a grant leaves the records that the presentation unit and the band unit keep. -/
theorem State.grantedAt_only (s : State) (line : Line) (h : HeadNo) (b : BandNo) (serial : Serial) (e : EntryNo) :
    ∃ r p x, s.grantedAt line h b serial e = ((s.setReader r).setPres p).setBand x := by
  cases line <;> exact ⟨_, _, _, rfl⟩

/-- A grant as an operation of the target block, made on the state behind the decision. -/
theorem State.Presents.exec_granted (hp : s.Presents line h b rec e) {carried : Option Verdict} {clears : Bool} {w : Nat}
    (hpoll : (s.engine line).poll = some ⟨h, false, carried, clears, false, w⟩) {T : State → State} {rec' : BandRecord}
    (hrules : (s.presented line h clears b rec.serial e).targetRules (headTarget h) b rec s.clock.value =
      (.grant, T (s.presented line h clears b rec.serial e), rec'))
    (hcomm : ∀ {g : State → State}, Aside g → ∀ t, T (g t) = g (T t)) (hband : ∀ t, (T t).band = t.band) :
    let u := s.grantedAt line h b rec.serial e
    Machine.exec (.pollAnswer line h.val (goodAnswer h (.present b.val rec.serial))) s = .next
      (if rec' = rec then T u else (T u).changed e b rec').arbitrate := by
  intro u
  set o := s.presented line h clears b rec.serial e
  have hself : (T o).withHeads o.reader o.pres = T o := (hcomm (aside_withHeads o.reader o.pres) o).symm
  have hreader : (T o).reader = o.reader := (congrArg State.reader hself).symm
  have hpres : (T o).pres = o.pres := (congrArg State.pres hself).symm
  have hu : o.withHeads u.reader u.pres = u := State.presented_withHeads hp.empty clears rec.serial
  have hTu : (T o).withHeads u.reader u.pres = T u := by
    rw [← hcomm (aside_withHeads u.reader u.pres), hu]
  rw [← hTu]
  exact hp.exec_grant hpoll hrules hreader hpres (hband o)

end

/-! ### The operations of a grant -/

theorem State.setLocker_setLocker (s : State) (k : LockerNo) (x y : Locker) :
    (s.setLocker k x).setLocker k y = s.setLocker k y := by
  simp only [State.setLocker, State.setLockers, Vector.set_set]

section
variable (s : State) (r : Reader) (p : Vector (Option Presentation) 284)

/-- A subject opens an entry and keeps its link: `keep` puts the link into the subject's record. -/
def State.openKept (s : State) (keep : State → Option JournalLink → State) (sub : JournalSubject) (b : Option BandNo)
    (party : Party) (action : JournalAction) (start : Stamp) : State :=
  keep (s.journalOpen sub b party action start).2 (s.journalOpen sub b party action start).1

theorem Aside.openKept {g : State → State} (hg : Aside g) {keep : State → Option JournalLink → State}
    (hkeep : ∀ t k, keep (g t) k = g (keep t k)) (sub : JournalSubject) (b : Option BandNo) (party : Party)
    (action : JournalAction) (start : Stamp) :
    (g s).openKept keep sub b party action start = g (s.openKept keep sub b party action start) := by
  rw [State.openKept, State.openKept, hg.journalOpen, hkeep]

theorem State.openKept_band {keep : State → Option JournalLink → State} (hkeep : ∀ t k, (keep t k).band = t.band)
    (sub : JournalSubject) (b : Option BandNo) (party : Party) (action : JournalAction) (start : Stamp) :
    (s.openKept keep sub b party action start).band = s.band := by
  rw [State.openKept, hkeep, (State.journalOpen_only ..).band]

/-- The link kept with a locker, a cabin and a lane. -/
def keepLocker (k : LockerNo) (t : State) (link : Option JournalLink) : State :=
  t.setLocker k { t.locker k with link := link }

def keepCabin (c : CabinNo) (t : State) (link : Option JournalLink) : State :=
  t.setCabin c { t.cabin c with link := link }

def keepLane (l : LaneNo) (t : State) (link : Option JournalLink) : State :=
  t.setLane l { t.lane l with link := link }

/-- The claim of a VACANT locker (R52). -/
def State.claimLocker (s : State) (k : LockerNo) (b : BandNo) (arrival : Stamp) : State :=
  (s.setLocker k { s.locker k with owner := some b, companions := [] }).beginLocker k .locking .claim (some b) .owner
    (some b) arrival

theorem State.claimLocker_kept (k : LockerNo) (b : BandNo) (arrival : Stamp) : s.claimLocker k b arrival =
    (((s.setLocker k { s.locker k with owner := some b, companions := [] }).setLocker k
      { (s.setLocker k { s.locker k with owner := some b, companions := [] }).locker k with
        state := .locking
        work := some ⟨.claim, some b, .owner,
          ((s.setLocker k { s.locker k with owner := some b, companions := [] }).locker k).state, .queued⟩
        retryUsed := false
        doorOpened := false
        window := none
        dirty := true }).placePulse (lockerString k) (lockerPosition k) .throw).openKept (keepLocker k) (.locker k)
          (some b) .owner .claim arrival := rfl

/-- A claim of a locker in the records of the claim (R52). -/
theorem State.claimLocker_eq (hw : s.part.winding = false) (k : LockerNo) (hst : (s.locker k).state = .vacant)
    (b : BandNo) (arrival : Stamp) : s.claimLocker k b arrival = ((s.setLocker k { s.locker k with
      state := .locking
      owner := some b
      companions := []
      work := some ⟨.claim, some b, .owner, .vacant, .queued⟩
      retryUsed := false
      doorOpened := false
      window := none
      dirty := true }).setString (lockerString k) { s.string (lockerString k) with
        queue := (s.string (lockerString k)).queue ++ [⟨lockerPosition k, .throw⟩] }).openKept (keepLocker k) (.locker k)
          (some b) .owner .claim arrival := by
  rw [State.claimLocker_kept, State.placePulse_eq, State.pulsesWith_placed (by exact hw), State.setLocker_locker,
    if_pos rfl, State.setLocker_setLocker]
  dsimp only
  rw [hst]
  rfl

theorem Aside.claimLocker {g : State → State} (hg : Aside g) (k : LockerNo) (b : BandNo) (arrival : Stamp) :
    (g s).claimLocker k b arrival = g (s.claimLocker k b arrival) := by
  simp only [State.claimLocker_kept, hg.locker, hg.setLocker, hg.placePulse]
  exact hg.openKept _ (fun t _ => by simp only [keepLocker, hg.locker, hg.setLocker]) ..

theorem State.claimLocker_band (k : LockerNo) (b : BandNo) (arrival : Stamp) :
    (s.claimLocker k b arrival).band = s.band := by
  rw [State.claimLocker_kept, State.openKept_band (keep := keepLocker k) _ (fun _ _ => rfl), State.placePulse_eq]
  rfl

theorem State.claimCabin_kept (c : CabinNo) (b : BandNo) (arrival : Stamp) : s.claimCabin c b arrival =
    ((s.setCabin c { s.cabin c with
      state := .closing
      holder := some b
      work := some ⟨.claim, some b, .owner, arrival, .free, .queued⟩
      retryUsed := false
      expiryMark := false
      releaseMark := false }).placePulse 8 (cabinPosition c) .throw).openKept (keepCabin c) (.cabin c) (some b) .owner
        .cabinClaim arrival := rfl

theorem State.claimCabin_eq (hw : s.part.winding = false) (c : CabinNo) (b : BandNo) (arrival : Stamp) :
    s.claimCabin c b arrival = ((s.setCabin c { s.cabin c with
      state := .closing
      holder := some b
      work := some ⟨.claim, some b, .owner, arrival, .free, .queued⟩
      retryUsed := false
      expiryMark := false
      releaseMark := false }).setString 8 { s.string 8 with
        queue := (s.string 8).queue ++ [⟨cabinPosition c, .throw⟩] }).openKept (keepCabin c) (.cabin c) (some b) .owner
          .cabinClaim arrival := by
  rw [State.claimCabin_kept, State.placePulse_eq, State.pulsesWith_placed (by exact hw)]
  rfl

theorem Aside.claimCabin {g : State → State} (hg : Aside g) (c : CabinNo) (b : BandNo) (arrival : Stamp) :
    (g s).claimCabin c b arrival = g (s.claimCabin c b arrival) := by
  simp only [State.claimCabin_kept, hg.cabin, hg.setCabin, hg.placePulse]
  exact hg.openKept _ (fun t _ => by simp only [keepCabin, hg.cabin, hg.setCabin]) ..

theorem State.claimCabin_band (c : CabinNo) (b : BandNo) (arrival : Stamp) :
    (s.claimCabin c b arrival).band = s.band := by
  rw [State.claimCabin_kept, State.openKept_band (keep := keepCabin c) _ (fun _ _ => rfl), State.placePulse_eq]
  rfl

theorem State.armLane_kept (l : LaneNo) (b : BandNo) (master inbound : Bool) (arrival : Stamp) :
    s.armLane l b master inbound arrival = (s.stampTaken.setLane l { s.stampTaken.lane l with
      arm := some ⟨if master = true then none else some b, s.expiryStamp, inbound, s.settings.armWindow⟩
      turnstile := true }).openKept (keepLane l) (.lane l) (some b) (if master = true then .master else .owner)
        (if inbound = true then .admission else .exit) arrival := rfl

theorem Aside.armLane {g : State → State} (hg : Aside g) (l : LaneNo) (b : BandNo) (master inbound : Bool)
    (arrival : Stamp) : (g s).armLane l b master inbound arrival = g (s.armLane l b master inbound arrival) := by
  simp only [State.armLane_kept, State.expiryStamp, hg.clock, hg.settings, hg.free, hg.stampTaken, hg.lane, hg.setLane]
  exact hg.openKept _ (fun t _ => by simp only [keepLane, hg.lane, hg.setLane]) ..

theorem State.stampTaken_band : s.stampTaken.band = s.band := by
  unfold State.stampTaken
  split <;> rfl

theorem State.armLane_band (l : LaneNo) (b : BandNo) (master inbound : Bool) (arrival : Stamp) :
    (s.armLane l b master inbound arrival).band = s.band := by
  rw [State.armLane_kept, State.openKept_band (keep := keepLane l) _ (fun _ _ => rfl)]
  exact State.stampTaken_band s

end

/-! ### What an exit grant does to the lockers -/

section
variable (s : State) (b : BandNo)

/-- The exit reaction looks at the locker table alone and changes nothing else (R62). -/
theorem LockersAside.leaveCompanions {g : State → State} (hg : LockersAside g) :
    (g s).leaveCompanions b = g (s.leaveCompanions b) := by
  simp only [State.leaveCompanions, State.companionLocker, hg.locker]
  split
  · rfl
  · exact hg.setLocker ..

theorem LockersAside.lockerExit {g : State → State} (hg : LockersAside g) : (g s).lockerExit b = g (s.lockerExit b) := by
  simp only [State.lockerExit, State.ownedLocker, hg.locker]
  split
  · exact hg.leaveCompanions ..
  · simp only [State.disown, hg.locker, hg.setLocker, ← apply_ite g]
    exact hg.leaveCompanions ..

/-- The exit reaction leaves everything but the lockers. -/
theorem State.lockerExit_only : ∃ x, s.lockerExit b = s.setLockers x := by
  have hleft (t : State) : ∃ x, t.leaveCompanions b = t.setLockers x := by
    unfold State.leaveCompanions
    split
    · exact ⟨t.lockers, rfl⟩
    · exact ⟨_, rfl⟩
  unfold State.lockerExit
  split
  · exact hleft s
  · split
    · obtain ⟨x, hx⟩ := hleft (s.disown _ .vacant)
      exact ⟨x, hx⟩
    · exact hleft s

/-- An arm's free value and the exit reaction are taken apart. -/
theorem State.lockerExit_stampTaken : (s.lockerExit b).stampTaken = s.stampTaken.lockerExit b := by
  obtain ⟨x, hx⟩ := s.lockerExit_only b
  have hfree (n : Nat) : LockersAside fun t => t.setFree n := by constructor <;> intros <;> rfl
  by_cases h : s.clock.value.toNat + s.settings.armWindow ≤ 4294967295
  · have hs : s.stampTaken = s := if_pos h
    rw [hs, hx]
    exact if_pos h
  · have hs : s.stampTaken = s.setFree (s.free + 1) := if_neg h
    have hexit : s.stampTaken.lockerExit b = (s.lockerExit b).setFree (s.free + 1) := by
      rw [hs]
      exact (hfree _).lockerExit s b
    rw [hexit, hx]
    exact if_neg h

end

/-- An exit lane is armed behind the reaction of the locker engine, its swallow line pulsing (R133). -/
def State.armExit (s : State) (l : LaneNo) (b : BandNo) (arrival : Stamp) : State :=
  ((s.lockerExit b).pulseSwallow l).armLane l b false false arrival

theorem Aside.armExit {g : State → State} (hg : Aside g) (s : State) (l : LaneNo) (b : BandNo) (arrival : Stamp) :
    (g s).armExit l b arrival = g (s.armExit l b arrival) := by
  rw [State.armExit, State.armExit, hg.lockerExit, State.pulseSwallow, State.pulseSwallow, hg.lane, hg.setLane,
    hg.armLane]

theorem State.armExit_band (s : State) (l : LaneNo) (b : BandNo) (arrival : Stamp) :
    (s.armExit l b arrival).band = s.band := by
  obtain ⟨x, hx⟩ := s.lockerExit_only b
  rw [State.armExit, State.armLane_band, hx]
  rfl

theorem State.stampTaken_lane (s : State) (l : LaneNo) : s.stampTaken.lane l = s.lane l := by
  unfold State.stampTaken
  split <;> rfl

/-- An arm of a lane, with the lane as it is found. -/
theorem State.armLane_found (s : State) (l : LaneNo) (b : BandNo) (inbound : Bool) (arrival : Stamp) :
    s.armLane l b false inbound arrival = (s.stampTaken.setLane l { s.lane l with
      arm := some ⟨some b, s.expiryStamp, inbound, s.settings.armWindow⟩
      turnstile := true }).openKept (keepLane l) (.lane l) (some b) .owner
        (if inbound = true then .admission else .exit) arrival := by
  rw [State.armLane_kept, State.stampTaken_lane]
  rfl

/-- The arm of an exit lane in the records of the arm (R133). -/
theorem State.armExit_eq (s : State) (l : LaneNo) (b : BandNo) (arrival : Stamp) : s.armExit l b arrival =
    ((s.stampTaken.lockerExit b).setLane l { s.lane l with
      arm := some ⟨some b, s.expiryStamp, false, s.settings.armWindow⟩
      turnstile := true
      swallow := true }).openKept (keepLane l) (.lane l) (some b) .owner .exit arrival := by
  obtain ⟨x, hx⟩ := s.lockerExit_only b
  have hlane : (s.lockerExit b).lane l = s.lane l := by rw [hx]; rfl
  have hfound : ((s.lockerExit b).pulseSwallow l).lane l = { s.lane l with swallow := true } := by
    rw [State.pulseSwallow, State.setLane_lane_self, hlane]
  have hstamp : ((s.lockerExit b).pulseSwallow l).stampTaken =
      (s.stampTaken.lockerExit b).setLane l { s.lane l with swallow := true } := by
    rw [State.pulseSwallow, State.stampTaken_setLane, State.lockerExit_stampTaken, hlane]
  have hexpiry : ((s.lockerExit b).pulseSwallow l).expiryStamp = s.expiryStamp := by rw [hx]; rfl
  have hsettings : ((s.lockerExit b).pulseSwallow l).settings = s.settings := by rw [hx]; rfl
  rw [State.armExit, State.armLane_found, hfound, hstamp, hexpiry, hsettings, State.setLane_setLane]
  rfl

/-! ### The rules that grant -/

section
variable {s : State} {k : LockerNo} {c : CabinNo} {l : LaneNo} {b : BandNo} {rec : BandRecord} {arrival : Stamp}

/-- R52 with every test passed. -/
theorem State.lockerRules_claim (hst : (s.locker k).state = .vacant) (hclosed : s.lockers.closed[k.val / 32] = false)
    (hin : s.settings.fittedLanes = 0 ∨ rec.state = .inside) (howner : ∀ j, (s.locker j).owner ≠ some b)
    (hm : rec.master = false) (hdoor : s.doorOpen (lockerString k) (lockerPosition k) = some false) :
    s.lockerRules k b rec arrival = (.grant, s.claimLocker k b arrival) := by
  have hadmitted : ¬(0 < s.settings.fittedLanes ∧ rec.state ≠ .inside ∧ rec.master = false) := by
    rintro ⟨hpos, hout, -⟩
    exact hin.elim (by omega) hout
  have hnone : ¬(s.ownedLocker b).isSome = true := fun h => by
    obtain ⟨j, hj⟩ := State.ownedLocker_isSome.1 h
    exact howner j hj
  exact (State.lockerRules_vacant hst).trans ((if_neg (Bool.eq_false_iff.1 hclosed)).trans ((if_neg hadmitted).trans
    ((if_neg hnone).trans ((if_neg (Bool.eq_false_iff.1 hm)).trans (if_neg (by simp [hdoor]))))))

/-- R97 with every test passed. -/
theorem State.cabinRules_claim (hst : (s.cabin c).state = .free) (hset : s.clock.isSet = true)
    (hin : s.settings.fittedLanes = 0 ∨ rec.state = .inside) (hholder : ∀ d, (s.cabin d).holder ≠ some b)
    (hm : rec.master = false) (hdoor : s.doorOpen 8 (cabinPosition c) = some false) :
    s.cabinRules c b rec arrival = (.grant, s.claimCabin c b arrival) := by
  have hclosed : ¬s.cabinDoorOpen c = true := by
    rw [State.cabinDoorOpen_iff, hdoor]
    simp
  exact (State.cabinRules_free hst).trans ((State.freeCabinRules_admitted hset hin).trans
    ((if_neg (State.heldCabin_isSome_false hholder)).trans ((if_neg hclosed).trans (if_neg (Bool.eq_false_iff.1 hm)))))

/-- R132 with every test passed. -/
theorem State.entryRules_arm (hs : (s.lane l).service = false) (ha : (s.lane l).arm = none)
    (hc : (s.lane l).commit = none) (helse : ∀ m, m ≠ l → ∀ a, (s.lane m).arm = some a → a.band ≠ some b)
    (hm : rec.master = false) (hstate : rec.state = .issued) (hset : s.clock.isSet = true)
    (hfull : s.lanes.full = false) :
    s.entryRules l b rec arrival = (.grant, s.armLane l b false true arrival) :=
  (State.entryRules_disarmed hs ha hc fun m a h => helse m h a).trans ((if_neg (Bool.eq_false_iff.1 hm)).trans
    ((if_neg (by simp [hstate])).trans ((if_neg (by simp [hset])).trans (if_neg (by simp [hfull])))))

/-- R133 with every test passed. -/
theorem State.exitRules_arm {entry : Stamp} (hs : (s.lane l).service = false) (ha : (s.lane l).arm = none)
    (hm : rec.master = false) (hstate : rec.state = .inside) (hentry : rec.entry = some entry)
    (hholder : ∀ c, (s.cabin c).holder ≠ some b)
    (howner : ∀ k, (s.locker k).owner = some b → (s.locker k).state = .opened)
    (hset : s.clock.isSet = true)
    (howed : (stayFigures s.clock.value entry rec.paid rec.settled rec.credit s.settings.tariff[rec.cls.val]).owed ≤
      rec.credit) : s.exitRules l b rec arrival = (.grant, s.armExit l b arrival,
        exitRecord rec
          (stayFigures s.clock.value entry rec.paid rec.settled rec.credit s.settings.tariff[rec.cls.val])) := by
  refine (State.exitRules_disarmed hs ha).trans ((if_neg (Bool.eq_false_iff.1 hm)).trans
    ((if_neg (by simp [hstate])).trans ((if_neg (State.heldCabin_isSome_false hholder)).trans ((if_neg (State.ownsClosedLocker_false howner)).trans
      ((if_neg (by simp [hset])).trans ((if_neg ?_).trans ?_))))))
  · rw [State.stayOf_entered hentry]
    omega
  · rw [State.stayOf_entered hentry]
    rfl

end

/-- Settles O58: the rules grant on the state the decision finds; the grant is one operation of the target block, which
leaves the reader lines, the presentations and the band unit alone. -/
theorem grantsAtHeads : Obligations.GrantsAtHeads := by
  unfold Obligations.GrantsAtHeads
  intro s line h b rec e hp u run opens
  obtain ⟨carried, clears, w, hpoll⟩ := hp.polled
  obtain ⟨r, p, x, hpresented⟩ := s.presented_only line h clears b rec.serial e
  obtain ⟨r', p', x', hgranted⟩ := s.grantedAt_only line h b rec.serial e
  set found := ((s.setReader r).setPres p).setBand x
  have hrun {T : State → State} {rec' : BandRecord} :=
    State.Presents.exec_granted (T := T) (rec' := rec') hp hpoll
  have hpart : s.part.winding = false := by rw [hp.running]
  have hlane (l : LaneNo) : u.lane l = s.lane l := by rw [show u = _ from hgranted]; rfl
  have hstamp : u.expiryStamp = s.expiryStamp := by rw [show u = _ from hgranted]; rfl
  have hsettings : u.settings = s.settings := by rw [show u = _ from hgranted]; rfl
  refine ⟨fun k hk howner hst hclosed hin hdoor => ?_, fun c hc hset hholder hst hin hdoor => ?_,
    fun l hl hset hs ha => ⟨fun hrole hcommit hstate hfull helse => ?_,
      fun entry hrole hstate hentry hholder howner howed => ?_⟩⟩
  · have hlt := k.isLt
    have hhead : headTarget h = .locker k :=
      (headTarget_locker (by omega)).trans (congrArg JournalSubject.locker (Fin.ext hk))
    refine (hrun (rec' := rec) (T := fun t => t.claimLocker k b s.clock.value) ?_ (fun hg t => hg.claimLocker t k b _)
      (fun t => State.claimLocker_band t k b _)).trans ?_
    · rw [hhead, hpresented]
      exact congrArg (fun r : Verdict × State => (r.1, r.2, rec))
        (State.lockerRules_claim (s := found) hst hclosed hin howner hp.notMaster hdoor)
    · rw [if_pos rfl, State.claimLocker_eq u (by rw [show u = _ from hgranted]; exact hpart) k
        (by rw [show u = _ from hgranted]; exact hst),
        show u.locker k = s.locker k by rw [show u = _ from hgranted]; rfl,
        show u.string = s.string by rw [show u = _ from hgranted]; rfl]
      rfl
  · have hlt := c.isLt
    have hhead : headTarget h = .cabin c :=
      (headTarget_cabin (by omega) (by omega)).trans (congrArg JournalSubject.cabin (Fin.ext (Nat.sub_eq_of_eq_add' hc)))
    refine (hrun (rec' := rec) (T := fun t => t.claimCabin c b s.clock.value) ?_ (fun hg t => hg.claimCabin t c b _)
      (fun t => State.claimCabin_band t c b _)).trans ?_
    · rw [hhead, hpresented]
      exact congrArg (fun r : Verdict × State => (r.1, r.2, rec))
        (State.cabinRules_claim (s := found) hst hset hin hholder hp.notMaster hdoor)
    · rw [if_pos rfl, State.claimCabin_eq u (by rw [show u = _ from hgranted]; exact hpart) c,
        show u.cabin c = s.cabin c by rw [show u = _ from hgranted]; rfl,
        show u.string = s.string by rw [show u = _ from hgranted]; rfl]
      rfl
  · have hhead : headTarget h = .lane l :=
      (headTarget_lane (by omega)).trans (congrArg JournalSubject.lane (Fin.ext (Nat.sub_eq_of_eq_add' hl)))
    refine (hrun (rec' := rec) (T := fun t => t.armLane l b false true s.clock.value) ?_
      (fun hg t => hg.armLane t l b false true _)
      (fun t => State.armLane_band t l b false true _)).trans ?_
    · rw [hhead, hpresented]
      exact State.targetRules_entry (s := found) hrole
        (State.entryRules_arm (s := found) hs ha hcommit helse hp.notMaster hstate hset hfull)
    · rw [if_pos rfl, State.armLane_found, hlane, hstamp, hsettings]
      rfl
  · have hhead : headTarget h = .lane l :=
      (headTarget_lane (by omega)).trans (congrArg JournalSubject.lane (Fin.ext (Nat.sub_eq_of_eq_add' hl)))
    set f := stayFigures s.clock.value entry rec.paid rec.settled rec.credit s.settings.tariff[rec.cls.val]
    have hchanged : ¬exitRecord rec f = rec := fun heq => by
      have : BandState.returned = rec.state := congrArg BandRecord.state heq
      rw [hstate] at this
      cases this
    refine (hrun (rec' := exitRecord rec f) (T := fun t => t.armExit l b s.clock.value) ?_
      (fun hg t => hg.armExit t l b _)
      (fun t => State.armExit_band t l b _)).trans ?_
    · rw [hhead, hpresented]
      exact (State.targetRules_exit (s := found) hrole).trans
        (State.exitRules_arm (s := found) hs ha hp.notMaster hstate hentry hholder howner hset howed)
    · rw [if_neg hchanged, State.armExit_eq, hlane, hstamp, hsettings]
      rfl

end Sys2Proof.Machine
end


section
/-!
PROOF. One scan of a string: the debouncing of its contacts, the reports of a FITTED string to the owner of a position,
and an ESTABLISHING string that reaches FITTED (R86 to R88, R175).
-/

namespace Sys2Proof.Machine

/-! ### The owners' reactions apart from the contacts -/

section
variable {g : State → State} (hg : Aside g) (s : State)
include hg

section
variable (k : LockerNo)

theorem Aside.restLocker (st : LockerState) (clear : Bool) (o : EntryOutcome) :
    (g s).restLocker k st clear o = g (s.restLocker k st clear o) := by
  simp only [State.restLocker, hg.locker, hg.setLocker, hg.journalClose]

theorem Aside.forceLocker : (g s).forceLocker k = g (s.forceLocker k) := by
  rcases hw : (s.locker k).work with _ | w <;>
    simp only [State.forceLocker, hg.locker, hw, hg.removePulse, hg.restLocker, hg.post, hg.now, hg.journalClosed]

theorem Aside.confirmLocker : (g s).confirmLocker k = g (s.confirmLocker k) := by
  rcases hw : (s.locker k).work with _ | w
  · simp only [State.confirmLocker, hg.locker, hw]
  · simp only [State.confirmLocker, State.undoLocker, hg.locker, hw, hg.setLocker, hg.placePulse, hg.restLocker,
      apply_ite g]

theorem Aside.lockerDoorOpened : (g s).lockerDoorOpened k = g (s.lockerDoorOpened k) := by
  simp only [State.lockerDoorOpened, hg.locker, hg.forceLocker, hg.removePulse, hg.restLocker, hg.setLocker, apply_ite g]
  split
  · rfl
  · split
    · exact (apply_ite g _ _ _).symm
    · rfl

theorem Aside.lockerBoltChange (thrown : Bool) : (g s).lockerBoltChange k thrown = g (s.lockerBoltChange k thrown) := by
  simp only [State.lockerBoltChange, hg.locker, hg.forceLocker, hg.confirmLocker, apply_ite g]
  split
  · rfl
  · split
    · exact (apply_ite g _ _ _).symm
    · rfl

end

section
variable (c : CabinNo)

theorem Aside.restCabin (st : CabinState) (o : EntryOutcome) : (g s).restCabin c st o = g (s.restCabin c st o) := by
  simp only [State.restCabin, hg.cabin, hg.setCabin, hg.journalClose]

theorem Aside.openCabin (a : CabinAction) (prior : CabinState) (expiry : Bool) :
    (g s).openCabin c a prior expiry = g (s.openCabin c a prior expiry) := by
  simp only [State.openCabin, hg.cabin, hg.now, hg.setCabin, hg.placePulse]

theorem Aside.closeHold (o : EntryOutcome) : (g s).closeHold c o = g (s.closeHold c o) := by
  simp only [State.closeHold, hg.cabin, hg.setCabin, hg.journalClose]

theorem Aside.dueTests : (g s).dueTests c = g (s.dueTests c) := by
  have hoverdue (t : State) : (g t).dueOverdue c = g (t.dueOverdue c) := by
    simp only [State.dueOverdue, hg.cabin, hg.now, hg.setCabin, hg.post, apply_ite g]
  have hexpiry (t : State) : (g t).dueExpiry c = g (t.dueExpiry c) := by
    simp only [State.dueExpiry, State.expireCabin, hg.cabin, hg.now, hg.openCabin, hg.journalClosed, apply_ite g]
  rw [State.dueTests, State.dueTests, hoverdue, hexpiry]

theorem Aside.confirmCabinWithdraw (w : CabinWork) : (g s).confirmCabinWithdraw c w = g (s.confirmCabinWithdraw c w) := by
  rcases w with ⟨a, _, _, _, _, _⟩
  cases a <;>
    simp only [State.confirmCabinWithdraw, State.writeCabinRelease, hg.cabin, hg.restCabin, hg.post, hg.journalClosed,
      apply_ite g]

/-- A confirmation reads one contact, the cabin's door. -/
theorem Aside.confirmCabin (hdoor : (g s).cabinDoorOpen c = s.cabinDoorOpen c) :
    (g s).confirmCabin c = g (s.confirmCabin c) := by
  rcases hw : (s.cabin c).work with _ | w
  · simp only [State.confirmCabin, hg.cabin, hw]
  · simp only [State.confirmCabin, State.confirmCabinThrow, hg.cabin, hw, hdoor, hg.now, hg.settings, hg.setCabin,
      hg.closeHold, hg.openCabin, hg.dueTests, hg.confirmCabinWithdraw, apply_ite g]

theorem Aside.cabinDoorOpened (hbolt : (g s).cabinThrown c = s.cabinThrown c) :
    (g s).cabinDoorOpened c = g (s.cabinDoorOpened c) := by
  simp only [State.cabinDoorOpened, State.forceHeldCabin, State.forceOpeningCabin, hg.cabin, hbolt, hg.now, hg.post,
    hg.setCabin, hg.closeHold, hg.openCabin, hg.removePulse, hg.restCabin]
  split <;> simp only [apply_ite g]

theorem Aside.cabinBoltChange (hdoor : (g s).cabinDoorOpen c = s.cabinDoorOpen c) (thrown : Bool) :
    (g s).cabinBoltChange c thrown = g (s.cabinBoltChange c thrown) := by
  simp only [State.cabinBoltChange, State.handleCabin, hg.cabin, hg.confirmCabin s c hdoor, hg.removePulse, hg.restCabin]
  split <;> simp only [apply_ite g]
  congr 1
  split <;> rfl

end

end

/-! ### What a door report leaves of the strings and the contacts -/

section
variable (s : State)

theorem State.JournalOnly.string {t : State} (h : s.JournalOnly t) (j : StringNo) : t.string j = s.string j := by
  obtain ⟨_, _, rfl⟩ := h
  rfl

theorem State.setString_queue_fitting (i j : StringNo) (q : List Pulse) :
    ((s.setString i { s.string i with queue := q }).string j).fitting = (s.string j).fitting := by
  rw [State.setString_string]
  split
  · next h => rw [h]
  · rfl

theorem State.removePulse_fitting (i j : StringNo) (p : Position) :
    ((s.removePulse i p).string j).fitting = (s.string j).fitting := by
  rw [State.removePulse_eq]
  exact s.setString_queue_fitting ..

theorem State.placePulse_fitting (i j : StringNo) (p : Position) (d : Direction) :
    ((s.placePulse i p d).string j).fitting = (s.string j).fitting := by
  rw [State.placePulse_eq]
  exact s.setString_queue_fitting ..

theorem State.restLocker_string (k : LockerNo) (st : LockerState) (clear : Bool) (o : EntryOutcome) (j : StringNo) :
    (s.restLocker k st clear o).string j = s.string j := State.JournalOnly.string _ (State.journalClose_only ..) j

theorem State.forceLocker_fitting (k : LockerNo) (j : StringNo) :
    ((s.forceLocker k).string j).fitting = (s.string j).fitting := by
  have hforced (t : State) : (((t.restLocker k .forced false .forced).post .lockerForced (.locker k)).journalClosed
      (.locker k) (s.locker k).owner .desk .forced
        ((t.restLocker k .forced false .forced).post .lockerForced (.locker k)).now .done).string j = t.string j :=
    (State.JournalOnly.string _ (State.journalClosed_only ..) j).trans (t.restLocker_string ..)
  rcases hw : (s.locker k).work with _ | w
  · simp only [State.forceLocker, hw]
    rw [hforced]
  · simp only [State.forceLocker, hw]
    rw [hforced, State.removePulse_fitting]

theorem State.lockerDoorOpened_fitting (k : LockerNo) (j : StringNo) :
    ((s.lockerDoorOpened k).string j).fitting = (s.string j).fitting := by
  simp only [State.lockerDoorOpened]
  split
  · exact s.forceLocker_fitting k j
  · split
    · split
      · rw [State.restLocker_string, State.removePulse_fitting]
      · rfl
    · rfl

theorem State.closeHold_string (c : CabinNo) (o : EntryOutcome) (j : StringNo) :
    (s.closeHold c o).string j = s.string j := State.JournalOnly.string _ (State.journalClose_only ..) j

theorem State.restCabin_string (c : CabinNo) (st : CabinState) (o : EntryOutcome) (j : StringNo) :
    (s.restCabin c st o).string j = s.string j := State.JournalOnly.string _ (State.journalClose_only ..) j

theorem State.forceHeldCabin_fitting (c : CabinNo) (j : StringNo) :
    ((s.forceHeldCabin c).string j).fitting = (s.string j).fitting := by
  rw [State.forceHeldCabin, State.openCabin, State.placePulse_fitting]
  exact congrArg StringRecord.fitting (State.closeHold_string ..)

theorem State.cabinDoorOpened_fitting (c : CabinNo) (j : StringNo) :
    ((s.cabinDoorOpened c).string j).fitting = (s.string j).fitting := by
  simp only [State.cabinDoorOpened]
  split
  · split
    · exact s.forceHeldCabin_fitting c j
    · rfl
  · split
    · exact s.forceHeldCabin_fitting c j
    · rfl
  · split
    · rw [State.restCabin_string, State.removePulse_fitting]
    · rfl
  · split
    · exact congrArg StringRecord.fitting (State.closeHold_string ..)
    · rfl
  · rfl

theorem State.reportDoor_fitting (i j : StringNo) (p : Position) (isOpen : Bool) :
    ((s.reportDoor i p isOpen).string j).fitting = (s.string j).fitting := by
  unfold State.reportDoor
  split
  · rfl
  · split
    · exact s.lockerDoorOpened_fitting ..
    · split
      · exact s.cabinDoorOpened_fitting ..
      · rfl

theorem aside_setContacts (i : StringNo) (z : StringContacts) : Aside fun t => t.setContacts i z := by
  constructor
  case toLockersAside => constructor <;> intros <;> rfl
  all_goals intros; rfl

variable {s} {i : StringNo} {p : Position} {z : StringContacts}

theorem State.setContacts_self : s.setContacts i (s.contacts i) = s := by
  simp [State.setContacts, State.contacts, State.setScanner, Vector.set_getElem_self]

theorem State.setContacts_setContacts (x : StringContacts) : (s.setContacts i x).setContacts i z = s.setContacts i z := by
  simp only [State.setContacts, State.setScanner, Vector.set_set]

theorem State.setContacts_contacts_self : (s.setContacts i z).contacts i = z :=
  (State.setContacts_contacts ..).trans (if_pos rfl)

/-- A report reads the two contacts of its own position alone. -/
theorem State.reportDoor_setContacts (hbolt : z.bolts[p.val].accepted = (s.contacts i).bolts[p.val].accepted)
    (isOpen : Bool) : (s.setContacts i z).reportDoor i p isOpen = (s.reportDoor i p isOpen).setContacts i z := by
  have hg := aside_setContacts i z
  unfold State.reportDoor
  split
  · rfl
  · split
    · exact hg.lockerDoorOpened s _
    · next hi =>
      split
      · next hp =>
        refine hg.cabinDoorOpened s _ ?_
        have hcabin : i = 8 := Fin.ext (show i.val = 8 by omega)
        subst hcabin
        have hread : ((s.setContacts 8 z).contacts 8).bolts[p.val].accepted = (s.contacts 8).bolts[p.val].accepted := by
          rw [State.setContacts_contacts_self, hbolt]
        exact congrArg (· == some true) hread
      · rfl

theorem State.reportBolt_setContacts (hdoor : z.doors[p.val].accepted = (s.contacts i).doors[p.val].accepted)
    (thrown : Bool) : (s.setContacts i z).reportBolt i p thrown = (s.reportBolt i p thrown).setContacts i z := by
  have hg := aside_setContacts i z
  unfold State.reportBolt
  split
  · exact hg.lockerBoltChange s _ _
  · next hi =>
    split
    · next hp =>
      refine hg.cabinBoltChange s _ ?_ _
      have hcabin : i = 8 := Fin.ext (show i.val = 8 by omega)
      subst hcabin
      have hread : ((s.setContacts 8 z).contacts 8).doors[p.val].accepted = (s.contacts 8).doors[p.val].accepted := by
        rw [State.setContacts_contacts_self, hdoor]
      exact congrArg (· == some true) hread
    · rfl

theorem State.reportDoor_contacts (isOpen : Bool) : (s.reportDoor i p isOpen).contacts i = s.contacts i := by
  have h := State.reportDoor_setContacts (s := s) (i := i) (p := p) (z := s.contacts i) rfl isOpen
  rw [State.setContacts_self] at h
  rw [h, State.setContacts_contacts_self]

theorem State.reportBolt_contacts (thrown : Bool) : (s.reportBolt i p thrown).contacts i = s.contacts i := by
  have h := State.reportBolt_setContacts (s := s) (i := i) (p := p) (z := s.contacts i) rfl thrown
  rw [State.setContacts_self] at h
  rw [h, State.setContacts_contacts_self]

end

/-! ### Sampling -/

/-- The contacts of a string behind the sampling of some positions. -/
def StringContacts.sampled (x : StringContacts) (doors bolts : BitVec 32) (ps : List Position) : StringContacts :=
  ⟨Vector.ofFn fun p => if p ∈ ps then x.doors[p.val].sample (doors.getLsbD p.val) else x.doors[p.val],
    Vector.ofFn fun p => if p ∈ ps then x.bolts[p.val].sample (bolts.getLsbD p.val) else x.bolts[p.val]⟩

section
variable {x z : StringContacts} {doors bolts : BitVec 32} {p q : Position} {ps : List Position}

theorem StringContacts.sampled_doors (ps : List Position) : (x.sampled doors bolts ps).doors[p.val] =
    if p ∈ ps then x.doors[p.val].sample (doors.getLsbD p.val) else x.doors[p.val] := Vector.getElem_ofFn p.isLt

theorem StringContacts.sampled_bolts (ps : List Position) : (x.sampled doors bolts ps).bolts[p.val] =
    if p ∈ ps then x.bolts[p.val].sample (bolts.getLsbD p.val) else x.bolts[p.val] := Vector.getElem_ofFn p.isLt

theorem StringContacts.ext_contacts (hd : ∀ p : Position, x.doors[p.val] = z.doors[p.val])
    (hb : ∀ p : Position, x.bolts[p.val] = z.bolts[p.val]) : x = z := by
  cases x
  cases z
  rw [StringContacts.mk.injEq]
  exact ⟨Vector.ext fun n hn => hd ⟨n, hn⟩, Vector.ext fun n hn => hb ⟨n, hn⟩⟩

/-- The door contact of a position, sampled. -/
def StringContacts.sampleDoor (x : StringContacts) (doors : BitVec 32) (p : Position) : StringContacts :=
  { x with doors := x.doors.set p.val (x.doors[p.val].sample (doors.getLsbD p.val)) }

/-- The bolt contact of a position, sampled. -/
def StringContacts.sampleBolt (x : StringContacts) (bolts : BitVec 32) (p : Position) : StringContacts :=
  { x with bolts := x.bolts.set p.val (x.bolts[p.val].sample (bolts.getLsbD p.val)) }

theorem StringContacts.sampleDoor_doors : (x.sampleDoor doors p).doors[q.val] =
    if q = p then x.doors[p.val].sample (doors.getLsbD p.val) else x.doors[q.val] := by
  simp only [StringContacts.sampleDoor, Vector.getElem_set, Fin.val_inj, eq_comm]

theorem StringContacts.sampleBolt_bolts : (x.sampleBolt bolts p).bolts[q.val] =
    if q = p then x.bolts[p.val].sample (bolts.getLsbD p.val) else x.bolts[q.val] := by
  simp only [StringContacts.sampleBolt, Vector.getElem_set, Fin.val_inj, eq_comm]

/-- The sampling of a position leaves the contacts of the others. -/
theorem StringContacts.sampled_quiet (hq : q ≠ p) :
    ((x.sampleDoor doors p).sampleBolt bolts p).doors[q.val] = x.doors[q.val] ∧
      ((x.sampleDoor doors p).sampleBolt bolts p).bolts[q.val] = x.bolts[q.val] := by
  constructor
  · have hkept : ((x.sampleDoor doors p).sampleBolt bolts p).doors = (x.sampleDoor doors p).doors := rfl
    simp only [hkept, StringContacts.sampleDoor_doors, if_neg hq]
  · rw [StringContacts.sampleBolt_bolts, if_neg hq]
    rfl

/-- The positions of a list are sampled one by one. -/
theorem StringContacts.sampled_cons (hp : p ∉ ps) : ((x.sampleDoor doors p).sampleBolt bolts p).sampled doors bolts ps =
    x.sampled doors bolts (p :: ps) := by
  refine StringContacts.ext_contacts (fun q => ?_) fun q => ?_
  · rw [StringContacts.sampled_doors, StringContacts.sampled_doors]
    change (if q ∈ ps then ((x.sampleDoor doors p).doors[q.val]).sample _ else (x.sampleDoor doors p).doors[q.val]) = _
    rw [StringContacts.sampleDoor_doors]
    by_cases hq : q = p
    · subst hq
      simp [hp]
    · simp [hq]
  · rw [StringContacts.sampled_bolts, StringContacts.sampled_bolts, StringContacts.sampleBolt_bolts]
    by_cases hq : q = p
    · subst hq
      simp [hp]
      rfl
    · simp [hq]
      rfl

theorem StringContacts.sampled_append (before after : List Position) (h : List.Disjoint before after) :
    (x.sampled doors bolts before).sampled doors bolts after = x.sampled doors bolts (before ++ after) := by
  refine StringContacts.ext_contacts (fun q => ?_) fun q => ?_
  · rw [StringContacts.sampled_doors, StringContacts.sampled_doors, StringContacts.sampled_doors]
    by_cases hb : q ∈ before
    · have hnot : q ∉ after := fun ha => h hb ha
      simp [hb, hnot]
    · simp [hb]
  · rw [StringContacts.sampled_bolts, StringContacts.sampled_bolts, StringContacts.sampled_bolts]
    by_cases hb : q ∈ before
    · have hnot : q ∉ after := fun ha => h hb ha
      simp [hb, hnot]
    · simp [hb]

end

/-! ### The scan of a string -/

/-- No known level changes at a position (R86). -/
def StringContacts.Quiet (x : StringContacts) (doors bolts : BitVec 32) (p : Position) : Prop :=
  x.doors[p.val].changes (doors.getLsbD p.val) = false ∧ x.bolts[p.val].changes (bolts.getLsbD p.val) = false

section
variable {s : State} {i : StringNo} {doors bolts : BitVec 32} {p : Position}

theorem State.scanDoor_eq : s.scanDoor i p (doors.getLsbD p.val) =
    if (s.contacts i).doors[p.val].changes (doors.getLsbD p.val) = true ∧ s.stringFitted i = true
      then (s.setContacts i ((s.contacts i).sampleDoor doors p)).reportDoor i p (doors.getLsbD p.val)
      else s.setContacts i ((s.contacts i).sampleDoor doors p) := rfl

theorem State.scanBolt_eq : s.scanBolt i p (bolts.getLsbD p.val) =
    if (s.contacts i).bolts[p.val].changes (bolts.getLsbD p.val) = true ∧ s.stringFitted i = true
      then (s.setContacts i ((s.contacts i).sampleBolt bolts p)).reportBolt i p (bolts.getLsbD p.val)
      else s.setContacts i ((s.contacts i).sampleBolt bolts p) := rfl

/-- A position in which nothing changes, and any position of a string that is not FITTED, is sampled in silence. -/
theorem State.scanPosition_quiet (h : s.stringFitted i = true → (s.contacts i).Quiet doors bolts p) :
    s.scanPosition i doors bolts p = s.setContacts i (((s.contacts i).sampleDoor doors p).sampleBolt bolts p) := by
  have hdoor : ¬((s.contacts i).doors[p.val].changes (doors.getLsbD p.val) = true ∧ s.stringFitted i = true) :=
    fun ⟨hc, hf⟩ => Bool.false_ne_true ((h hf).1.symm.trans hc)
  have hbolt : ¬((s.contacts i).bolts[p.val].changes (bolts.getLsbD p.val) = true ∧ s.stringFitted i = true) :=
    fun ⟨hc, hf⟩ => Bool.false_ne_true ((h hf).2.symm.trans hc)
  rw [State.scanPosition, State.scanDoor_eq, if_neg hdoor, State.scanBolt_eq, State.setContacts_contacts_self,
    State.setContacts_setContacts]
  exact if_neg hbolt

theorem State.scan_quiet {ps : List Position} (hnodup : ps.Nodup)
    (h : s.stringFitted i = true → ∀ p ∈ ps, (s.contacts i).Quiet doors bolts p) :
    ps.foldl (fun s p => s.scanPosition i doors bolts p) s =
      s.setContacts i ((s.contacts i).sampled doors bolts ps) := by
  induction ps generalizing s with
  | nil =>
    have hnone : (s.contacts i).sampled doors bolts [] = s.contacts i :=
      StringContacts.ext_contacts (fun q => StringContacts.sampled_doors []) fun q => StringContacts.sampled_bolts []
    rw [hnone, State.setContacts_self]
    rfl
  | cons p ps ih =>
    obtain ⟨hp, hps⟩ := List.nodup_cons.1 hnodup
    rw [List.foldl_cons, State.scanPosition_quiet fun hf => h hf p List.mem_cons_self, ih hps,
      State.setContacts_contacts_self, State.setContacts_setContacts, StringContacts.sampled_cons hp]
    intro hf q hq
    have hne : q ≠ p := fun heq => hp (heq ▸ hq)
    obtain ⟨hdoor, hbolt⟩ := (s.contacts i).sampled_quiet (doors := doors) (bolts := bolts) hne
    rw [State.setContacts_contacts_self, StringContacts.Quiet, hdoor, hbolt]
    exact h hf q (List.mem_cons_of_mem p hq)

theorem State.scanDoor_contacts :
    (s.scanDoor i p (doors.getLsbD p.val)).contacts i = (s.contacts i).sampleDoor doors p := by
  rw [State.scanDoor_eq]
  split
  · rw [State.reportDoor_contacts, State.setContacts_contacts_self]
  · exact State.setContacts_contacts_self

theorem State.scanDoor_fitted : (s.scanDoor i p (doors.getLsbD p.val)).stringFitted i = s.stringFitted i := by
  have hfit : ((s.scanDoor i p (doors.getLsbD p.val)).string i).fitting = (s.string i).fitting := by
    rw [State.scanDoor_eq]
    split
    · exact State.reportDoor_fitting ..
    · rfl
  rw [State.stringFitted, State.stringFitted, hfit]

theorem State.scanPosition_contacts : (s.scanPosition i doors bolts p).contacts i =
    ((s.contacts i).sampleDoor doors p).sampleBolt bolts p := by
  rw [State.scanPosition, State.scanBolt_eq]
  split
  · rw [State.reportBolt_contacts, State.setContacts_contacts_self, State.scanDoor_contacts]
  · rw [State.setContacts_contacts_self, State.scanDoor_contacts]

/-- The reports of one position of a FITTED string, the door's before the bolt is sampled, with the contacts `x` that
the scan leaves behind them (R87). -/
theorem State.scanPosition_reports (hf : s.stringFitted i = true) {x : StringContacts}
    (hx : x.doors[p.val] = (s.contacts i).doors[p.val].sample (doors.getLsbD p.val)) :
    let y := s.setContacts i { x with bolts := x.bolts.set p.val (s.contacts i).bolts[p.val] }
    let d := if (s.contacts i).doors[p.val].changes (doors.getLsbD p.val) = true
      then (y.reportDoor i p (doors.getLsbD p.val)).setContacts i x else s.setContacts i x
    (s.scanPosition i doors bolts p).setContacts i x =
      if (s.contacts i).bolts[p.val].changes (bolts.getLsbD p.val) = true
        then d.reportBolt i p (bolts.getLsbD p.val) else d := by
  intro y d
  set held : StringContacts := { x with bolts := x.bolts.set p.val (s.contacts i).bolts[p.val] }
  set D := s.scanDoor i p (doors.getLsbD p.val)
  set sampled := (s.contacts i).sampleDoor doors p
  have hdoor : D.setContacts i x = d := by
    have hy : y = (s.setContacts i sampled).setContacts i held := (State.setContacts_setContacts ..).symm
    have hagree : held.bolts[p.val] = ((s.setContacts i sampled).contacts i).bolts[p.val] := by
      rw [State.setContacts_contacts_self]
      exact Vector.getElem_set_self ..
    have hreport : y.reportDoor i p (doors.getLsbD p.val) =
        ((s.setContacts i sampled).reportDoor i p (doors.getLsbD p.val)).setContacts i held := by
      rw [hy]
      exact State.reportDoor_setContacts (congrArg Contact.accepted hagree) _
    rw [show D = _ from State.scanDoor_eq, apply_ite (fun t : State => t.setContacts i x),
      State.setContacts_setContacts]
    refine if_congr (and_iff_left hf) ?_ rfl
    rw [hreport, State.setContacts_setContacts]
  have hfitted : D.stringFitted i = true := State.scanDoor_fitted.trans hf
  have hcontacts : D.contacts i = sampled := State.scanDoor_contacts
  have hbolt : (D.contacts i).bolts[p.val] = (s.contacts i).bolts[p.val] := by rw [hcontacts]; rfl
  have hsampled : sampled.doors[p.val] = x.doors[p.val] := by
    rw [StringContacts.sampleDoor_doors, if_pos rfl, hx]
  rw [State.scanPosition, State.scanBolt_eq, apply_ite (fun t : State => t.setContacts i x),
    State.setContacts_setContacts, hdoor, hbolt]
  refine if_congr (and_iff_left hfitted) ?_ rfl
  rw [← State.reportBolt_setContacts, State.setContacts_setContacts, hdoor]
  rw [State.setContacts_contacts_self, hcontacts, ← hsampled]
  rfl

/-- A scan in which known levels change at one position alone (R86, R87). -/
theorem State.scan_one {ps : List Position} (hnodup : ps.Nodup) (hp : p ∈ ps) (hf : s.stringFitted i = true)
    (h : ∀ q, q ≠ p → (s.contacts i).Quiet doors bolts q) {x : StringContacts}
    (hx : x = (s.contacts i).sampled doors bolts ps) :
    let y := s.setContacts i { x with bolts := x.bolts.set p.val (s.contacts i).bolts[p.val] }
    let d := if (s.contacts i).doors[p.val].changes (doors.getLsbD p.val) = true
      then (y.reportDoor i p (doors.getLsbD p.val)).setContacts i x else s.setContacts i x
    ps.foldl (fun s p => s.scanPosition i doors bolts p) s =
      if (s.contacts i).bolts[p.val].changes (bolts.getLsbD p.val) = true
        then d.reportBolt i p (bolts.getLsbD p.val) else d := by
  obtain ⟨before, after, rfl⟩ := List.append_of_mem hp
  obtain ⟨hbefore, hcons, hdisjoint⟩ := List.nodup_append'.1 hnodup
  obtain ⟨hpafter, hafter⟩ := List.nodup_cons.1 hcons
  have hpbefore : p ∉ before := fun hb => hdisjoint hb List.mem_cons_self
  set x1 := (s.contacts i).sampled doors bolts before
  have hkept (q : Position) (hq : q ∉ before) :
      x1.doors[q.val] = (s.contacts i).doors[q.val] ∧ x1.bolts[q.val] = (s.contacts i).bolts[q.val] := by
    rw [StringContacts.sampled_doors, StringContacts.sampled_bolts, if_neg hq, if_neg hq]
    exact ⟨rfl, rfl⟩
  set t := (s.setContacts i x1).scanPosition i doors bolts p
  have ht : t.contacts i = (x1.sampleDoor doors p).sampleBolt bolts p := by
    rw [show t = _ from rfl, State.scanPosition_contacts, State.setContacts_contacts_self]
  have hbehind : after.foldl (fun s p => s.scanPosition i doors bolts p) t = t.setContacts i x := by
    rw [State.scan_quiet hafter, ht, hx, StringContacts.sampled_cons hpafter,
      StringContacts.sampled_append _ _ hdisjoint]
    intro _ q hq
    obtain ⟨hdoor, hbolt⟩ := x1.sampled_quiet (doors := doors) (bolts := bolts) (fun heq : q = p => hpafter (heq ▸ hq))
    obtain ⟨hd, hb⟩ := hkept q fun hb => hdisjoint hb (List.mem_cons_of_mem p hq)
    rw [ht, StringContacts.Quiet, hdoor, hbolt, hd, hb]
    exact h q fun heq => hpafter (heq ▸ hq)
  obtain ⟨hd, hb⟩ := hkept p hpbefore
  have hreports := State.scanPosition_reports (s := s.setContacts i x1) (bolts := bolts) (p := p) hf (x := x) (by
    rw [hx, StringContacts.sampled_doors, if_pos hp, State.setContacts_contacts_self, hd])
  simp only [State.setContacts_contacts_self, State.setContacts_setContacts, hd, hb] at hreports
  rw [List.foldl_append, List.foldl_cons, State.scan_quiet hbefore fun _ q hq => h q fun heq => hpbefore (heq ▸ hq),
    hbehind]
  exact hreports

end

/-! ### The whole scan -/

theorem mem_stringPositions {i : StringNo} {p : Position} : p ∈ stringPositions i ↔ i.val < 8 ∨ p.val < 24 := by
  rw [stringPositions_eq, List.mem_filter]
  simp

theorem stringPositions_nodup (i : StringNo) : (stringPositions i).Nodup := by
  rw [stringPositions_eq]
  exact (List.nodup_finRange 32).filter _

section
variable {s : State} {i : StringNo} {doors bolts : BitVec 32} {x : StringContacts}

theorem exec_stringScan {t : State} (h : s.scanString i doors bolts = t) :
    exec (.stringScan i doors bolts) s = .next t.arbitrate :=
  congrArg (fun t : State => Host.Outcome.next t.arbitrate) h

theorem State.scanString_fitted (h : (s.string i).fitting = .fitted) : s.scanString i doors bolts =
    (stringPositions i).foldl (fun s p => s.scanPosition i doors bolts p) s := by
  simp only [State.scanString, h]

/-- The contacts behind a scan, named by what each of them is. -/
theorem StringContacts.sampled_of
    (h : ∀ p : Position, (i.val < 8 ∨ p.val < 24) →
      x.doors[p.val] = ((s.contacts i).doors[p.val]).sample (doors.getLsbD p.val) ∧
      x.bolts[p.val] = ((s.contacts i).bolts[p.val]).sample (bolts.getLsbD p.val))
    (hrest : ∀ p : Position, (i.val = 8 ∧ 24 ≤ p.val) →
      x.doors[p.val] = (s.contacts i).doors[p.val] ∧ x.bolts[p.val] = (s.contacts i).bolts[p.val]) :
    x = (s.contacts i).sampled doors bolts (stringPositions i) := by
  have hi := i.isLt
  have hcase (p : Position) (hp : p ∉ stringPositions i) : i.val = 8 ∧ 24 ≤ p.val := by
    rw [mem_stringPositions] at hp
    omega
  refine StringContacts.ext_contacts (fun p => ?_) fun p => ?_
  · rw [StringContacts.sampled_doors]
    split
    · next hp => exact (h p (mem_stringPositions.1 hp)).1
    · next hp => exact (hrest p (hcase p hp)).1
  · rw [StringContacts.sampled_bolts]
    split
    · next hp => exact (h p (mem_stringPositions.1 hp)).2
    · next hp => exact (hrest p (hcase p hp)).2

theorem State.reportDoor_locker (k : LockerNo) (isOpen : Bool) :
    s.reportDoor (lockerString k) (lockerPosition k) isOpen = if isOpen = true then s.lockerDoorOpened k else s := by
  rw [State.reportDoor, dif_pos (lockerString_lt k), lockerAt_string_position]
  cases isOpen <;> rfl

theorem State.reportBolt_locker (k : LockerNo) (thrown : Bool) :
    s.reportBolt (lockerString k) (lockerPosition k) thrown = s.lockerBoltChange k thrown := by
  rw [State.reportBolt, dif_pos (lockerString_lt k), lockerAt_string_position]

theorem State.reportDoor_cabin (c : CabinNo) (isOpen : Bool) :
    s.reportDoor 8 (cabinPosition c) isOpen = if isOpen = true then s.cabinDoorOpened c else s := by
  rw [State.reportDoor, dif_neg (by decide), dif_pos (show (cabinPosition c).val < 24 from c.isLt)]
  cases isOpen <;> rfl

theorem State.reportBolt_cabin (c : CabinNo) (thrown : Bool) :
    s.reportBolt 8 (cabinPosition c) thrown = s.cabinBoltChange c thrown := by
  rw [State.reportBolt, dif_neg (by decide), dif_pos (show (cabinPosition c).val < 24 from c.isLt)]
  rfl

/-- The report of a door that opens, in the contacts that the scan leaves. -/
theorem State.door_reported (f : State → State) (z : StringContacts) (changes isOpen : Bool) :
    (if changes = true then (if isOpen = true then f (s.setContacts i z) else s.setContacts i z).setContacts i x
      else s.setContacts i x) =
    if (changes && isOpen) = true then (f (s.setContacts i z)).setContacts i x else s.setContacts i x := by
  cases changes
  · rfl
  · cases isOpen
    · exact State.setContacts_setContacts z
    · rfl

/-! ### A string that reaches FITTED -/

theorem State.allEstablished_iff : s.allEstablished i = true ↔ ∀ p : Position, (i.val < 8 ∨ p.val < 24) →
    (s.contacts i).doors[p.val].accepted.isSome = true ∧ (s.contacts i).bolts[p.val].accepted.isSome = true := by
  simp only [State.allEstablished, List.all_eq_true, mem_stringPositions, Bool.and_eq_true]
  rfl

theorem State.scanString_establishing (h : (s.string i).fitting = .establishing) {u : State}
    (hu : (stringPositions i).foldl (fun s p => s.scanPosition i doors bolts p) s = u) :
    s.scanString i doors bolts = if u.allEstablished i = true then u.stringReachesFitted i else u := by
  simp only [State.scanString, h, hu]

/-- A string marked FITTED (R88). -/
def State.fit (s : State) (i : StringNo) : State := s.setString i { s.string i with fitting := .fitted }

/-- Whether the start-up sequence waits for strings to be established (R175). -/
def State.Starts (s : State) : Prop := s.part.part = .starting ∧ s.part.startup = .establishing

/-- The entry into RUNNING (R175). -/
def State.up (s : State) : State :=
  (s.setPart { s.part with part := .running, startup := .done }).post .startComplete .none

theorem State.starts_iff : (s.part.part == .starting && s.part.startup == .establishing) = true ↔ s.Starts := by
  simp [State.Starts]

theorem State.stringReachesFitted_locker (hi : i.val < 8) (h : ¬s.Starts) :
    s.stringReachesFitted i = (s.fit i).checkRunning := by
  have happlied : ¬(s.part.part == .starting && s.part.startup == .establishing) = true := mt State.starts_iff.1 h
  exact (dif_pos hi).trans (congrArg State.checkRunning (if_neg happlied))

theorem State.stringReachesFitted_starts (hi : i.val < 8) (h : s.Starts) :
    s.stringReachesFitted i = ((s.fit i).reconcileString ⟨i.val, hi⟩).checkRunning := by
  have happlied : (s.part.part == .starting && s.part.startup == .establishing) = true := State.starts_iff.2 h
  exact (dif_pos hi).trans (congrArg State.checkRunning (if_pos happlied))

theorem State.stringReachesFitted_restores (hi : ¬i.val < 8) (h : s.Starts ∨ s.part.part = .noStore) :
    s.stringReachesFitted i = (s.fit i).restoreCabins.checkRunning := by
  have hrestores : ((s.part.part == .starting && s.part.startup == .establishing) || s.part.part == .noStore) = true := by
    rw [Bool.or_eq_true, State.starts_iff, beq_iff_eq]
    exact h
  exact (dif_neg hi).trans (congrArg State.checkRunning (if_pos hrestores))

theorem State.stringReachesFitted_cabins (hi : ¬i.val < 8) (h : ¬s.Starts) (hno : s.part.part ≠ .noStore) :
    s.stringReachesFitted i = (s.fit i).checkRunning := by
  have hrestores :
      ¬((s.part.part == .starting && s.part.startup == .establishing) || s.part.part == .noStore) = true := by
    rw [Bool.or_eq_true, State.starts_iff, beq_iff_eq]
    exact fun hor => hor.elim h hno
  exact (dif_neg hi).trans (congrArg State.checkRunning (if_neg hrestores))

theorem State.allFitted_iff : s.allFitted = true ↔
    ∀ j : StringNo, j.val = 8 ∨ j.val < s.settings.fittedStrings → (s.string j).fitting = .fitted := by
  simp only [State.allFitted, Bool.and_eq_true, List.all_eq_true, mem_stringsBetween, State.stringFitted, beq_iff_eq]
  constructor
  · rintro ⟨h8, hall⟩ j hj
    by_cases hj8 : j.val = 8
    · rw [show j = cabinString from Fin.ext hj8]
      exact h8
    · exact hall ⟨j.val, by omega⟩ ⟨Nat.zero_le _, hj.resolve_left hj8⟩
  · exact fun h => ⟨h cabinString (.inl rfl), fun j hj => h (lockerStringNo j) (.inr hj.2)⟩

/-- Whether the string that is now FITTED is the last one the start-up sequence waited for (R175). -/
def State.Finished (s : State) (i : StringNo) : Prop :=
  s.Starts ∧ ∀ j : StringNo, j.val = 8 ∨ j.val < s.settings.fittedStrings → j = i ∨ (s.string j).fitting = .fitted

/-- The test for RUNNING behind a string that has reached FITTED, whatever else its event did. -/
theorem State.checkRunning_fit {t : State} (hpart : t.part = s.part) (hsettings : t.settings = s.settings)
    (hfit : ∀ j, (t.string j).fitting = ((s.fit i).string j).fitting) :
    (s.Finished i → t.checkRunning = t.up) ∧ (¬s.Finished i → t.checkRunning = t) := by
  have hall : (t.part.part = .starting ∧ t.part.startup = .establishing ∧ t.allFitted = true) ↔ s.Finished i := by
    rw [State.allFitted_iff, hpart, hsettings, ← and_assoc]
    refine and_congr_right fun _ => forall_congr' fun j => imp_congr_right fun _ => ?_
    rw [hfit, State.fit, State.setString_string]
    by_cases hj : i = j
    · simp [hj]
    · simp [hj, Ne.symm hj]
  exact ⟨fun h => if_pos (hall.2 h), fun h => if_neg (mt hall.1 h)⟩

end

/-! ### What a string that reaches FITTED does to its lockers and cabins (R175) -/

section
variable {s : State}

/-- R175's table, as a chain of tests. -/
theorem reconciled_eq (st : LockerState) (thrown : Bool) : reconciled st thrown =
    if st = .vacant ∧ thrown = true then .abandoned
    else if st = .opened ∧ thrown = true then .locked
    else if st = .locked ∧ thrown = false then .opened
    else if st = .abandoned ∧ thrown = false then .vacant
    else st := by
  cases st <;> cases thrown <;> rfl

/-- A locker behind its reconciliation with the level of its bolt. -/
def Locker.reconciled (l : Locker) (thrown : Bool) : Locker :=
  if Machine.reconciled l.state thrown = l.state then l
  else { l with state := Machine.reconciled l.state thrown, dirty := true }

theorem State.reconcileLocker_eq (k : LockerNo) : s.reconcileLocker k =
    s.setLocker k ((s.locker k).reconciled (s.boltThrown (lockerString k) (lockerPosition k) == some true)) := by
  simp only [State.reconcileLocker, Locker.reconciled]
  split
  · simp [State.setLocker, State.locker, State.setLockers, Vector.set_getElem_self]
  · rfl

theorem mem_map_lockerAt {i : Fin 8} {k : LockerNo} :
    k ∈ (allFin 32).map (lockerAt i) ↔ (lockerString k).val = i.val := by
  have hk := k.isLt
  simp only [List.mem_map]
  constructor
  · rintro ⟨p, -, rfl⟩
    exact lockerAt_string i p
  · intro h
    refine ⟨lockerPosition k, List.mem_finRange _, Fin.ext ?_⟩
    simp only [lockerAt, lockerPosition, lockerString] at h ⊢
    omega

theorem nodup_map_lockerAt (i : Fin 8) : ((allFin 32).map (lockerAt i)).Nodup :=
  (List.nodup_finRange 32).map fun p q h => Fin.ext (by
    have hval := congrArg Fin.val h
    simp only [lockerAt] at hval
    omega)

/-- The reconciliation of a string: its lockers, each by its own bolt. -/
theorem State.reconcileString_spec (i : Fin 8) : s.LockersOnly (s.reconcileString i) ∧ ∀ k,
    (s.reconcileString i).locker k = if (lockerString k).val = i.val
      then (s.locker k).reconciled (s.boltThrown (lockerString k) (lockerPosition k) == some true) else s.locker k := by
  have step (t : State) (k : LockerNo) (ht : s.LockersOnly t) : t.reconcileLocker k =
      t.setLocker k ((t.locker k).reconciled (s.boltThrown (lockerString k) (lockerPosition k) == some true)) := by
    rw [State.reconcileLocker_eq]
    obtain ⟨x, rfl⟩ := ht
    rfl
  obtain ⟨honly, hlocker⟩ := foldl_record (P := s.LockersOnly) (get := State.locker)
    (f := State.reconcileLocker)
    (g := fun k x => x.reconciled (s.boltThrown (lockerString k) (lockerPosition k) == some true))
    (fun t k ht => by
      rw [step t k ht]
      obtain ⟨x, rfl⟩ := ht
      exact ⟨_, rfl⟩)
    (fun t k j ht => by
      rw [step t k ht, State.setLocker_locker])
    (nodup_map_lockerAt i) ⟨s.lockers.table, rfl⟩
  rw [State.reconcileString, ← List.foldl_map (f := lockerAt i) (g := State.reconcileLocker)]
  exact ⟨honly, fun k => (hlocker k).trans (if_congr mem_map_lockerAt rfl rfl)⟩

/-- The reconciliation, named by the table it leaves. -/
theorem State.reconcileString_table {i : Fin 8} {table : Vector Locker 256}
    (h : ∀ k : LockerNo, table[k.val] = if (lockerString k).val = i.val
      then (s.locker k).reconciled (s.boltThrown (lockerString k) (lockerPosition k) == some true) else s.locker k) :
    s.reconcileString i = s.setLockers { s.lockers with table := table } := by
  obtain ⟨⟨x, hx⟩, hlocker⟩ := s.reconcileString_spec i
  rw [hx] at hlocker ⊢
  have htable : x = table := Vector.ext fun n hn => (hlocker ⟨n, hn⟩).trans (h ⟨n, hn⟩).symm
  rw [htable]

/-- The reconciliation of a string whose contacts are known. -/
theorem State.reconcileString_contacts {i : StringNo} {x : StringContacts} {table : Vector Locker 256} (hi : i.val < 8)
    (hx : s.contacts i = x)
    (h : ∀ k : LockerNo, let st := Machine.reconciled (s.locker k).state (x.bolts[k.val % 32].accepted == some true)
      table[k.val] = if lockerString k = i ∧ st ≠ (s.locker k).state
        then { s.locker k with state := st, dirty := true } else s.locker k) :
    s.reconcileString ⟨i.val, hi⟩ = s.setLockers { s.lockers with table := table } := by
  refine State.reconcileString_table fun k => (h k).trans ?_
  by_cases hk : lockerString k = i
  · have hbolt : s.boltThrown (lockerString k) (lockerPosition k) = x.bolts[k.val % 32].accepted := by
      rw [State.boltThrown, hk, hx]
      rfl
    rw [if_pos (congrArg Fin.val hk), hbolt, Locker.reconciled]
    split
    · next h => exact (if_neg h.2).symm
    · next h => exact (if_pos (by_contra fun hne => h ⟨hk, hne⟩)).symm
  · rw [if_neg fun h => hk (Fin.ext h)]
    exact if_neg fun h => hk h.1

theorem State.restoreCabins_none (h : ∀ c, s.cabinThrown c = false) : s.restoreCabins = s :=
  foldl_allFin_none fun c => if_neg (by simp [h c])

/-- One bolted cabin begins its RESTORE opening (R175). -/
theorem State.restoreCabins_one {c : CabinNo} (hc : s.cabinThrown c = true) (h : ∀ d, d ≠ c → s.cabinThrown d = false) :
    s.restoreCabins = s.openCabin c .restore .free false := by
  have hopen (d : CabinNo) : (s.openCabin c .restore .free false).cabinThrown d = s.cabinThrown d := by
    rw [State.openCabin_eq]
    rfl
  have hself : (if s.cabinThrown c = true then s.openCabin c .restore .free false else s) =
      s.openCabin c .restore .free false := if_pos hc
  refine (foldl_allFin_one (c := c)
    (f := fun s c => if s.cabinThrown c = true then s.openCabin c .restore .free false else s)
    (fun d hd => if_neg (by simp [h d hd])) fun d hd => ?_).trans hself
  rw [hself]
  exact if_neg (by simp [hopen, h d hd])

end

/-- Settles O46: a quiet scan is the sampling of its contacts; where one position changes, its reports read its own two
contacts alone; an ESTABLISHING string reports nothing, and its end is R175's. -/
theorem scanSamples : Obligations.ScanSamples := by
  unfold Obligations.ScanSamples
  refine ⟨fun v a n previous => ⟨?_, ?_, ?_, ?_, fun accepted => ?_⟩, fun s i doors bolts x =>
    ⟨fun h => ?_, fun hx hrest => ?_⟩⟩
  · by_cases hp : previous = some v <;> by_cases hv : v = a <;> simp [Contact.sample, hp, hv]
  · simp [Contact.changes]
  · by_cases h : previous = some v ∨ n = 24 <;> simp [Contact.sample, h]
  · by_cases h : previous = some v ∨ n = 24 <;> simp [Contact.sample, h]
  · cases accepted with
    | some _ => rfl
    | none => by_cases h : previous = some v ∨ n = 24 <;> simp [Contact.sample, h]
  · exact exec_stringScan (by simp only [State.scanString, h])
  · intro run u doorChanges boltChanges
    have hsampled := StringContacts.sampled_of hx hrest
    have hnodup := stringPositions_nodup i
    refine ⟨fun hf hquiet => ?_, fun p hf hquiet => ⟨?_, ?_⟩, ?_⟩
    · refine exec_stringScan ((State.scanString_fitted hf).trans ((State.scan_quiet hnodup fun _ p _ => hquiet p).trans ?_))
      rw [← hsampled]
    · intro k hk hp
      subst hk hp
      have hone := State.scan_one hnodup (mem_stringPositions.2 (.inl (lockerString_lt k))) (beq_iff_eq.2 hf) hquiet
        hsampled
      simp only [State.reportDoor_locker, State.reportBolt_locker] at hone
      rw [State.door_reported fun t => t.lockerDoorOpened k, ← (aside_setContacts (lockerString k) x).lockerDoorOpened,
        State.setContacts_setContacts] at hone
      exact exec_stringScan ((State.scanString_fitted hf).trans hone)
    · intro c hi hp
      subst hi hp
      have hone := State.scan_one hnodup (mem_stringPositions.2 (.inr c.isLt)) (beq_iff_eq.2 hf) hquiet hsampled
      simp only [State.reportDoor_cabin, State.reportBolt_cabin] at hone
      rw [State.door_reported fun t => t.cabinDoorOpened c] at hone
      exact exec_stringScan ((State.scanString_fitted hf).trans hone)
    · intro hf known fit starts finished up
      have hsilent : (stringPositions i).foldl (fun s p => s.scanPosition i doors bolts p) s = u := by
        refine (State.scan_quiet hnodup fun hfit => ?_).trans (by rw [← hsampled])
        rw [State.stringFitted, hf] at hfit
        cases hfit
      have hscan := State.scanString_establishing hf hsilent
      have hknown : u.allEstablished i = true ↔ ∀ p : Position, (i.val < 8 ∨ p.val < 24) → known p := by
        rw [State.allEstablished_iff, State.setContacts_contacts_self]
      refine ⟨fun ⟨p, hp, hn⟩ => exec_stringScan (hscan.trans (if_neg fun h => hn (hknown.1 h p hp))), fun hall => ?_⟩
      have hrun {t : State} (h : u.stringReachesFitted i = t) : run = .next t.arbitrate :=
        exec_stringScan ((hscan.trans (if_pos (hknown.2 hall))).trans h)
      have hends {t v : State} (hreach : u.stringReachesFitted i = t.checkRunning) (ht : t = v)
          (hpart : v.part = s.part) (hsettings : v.settings = s.settings)
          (hfit : ∀ j, (v.string j).fitting = (fit.string j).fitting) :
          (finished → run = .next (up v).arbitrate) ∧ (¬finished → run = .next v.arbitrate) := by
        subst ht
        obtain ⟨hup, hnot⟩ := State.checkRunning_fit (s := u) hpart hsettings hfit
        exact ⟨fun h => hrun (hreach.trans (hup h)), fun h => hrun (hreach.trans (hnot h))⟩
      refine ⟨fun hi hs => ?_, ?_, ?_⟩
      · exact (hends (State.stringReachesFitted_locker hi hs) rfl rfl rfl fun _ => rfl).2 fun h => hs h.1
      · intro table hi hs htable settled
        refine hends (State.stringReachesFitted_starts hi hs)
          (State.reconcileString_contacts hi State.setContacts_contacts_self fun k => ?_) rfl rfl fun _ => rfl
        have hentry := htable k
        simp only [← reconciled_eq] at hentry
        exact hentry
      · intro hi
        subst hi
        have hnot : ¬(8 : StringNo).val < 8 := by decide
        have hthrown (c : CabinNo) : fit.cabinThrown c = (x.bolts[c.val].accepted == some true) :=
          congrArg (fun z : StringContacts => z.bolts[c.val].accepted == some true) State.setContacts_contacts_self
        have hunbolted {c : CabinNo} (h : x.bolts[c.val].accepted ≠ some true) : fit.cabinThrown c = false := by
          rw [hthrown]
          exact beq_eq_false_iff_ne.2 h
        refine ⟨?_, fun h => ?_⟩
        · intro hs c hc hother restoring
          have hstring : fit.string 8 = { s.string 8 with fitting := .fitted } :=
            (State.setString_string ..).trans (if_pos rfl)
          have hpulses : fit.pulsesWith 8 (cabinPosition c) .withdraw = s.pulsesWith 8 (cabinPosition c) .withdraw := by
            rw [State.pulsesWith, State.pulsesWith, hstring]
            rfl
          have hopened : fit.restoreCabins = restoring := by
            rw [State.restoreCabins_one (by rw [hthrown, hc]; rfl) fun d hd => hunbolted (hother d hd),
              State.openCabin_eq, hpulses, hstring]
            rfl
          refine hends (State.stringReachesFitted_restores hnot hs) hopened rfl rfl fun j => ?_
          rw [State.setString_string]
          split
          · next hj => rw [← hj, hstring]
          · rfl
        · by_cases hs : starts ∨ s.part.part = .noStore
          · refine hends (State.stringReachesFitted_restores hnot hs)
              (State.restoreCabins_none fun c => hunbolted ?_) rfl rfl fun _ => rfl
            exact h.resolve_right (fun ⟨h1, h2⟩ => hs.elim h1 h2) c
          · obtain ⟨hstarts, hno⟩ := not_or.1 hs
            exact hends (State.stringReachesFitted_cabins hnot hstarts hno) rfl rfl rfl fun _ => rfl

end Sys2Proof.Machine
end
